-- ==== Sys2Proof/Word.lean ====
section
/-! DEFINITION. The plain types the 808's spec counts in: bytes of the link, and the numbers of lines, trunks and slots. -/

namespace Sys2Proof

/-- A byte of a frame, a reply or a status page; also an 8-bit counter (R89). -/
abbrev Byte := BitVec 8

/-- A line 0..7 of this station (R42). -/
abbrev Line := Fin 8

/-- A trunk number 0..7; trunks 0..N-1 are fitted (R108). -/
abbrev Trunk := Fin 8

/-- The slot 0..7 of an 808 station (R92). -/
abbrev Slot := Fin 8

/-- The slot field 0..15 of a frame's header: 0..7 are stations, 8..15 maintenance equipment (R92). -/
abbrev HeaderSlot := BitVec 4

end Sys2Proof
end

