-- ==== Sys2Proof/Syntax.lean ====
section
/-! DEFINITION. The commands of the block: one constructor for each row of spec/opcode_table.json, with the
operands its rule needs. The table gives its rows no operands of their own: log entry 1.

Every row but the two resets carries `when`, the moment it occurs, in eighths of a cell since the reset ended
(log entry 2): 8 to the cell, 64 to the millisecond. -/

namespace Sys2Proof

/-- What came back of a looped self-test frame (R202, TABLE 11-2). -/
inductive TestOutcome where
  /-- handed whole at EOD with its check good: the bytes in the order received -/
  | handed (bytes : List Byte)
  /-- the receiver reports a check failure at EOD -/
  | checkFailure
  /-- an echo error, or a cell or framing error, of the looped signal -/
  | signalError
deriving DecidableEq, Repr

/-- What the receiver saw of a frame or a reply: the evidence of a receive error (R70, R71, R73 to R76, R81, R94).
Widths and spacings are in eighths of a cell. -/
inductive LineFault where
  /-- a data or reply cell of dominant width `w` (R70) -/
  | cellWidth (w : Nat)
  /-- two data cells' falling edges `d` apart (R71) -/
  | edgeSpacing (d : Nat)
  /-- a start mark of dominant width `w` (R73) -/
  | startMarkWidth (w : Nat)
  /-- the first data edge `d` after the start mark's rising edge (R73) -/
  | gapEdge (d : Nat)
  /-- no data edge in the `d` after the start mark's rising edge (R73) -/
  | gapSilent (d : Nat)
  /-- a cell that begins byte number `n` of a frame or reply, counted from 1 (R74) -/
  | byteBegun (n : Nat)
  /-- the frame or reply ended after `n` cells (R74, R76) -/
  | cellCount (n : Nat)
  /-- the bytes received, check byte included, at EOD or reply EOD (R81) -/
  | checkSum (bytes : List Byte)
  /-- the bytes of a frame whose check is good, judged by the frame layer (R94) -/
  | frameBytes (bytes : List Byte)
  /-- a falling edge `d` after the end of the last cell, before EOF (R75, R76) -/
  | strayEdge (d : Nat)
deriving DecidableEq, Repr

/-- What a transmitter of this station saw go wrong (R79, R83). -/
inductive TransmitFault where
  /-- at half of data or reply cell `cell` it sent a 0 and found the wire recessive (R79) -/
  | echo (cell : Nat)
  /-- its own receiver found an error in the frame or reply it was sending (R83) -/
  | seen (f : LineFault)
deriving DecidableEq, Repr

/-- The commands. Bytes of frames are given field by field in the order of TABLE 12-1, the check byte last; the
header byte is the row's kind times 16 plus `slot` (R92). -/
inductive Instr where
  -- Reset and start-up
  /-- RESET_BEGIN: power-on, or the RESET pin asserted (R207). -/
  | resetBegin
  /-- RESET_END: the reset ends with the fifteen strap pins as they stand, bit 0 the pin of lead 79 (R200, R215). -/
  | resetEnd (pins : BitVec 15)
  /-- TEST_FRAME_OUTCOME (R202). -/
  | testFrameOutcome (when : Nat) (outcome : TestOutcome)
  /-- TEST_FRAME_TIMEOUT (R202). -/
  | testFrameTimeout (when : Nat)
  /-- LISTEN_TIMER (R204). -/
  | listenTimer (when : Nat)
  -- Lines
  /-- LOOP_SAMPLE: the sample of one line's loop-sense input, current present or absent (R2). -/
  | loopSample (when : Nat) (line : Line) (present : Bool)
  /-- OFF_HOOK (R7). -/
  | offHook (when : Nat) (line : Line)
  /-- CLEAR (R61). -/
  | clear (when : Nat) (line : Line)
  /-- DIGIT_COMPLETE (R30). -/
  | digitComplete (when : Nat) (line : Line)
  /-- FIRST_ENTRY_TIMER (R47). -/
  | firstEntryTimer (when : Nat) (line : Line)
  /-- END_OF_DIALLING_TIMER (R48, R53). -/
  | endOfDiallingTimer (when : Nat) (line : Line)
  /-- HUNT_TIMER (R51). -/
  | huntTimer (when : Nat) (line : Line)
  -- Link signalling, sending
  /-- FRAME_START: `joining` when another station's start mark is joined, not driven (R72). -/
  | frameStart (when : Nat) (joining : Bool)
  /-- ARBITRATION_LOST: in data or reply cell `cell`, counted from 0 (R78). -/
  | arbitrationLost (when : Nat) (cell : Nat)
  /-- TRANSMIT_ERROR (R83). -/
  | transmitError (when : Nat) (fault : TransmitFault)
  /-- FRAME_SENT (R106). -/
  | frameSent (when : Nat)
  /-- REPLY_SENT (R101). -/
  | replySent (when : Nat)
  -- Link signalling, receiving
  /-- RECEIVE_ERROR (R82). -/
  | receiveError (when : Nat) (fault : LineFault)
  /-- STUCK_DOMINANT_ABORT (R85). -/
  | stuckDominantAbort (when : Nat)
  /-- LINK_FAILURE (R86). -/
  | linkFailure (when : Nat)
  /-- LINK_RECOVERY (R87). -/
  | linkRecovery (when : Nat)
  -- Frames
  /-- RELEASE at its EOD (R116). -/
  | release (when : Nat) (slot : HeaderSlot) (trunk cause check : Byte)
  /-- OBJECTION: the EOD of a CLAIM (R98). -/
  | objection (when : Nat) (slot : HeaderSlot) (trunk line check : Byte)
  /-- CLAIM at its EOF, with the bytes of the reply read, or none (R99). -/
  | claim (when : Nat) (slot : HeaderSlot) (trunk line check : Byte) (reply : Option (List Byte))
  /-- RETIRE at its EOD (R117). -/
  | retire (when : Nat) (slot : HeaderSlot) (trunk cause check : Byte)
  /-- RESTORE at its EOD (R117). -/
  | restore (when : Nat) (slot : HeaderSlot) (trunk check : Byte)
  /-- REPORT at its EOD (R118). -/
  | report (when : Nat) (slot : HeaderSlot) (count held retired flags check : Byte)
  /-- STATUS_REQUEST at its EOD (R100). -/
  | statusRequest (when : Nat) (slot : HeaderSlot) (target page check : Byte)
  /-- BLOCK_LINE at its EOD (R209). -/
  | blockLine (when : Nat) (slot : HeaderSlot) (target arg check : Byte)
  /-- UNBLOCK_LINE at its EOD (R209). -/
  | unblockLine (when : Nat) (slot : HeaderSlot) (target arg check : Byte)
  /-- RETIRE_TRUNK at its EOD (R210). -/
  | retireTrunk (when : Nat) (slot : HeaderSlot) (target arg check : Byte)
  /-- RESTORE_TRUNK at its EOD (R210). -/
  | restoreTrunk (when : Nat) (slot : HeaderSlot) (target arg check : Byte)
  /-- RESET_PROFILE at its EOD (R33, R209). -/
  | resetProfile (when : Nat) (slot : HeaderSlot) (target arg check : Byte)
  /-- CLEAR_COUNTS at its EOD (R211). -/
  | clearCounts (when : Nat) (slot : HeaderSlot) (target arg check : Byte)
  /-- RESTART at its EOD (R212). -/
  | restart (when : Nat) (slot : HeaderSlot) (target arg check : Byte)
  /-- FRAME_EOF: the EOF of a frame that may take a reply (R75). -/
  | frameEof (when : Nat)
  -- Pool view and hunting
  /-- ABSENCE of a peer slot (R111). -/
  | absence (when : Nat) (slot : Slot)
  /-- REPORT_INTERVAL (R123). -/
  | reportInterval (when : Nat)
  /-- RELEASE_GUARD_EXPIRY (R134). -/
  | releaseGuardExpiry (when : Nat) (trunk : Trunk)
  /-- PROBE_REQUEST (R146). -/
  | probeRequest (when : Nat)
  -- Isolation
  /-- GRACE_TIMER (R192). -/
  | graceTimer (when : Nat)
  /-- ISOLATED_PROBE_TIMER (R192). -/
  | isolatedProbeTimer (when : Nat)
  /-- HOME_TRUNK_MARK (R148). -/
  | homeTrunkMark (when : Nat)
  /-- BUSY_QUIET_MARK (R148). -/
  | busyQuietMark (when : Nat)
  /-- REJOIN_TIMER (R196). -/
  | rejoinTimer (when : Nat)
  -- Trunks
  /-- TRUNK_INPUT_SAMPLE: proceed-to-send, switch-clear and busy, each asserted or not (R151). -/
  | trunkInputSample (when : Nat) (trunk : Trunk) (pts clr busy : Bool)
  /-- PROCEED_TO_SEND (R155). -/
  | proceedToSend (when : Nat) (trunk : Trunk)
  /-- SWITCH_CLEAR (R158). -/
  | switchClear (when : Nat) (trunk : Trunk)
  /-- PTS_TIMER (R156). -/
  | ptsTimer (when : Nat) (trunk : Trunk)
  /-- PROBE_TIMER (R166). -/
  | probeTimer (when : Nat) (trunk : Trunk)
  /-- BREAK_TIMER (R159). -/
  | breakTimer (when : Nat) (trunk : Trunk)
  /-- PROBE_INTERVAL (R164). -/
  | probeInterval (when : Nat) (trunk : Trunk)
  /-- CROSSPOINT_SHIFT_END (R168). -/
  | crosspointShiftEnd (when : Nat)
  -- Senders
  /-- TONE_SAMPLE (R185). -/
  | toneSample (when : Nat) (sender : Fin 2)
  /-- BURST_END (R176). -/
  | burstEnd (when : Nat) (sender : Fin 2)
  /-- GAP_END (R176). -/
  | gapEnd (when : Nat) (sender : Fin 2)
  /-- RECALL_SILENCE_END (R180). -/
  | recallSilenceEnd (when : Nat) (sender : Fin 2)
  -- The rest of the table
  /-- RECEIVER_IDLE (R77). -/
  | receiverIdle (when : Nat)
  /-- UNLISTED_COMMAND: a COMMAND with the code `code` that TABLE 12-4 does not list (R101). -/
  | unlistedCommand (when : Nat) (slot : HeaderSlot) (target code arg check : Byte)
deriving DecidableEq, Repr

end Sys2Proof
end

