-- ==== Sys2Proof/Machine/State.lean ====
section
/-! DEFINITION. Everything the spec gives the station, as plain data, and the station right after a reset.

Times are scan times in whole milliseconds (R1), except `now` and the link's and senders' moments, which are
in eighths of a cell since the reset ended (log entry 2). -/

namespace Sys2Proof.Machine

open Sys2Proof

/-! ## Station Control (Sections 10 and 11) -/

/-- The station states of TABLE 11-1. -/
inductive StationState where
  | strapCheck | selfTest | listen | active | isolated | rejoin | strapFault | testFault | slotConflict
deriving DecidableEq, Repr

/-- The sending mode of the MODE strap (R200). -/
inductive SendingMode where
  | overlap | enBloc
deriving DecidableEq, Repr

/-- The six strap values held since the end of the last reset (R200); TRUNKS and START as strap values. -/
structure Straps where
  slot : Slot
  shelf : Fin 16
  trunks : Fin 8
  mode : SendingMode
  start : Fin 4
  profile : Fin 4
deriving DecidableEq, Repr

/-- Station Control's own state (Section 11). -/
structure Control where
  station : StationState
  straps : Straps
  /-- expiry of the listen timer (R203) -/
  listenTimer : Option Nat
  /-- the test frame in hand, 1..3 (R202) -/
  testFrame : Nat
  /-- the start mark of the test frame in flight, if it has begun (R202) -/
  testStart : Option Nat
  ready : Bool
  alarm : Bool
  /-- a RESTART has been carried out and the receiver is not yet finished with its frame (R212) -/
  restartDue : Bool
deriving DecidableEq, Repr

/-- The isolation record (R188). -/
structure Isolation where
  entryTime : Option Nat
  grace : Option Nat
  probeTimer : Option Nat
  rejoinTimer : Option Nat
deriving DecidableEq, Repr

/-! ## Line Scanner (Section 1) -/

/-- The filtered loop state (R3). -/
inductive Loop where
  | opened | closed
deriving DecidableEq, Repr

/-- The off-hook guard of one line (R7): running since a time, or past its mark. -/
inductive Guard where
  | off
  | running (start : Nat)
  | marked
deriving DecidableEq, Repr

/-- The Line Scanner's record of one line (R2, R3, R7, R13). -/
structure ScanLine where
  integ : Fin 8
  loop : Loop
  lastEdge : Nat
  guard : Guard
  glitches : Byte
  /-- the model's own: scan time of the last sample (log entry 5) -/
  lastSample : Nat
deriving DecidableEq, Repr

/-! ## Pulse Decoder (Section 2) -/

/-- The pending pulse (R17): its break's length and start. -/
structure Pulse where
  brk : Nat
  start : Nat
deriving DecidableEq, Repr

/-- The interval in progress as the decoder measures it (R17). -/
inductive Interval where
  | make (start : Nat)
  | brk (start : Nat)
deriving DecidableEq, Repr

/-- The resume point (R17, R21): the judged make's start and threshold, and the pulse its judgement completed. -/
structure Resume where
  start : Nat
  threshold : Nat
  completed : Option Pulse
deriving DecidableEq, Repr

/-- The Pulse Decoder's records of one line: dial profile (R16), digit record (R17) and counters (R39). -/
structure Decoder where
  p : Nat
  lastM : Option Nat
  lastR : Option Nat
  count : Nat
  overCount : Bool
  /-- the pulse list, oldest first: break and make lengths -/
  pulses : List (Nat × Nat)
  pulse : Option Pulse
  interval : Option Interval
  threshold : Option Nat
  resume : Option Resume
  noise : Byte
  merged : Byte
  doubtful : Byte
  recalls : Byte
  speed : Byte
  digits : Byte
  mutilated : Byte
deriving DecidableEq, Repr

/-! ## Call Controller (Section 3) -/

/-- The kind of a queue entry, with the digit of a DIGIT (R34). -/
inductive EntryKind where
  | digit (d : Fin 10)
  | mutilated
  | recall
deriving DecidableEq, Repr

/-- A queue entry (R34, TABLE 2-4). -/
structure Entry where
  kind : EntryKind
  pulses : Option Nat
  period : Option Nat
  ratio : Option Nat
  speed : Bool
  early : Bool
deriving DecidableEq, Repr

/-- The call states (TABLE 3-2). -/
inductive CallState where
  | idle | collecting | hunting | seizing | dialling | lockout | blocked
deriving DecidableEq, Repr

/-- The end-of-dialling timer (R42): stopped, running with an expiry time, or expired. -/
inductive DialTimer where
  | stopped
  | running (expiry : Nat)
  | expired
deriving DecidableEq, Repr

/-- The call record of one line (R42) and its two counters (R65). -/
structure CallRecord where
  state : CallState
  trunk : Option Trunk
  queue : List Entry
  identitySent : Bool
  firstDigitSent : Bool
  spoiled : Bool
  overflow : Bool
  audio : Bool
  localTone : Bool
  pendingBlock : Bool
  failures : Nat
  huntTimer : Option Nat
  dialTimer : DialTimer
  firstTimer : Option Nat
  overflows : Byte
  lockouts : Byte
deriving DecidableEq, Repr

/-! ## Link Controller (Sections 4 and 5) -/

/-- One sample of the signal the receiver reads (R68): the moment, and the level the wire has from then on, as all the
stations together make it. In LOOPBACK the receiver is fed by its own transmitter and not by the wire, so the sample is
its moment alone (R88). Log entry 20. -/
structure WireSample where
  when : Nat
  dominant : Bool
deriving DecidableEq, Repr

/-- The modes of the Link Controller (R68). -/
inductive LinkMode where
  | wire | loopback | off
deriving DecidableEq, Repr

/-- The receiver states of TABLE 4-3. -/
inductive RxState where
  | waitEof | idle | startMark | gap | data | afterData | reply | afterReply
deriving DecidableEq, Repr

/-- The link health (R86). -/
inductive Health where
  | good | failed
deriving DecidableEq, Repr

/-- The acknowledgements of a COMMAND (R101). -/
inductive Ack where
  | done | deferred | refused
deriving DecidableEq, Repr

/-- What a reply this station drives answers (R98, R100, R101). -/
inductive ReplyKind where
  | objection
  | status
  | command (code arg : Byte) (ack : Ack)
deriving DecidableEq, Repr

/-- A reply this station drives, check byte included, and the moment of its first falling edge: the EOD of the frame
it answers (R76). -/
structure Reply where
  bytes : List Byte
  kind : ReplyKind
  start : Nat
deriving DecidableEq, Repr

/-- The Link Controller's state but for the transmit queue (Section 4). -/
structure Link where
  mode : LinkMode
  rx : RxState
  /-- the frame in AFTER DATA may take a reply (R74) -/
  mayReply : Bool
  frameBuf : List Byte
  replyBuf : List Byte
  /-- the cells read of the byte in hand, the first read first (R74) -/
  bits : List Bool
  /-- the level the receiver last saw: dominant, or recessive (R68) -/
  dominant : Bool
  /-- the wire's last falling edge, from which the cell timer runs (R69) -/
  fallAt : Nat
  /-- the cell, counted from the start mark's or the reply's first, that this edge began of what this station sends (R69) -/
  fallCell : Nat
  /-- the wire's last edge of either kind (R87) -/
  edgeAt : Nat
  /-- the own-frame marker (R80): the bytes of this station's frame on the wire, not lost to another -/
  own : Option (List Byte)
  reply : Option Reply
  /-- this station drove the reply of the frame in hand to its EOD (R198) -/
  replyDriven : Bool
  /-- the moment the recessive time runs from (R72) -/
  recessiveFrom : Nat
  /-- the moment of the last sample that showed the recessive wire unchanged (R68) -/
  recessiveAt : Nat
  /-- the moment WIRE mode was entered (R88) -/
  wireFrom : Nat
  /-- the moment of the last abort taken of a stuck wire (R85) -/
  stuckAbort : Option Nat
  /-- the moment of the last link failure taken (R86) -/
  stuckFailure : Option Nat
  health : Health
  errorRun : Nat
  rxErrors : Byte
  txErrors : Byte
  arbLosses : Byte
  failures : Byte
deriving DecidableEq, Repr

/-- The causes of a RELEASE and a RETIRE (TABLE 12-3). -/
inductive Cause where
  | lineClear | switchClear | ptsFail | busyConflict | yield | probeDone | maintenance
deriving DecidableEq, Repr

/-- A frame of the transmit queue (R103); a REPORT carries its isolated-probe flag alone (R104). A CLAIM's line is
absent for a probe. -/
inductive TxFrame where
  | release (trunk : Trunk) (cause : Cause)
  | claim (trunk : Trunk) (line : Option Line)
  | retire (trunk : Trunk) (cause : Cause)
  | restore (trunk : Trunk)
  | report (isolatedProbe : Bool)
deriving DecidableEq, Repr

/-- The keys of the transmit queue (R103). -/
inductive TxKey where
  | release (trunk : Trunk)
  | claim
  | retirement (trunk : Trunk)
  | report
deriving DecidableEq, Repr

/-- A queued frame and its age, the moment it joined (R103). -/
structure QFrame where
  frame : TxFrame
  age : Nat
deriving DecidableEq, Repr

/-- The frame in flight: its bytes as they go on the wire, and its start mark's moment (R72). -/
structure Flight where
  frame : TxFrame
  bytes : List Byte
  start : Nat
deriving DecidableEq, Repr

/-- The transmit queue (R103): the frames held, the one of them in flight, and a frame waiting beside that one (R104). -/
structure TxQueue where
  frames : List QFrame
  flight : Option Flight
  waiting : Option QFrame
deriving DecidableEq, Repr

/-! ## Trunk Pool View (Section 6) -/

/-- State, holder slot and holder line of a trunk entry (TABLE 6-1); in OWN the holder is this station. -/
inductive Holding where
  | free
  | held (slot : Slot) (line : Option Line)
  | own (line : Option Line)
deriving DecidableEq, Repr

/-- A trunk entry (R108). -/
structure TrunkEntry where
  holding : Holding
  retiredBy : Option Slot
  seizures : BitVec 16
  failures : Nat
  freeSince : Nat
  busyMismatch : Bool
deriving DecidableEq, Repr

/-- A presence entry (R110): a slot is present exactly when it has a last-heard time. -/
structure Presence where
  heard : Option Nat
  trunkCount : Option Nat
  mismatch : Bool
deriving DecidableEq, Repr

/-- The Trunk Pool View (R108, R110, R123, R128). -/
structure PoolView where
  entries : Vector TrunkEntry 8
  presence : Vector Presence 8
  reportInterval : Option Nat
  staleReleases : Byte
  dualHolds : Byte
  probeReports : Byte
deriving DecidableEq, Repr

/-! ## Hunt Unit (Section 7) -/

/-- The owner of the pending claim (R136). -/
inductive Owner where
  | line (l : Line)
  | probe
  | lapsed
deriving DecidableEq, Repr

/-- The stage of the pending claim (R136). -/
inductive Stage where
  | queued | inFlight
deriving DecidableEq, Repr

/-- The pending claim (R136). -/
structure Claim where
  trunk : Trunk
  owner : Owner
  stage : Stage
deriving DecidableEq, Repr

/-- The Hunt Unit (R131, R136, R146, R148). -/
structure HuntUnit where
  queue : List Line
  claim : Option Claim
  probe : Option Trunk
  idleSince : Option Nat
deriving DecidableEq, Repr

/-! ## Trunk Supervisor (Section 8) -/

/-- The purpose of a session (R152). -/
inductive Purpose where
  | line (l : Line)
  | probe
deriving DecidableEq, Repr

/-- The session states (TABLE 8-2). -/
inductive SessionState where
  | waitPts | established | recallBreak | probeWait
deriving DecidableEq, Repr

/-- A session (R152). `opened` is the moment it opened, from which its runs are counted (R151). -/
structure Session where
  purpose : Purpose
  state : SessionState
  answer : Option Nat
  breakTimer : Option Nat
  retireAtRelease : Bool
  opened : Nat
deriving DecidableEq, Repr

/-- The inputs of one trunk as last sampled (R151): a run is held as its first sample, and reaches to `lastSample`. -/
structure TrunkInput where
  busy : Bool
  ptsRun : Option Nat
  clrRun : Option Nat
  lastSample : Nat
deriving DecidableEq, Repr

/-- A crosspoint shift in progress (R168): its start, the copy it sends, and whether a state changed meanwhile. -/
structure Shift where
  start : Nat
  copy : Vector Bool 64
  again : Bool
deriving DecidableEq, Repr

/-- The Trunk Supervisor (R151, R152, R164, R167, R168). Pair of line `l` and trunk `t` is place `8 l + t`. -/
structure Supervisor where
  sessions : Vector (Option Session) 8
  inputs : Vector TrunkInput 8
  probeIntervals : Vector (Option Nat) 8
  seize : Vector Bool 8
  points : Vector Bool 64
  shift : Option Shift
  portData : Bool
  latched : Option (Vector Bool 64)
deriving DecidableEq, Repr

/-! ## Tone senders (Section 9) -/

/-- The sender states (TABLE 9-2). -/
inductive SenderState where
  | free | tone | gap | recallWait | recallSilence
deriving DecidableEq, Repr

/-- The sixteen codes of TABLE 9-7. -/
inductive Code where
  | digit (d : Fin 10)
  | a | b | c | d | star | hash
deriving DecidableEq, Repr

/-- Where the code in hand comes from (R172): a place 1..5 of the identity block, or the head entry. -/
inductive Source where
  | identity (position : Nat)
  | entry
deriving DecidableEq, Repr

/-- A sender (R172), with its output code and select output (R175). `endsAt` is the moment its present burst, gap
or recall silence ends; `samples` is the number of the burst's next sample (R178). -/
structure Sender where
  state : SenderState
  trunk : Option Trunk
  line : Option Line
  source : Option Source
  code : Option Code
  lowPhase : BitVec 16
  highPhase : BitVec 16
  endsAt : Nat
  samples : Nat
  output : BitVec 10
  select : Option Trunk
deriving DecidableEq, Repr

/-- The Sender Arbiter (R173, R174): the request set, lowest line first, and the line last granted. -/
structure Arbiter where
  requests : List Line
  pointer : Line
deriving DecidableEq, Repr

/-! ## The station -/

/-- The whole state of the block. -/
structure State where
  now : Nat
  inReset : Bool
  ctl : Control
  iso : Isolation
  scan : Vector ScanLine 8
  dec : Vector Decoder 8
  calls : Vector CallRecord 8
  /-- the local-dial-tone outputs (R63) -/
  ldt : Vector Bool 8
  /-- the lockout outputs (R64) -/
  lko : Vector Bool 8
  link : Link
  tx : TxQueue
  view : PoolView
  hunt : HuntUnit
  sup : Supervisor
  senders : Vector Sender 2
  arb : Arbiter
  /-- the model's own: picks the next free ordering (log entry 6) -/
  freeIndex : Nat
  /-- the samples of the wire that the receiver has not read yet, first in, first out (R68; log entry 20) -/
  wire : List WireSample
  /-- the model's own: the commands that wait, first in, first out -/
  pending : List Instr
deriving DecidableEq, Repr

/-- No rule of the spec stops the part with a machine fault, so no step of the model ends in one: the type has no
constructor. -/
inductive Fault where
deriving DecidableEq, Repr

/-- Why a command is refused. -/
inductive Refusal where
  /-- raised by an arm of `exec` whose row has no meaning yet; safe -/
  | notModelled (mnemonic : String)
deriving DecidableEq, Repr

/-! ## Reset values -/

/-- R14. -/
def ScanLine.reset : ScanLine :=
  { integ := 0, loop := .opened, lastEdge := 0, guard := .off, glitches := 0, lastSample := 0 }

/-- R40. -/
def Decoder.reset : Decoder :=
  { p := 100, lastM := none, lastR := none, count := 0, overCount := false, pulses := [], pulse := none,
    interval := none, threshold := none, resume := none, noise := 0, merged := 0, doubtful := 0,
    recalls := 0, speed := 0, digits := 0, mutilated := 0 }

/-- R66. -/
def CallRecord.reset : CallRecord :=
  { state := .idle, trunk := none, queue := [], identitySent := false, firstDigitSent := false,
    spoiled := false, overflow := false, audio := false, localTone := false, pendingBlock := false,
    failures := 0, huntTimer := none, dialTimer := .stopped, firstTimer := none, overflows := 0,
    lockouts := 0 }

/-- R90; the buffers and the markers that R90 does not name are empty (DESIGN CHOICE, log entry 4). -/
def Link.reset : Link :=
  { mode := .loopback, rx := .waitEof, mayReply := false, frameBuf := [], replyBuf := [], bits := [],
    dominant := false, fallAt := 0, fallCell := 0, edgeAt := 0, own := none, reply := none,
    replyDriven := false, recessiveFrom := 0, recessiveAt := 0, wireFrom := 0, stuckAbort := none,
    stuckFailure := none, health := .good, errorRun := 0, rxErrors := 0, txErrors := 0, arbLosses := 0, failures := 0 }

/-- R107. -/
def TxQueue.reset : TxQueue := { frames := [], flight := none, waiting := none }

/-- R129. -/
def TrunkEntry.reset : TrunkEntry :=
  { holding := .free, retiredBy := none, seizures := 0, failures := 0, freeSince := 0, busyMismatch := false }

/-- R129. -/
def Presence.reset : Presence := { heard := none, trunkCount := none, mismatch := false }

/-- R129. -/
def PoolView.reset : PoolView :=
  { entries := Vector.replicate 8 TrunkEntry.reset, presence := Vector.replicate 8 Presence.reset,
    reportInterval := none, staleReleases := 0, dualHolds := 0, probeReports := 0 }

/-- R149. -/
def HuntUnit.reset : HuntUnit := { queue := [], claim := none, probe := none, idleSince := none }

/-- R170: before its first sample an input reads idle. -/
def TrunkInput.reset : TrunkInput := { busy := false, ptsRun := none, clrRun := none, lastSample := 0 }

/-- R170; the crosspoint port makes one shift with every state open at the end of reset (R168). -/
def Supervisor.reset : Supervisor :=
  { sessions := Vector.replicate 8 none, inputs := Vector.replicate 8 TrunkInput.reset,
    probeIntervals := Vector.replicate 8 none, seize := Vector.replicate 8 false,
    points := Vector.replicate 64 false,
    shift := some { start := 0, copy := Vector.replicate 64 false, again := false },
    portData := false, latched := none }

/-- R186. -/
def Sender.reset : Sender :=
  { state := .free, trunk := none, line := none, source := none, code := none, lowPhase := 0,
    highPhase := 0, endsAt := 0, samples := 0, output := 512, select := none }

/-- R186. -/
def Arbiter.reset : Arbiter := { requests := [], pointer := 7 }

/-- R188. -/
def Isolation.reset : Isolation := { entryTime := none, grace := none, probeTimer := none, rejoinTimer := none }

/-- Open strap pins read 0 (R215): slot 0, shelf 0, one trunk, OVERLAP, start threshold 1, profile 0. -/
def Straps.allLow : Straps := { slot := 0, shelf := 0, trunks := 0, mode := .overlap, start := 0, profile := 0 }

/-- SELF TEST, entered through STRAP CHECK at the instant the reset ends (R201), with these straps held. -/
def Control.reset (straps : Straps) : Control :=
  { station := .selfTest, straps, listenTimer := none, testFrame := 1, testStart := none, ready := false,
    alarm := false, restartDue := false }

/-- The machine right after a reset (R207) with the strap pins open: log entry 3 (DESIGN CHOICE) for the pins. -/
def State.reset : State :=
  { now := 0, inReset := false, ctl := Control.reset Straps.allLow, iso := Isolation.reset,
    scan := Vector.replicate 8 ScanLine.reset, dec := Vector.replicate 8 Decoder.reset,
    calls := Vector.replicate 8 CallRecord.reset, ldt := Vector.replicate 8 false,
    lko := Vector.replicate 8 false, link := Link.reset, tx := TxQueue.reset, view := PoolView.reset,
    hunt := HuntUnit.reset, sup := Supervisor.reset, senders := Vector.replicate 2 Sender.reset,
    arb := Arbiter.reset, freeIndex := 0, wire := [], pending := [] }

end Sys2Proof.Machine
end

