-- ==== Sys2Proof/Decode.lean ====
section
/-! DEFINITION. The commands a word spells. No row of spec/opcode_table.json gives a command any bits: the 808 has no
command word, and its commands are events, timers and frames given field by field. -/

namespace Sys2Proof

/-- The command of a word of `nbits` bits: none, for no row of the table gives bits. -/
def decodeTableWord (_nbits _w : Nat) : Option Instr := none

end Sys2Proof
end

