-- ==== Sys2Proof/Machine/Timing.lean ====
section
/-! DEFINITION. The units of time and the timing constants of TABLE 12-8. -/

namespace Sys2Proof.Machine

open Sys2Proof

/-- One cell of 125 microseconds, in the model's unit, the eighth of a cell (R69). -/
def cell : Nat := 8

/-- One millisecond: eight ticks of the 8 kHz timebase, each one cell (R1, R69). -/
def milli : Nat := 64

/-- Scan time: whole milliseconds since scanning began (R1). -/
def State.scanTime (s : State) : Nat := s.now / milli

/-- Time moves to the moment a command occurs, and never back. -/
def State.advance (s : State) (when : Nat) : State := { s with now := max s.now when }

/-- A timer that is running with its expiry reached: "it expires at the scan time equal to its expiry time". -/
def due (timer : Option Nat) (time : Nat) : Bool :=
  match timer with
  | some expiry => expiry ≤ time
  | none => false

-- Sections 1 to 3, in ms
def guardTime : Nat := 60
def clearTime : Nat := 900
def huntTime : Nat := 10000
def dialTime : Nat := 4000
def firstEntryTime : Nat := 20000
-- Section 4, in cells
def eodCells : Nat := 2
def eofCells : Nat := 4
def nextStartCells : Nat := 5
def abortCells : Nat := 16
def failureCells : Nat := 400
def recoveryCells : Nat := 8000
-- Sections 6 to 8, in ms
def reportTime : Nat := 2000
def absenceTime : Nat := 6500
def releaseGuardTime : Nat := 300
def homeWaitTime : Nat := 7000
def busyQuietTime : Nat := 1000
def answerTime : Nat := 3000
def runTime : Nat := 20
def breakTime : Nat := 100
def probeTime : Nat := 120000
/-- Ticks of a crosspoint shift with its latch (R168). -/
def shiftTicks : Nat := 65
-- Sections 9 to 11, in ms
def recallSilenceTime : Nat := 300
def graceTime : Nat := 7000
def isolatedProbeTime : Nat := 2000
def rejoinTime : Nat := 4500
def listenTime : Nat := 4500

/-- Tone-on time of each tone profile, and the silence after it, in ms (R178). -/
def toneTime (profile : Fin 4) : Nat :=
  match profile with
  | 0 => 80
  | 1 => 60
  | 2 => 100
  | 3 => 50

/-- Burst samples of each tone profile (R178): eight to the millisecond. -/
def burstSamples (profile : Fin 4) : Nat := 8 * toneTime profile

/-- The listen timer expires at the first scan time at or after 4.5 s from the entry (R203). -/
def listenExpiry (now : Nat) : Nat := (now + listenTime * milli + (milli - 1)) / milli

end Sys2Proof.Machine
end

