-- ==== Sys2Proof/Machine/Flags.lean ====
section
/-! DEFINITION. Saturating counters, the conditions the rules read off the state, and the READY and ALARM outputs. -/

namespace Sys2Proof.Machine

open Sys2Proof

/-- An 8-bit counter counted once: it saturates at 255 (R13, R39, R65, R89, R128). -/
def counted (c : Byte) : Byte := if c = 255 then c else c + 1

/-- A flag as the number a status page sums. -/
def bit (b : Bool) : Nat := if b then 1 else 0

/-- The halt states (R205). -/
def StationState.halted : StationState → Bool
  | .strapFault | .testFault | .slotConflict => true
  | _ => false

/-- READY is on in ACTIVE, ISOLATED and REJOIN (R206). -/
def StationState.ready : StationState → Bool
  | .active | .isolated | .rejoin => true
  | _ => false

/-- ALARM is on in ISOLATED and in the halt states (R206). -/
def StationState.alarm : StationState → Bool
  | .isolated | .strapFault | .testFault | .slotConflict => true
  | _ => false

/-- Calls start in ACTIVE and ISOLATED (R44, TABLE 11-1). -/
def StationState.callsStart : StationState → Bool
  | .active | .isolated => true
  | _ => false

/-- The decoding states (R18). -/
def CallState.decoding : CallState → Bool
  | .collecting | .hunting | .seizing | .dialling => true
  | _ => false

/-- A call is any state other than IDLE and BLOCKED (TABLE 3-2). -/
def CallState.inCall : CallState → Bool
  | .idle | .blocked => false
  | _ => true

/-- The station runs: no reset is in progress and it is in no halt state (R205, R207). -/
def State.running (s : State) : Bool := !s.inReset && !s.ctl.station.halted

/-- The trunk count N (R200). -/
def Straps.trunkCount (p : Straps) : Nat := p.trunks.val + 1

/-- The overlap start threshold k (R200). -/
def Straps.threshold (p : Straps) : Nat := p.start.val + 1

/-- N of this station. -/
def State.n (s : State) : Nat := s.ctl.straps.trunkCount

/-- A fitted trunk (R108). -/
def State.fitted (s : State) (t : Trunk) : Bool := t.val < s.n

/-- This station's slot. -/
def State.slot (s : State) : Slot := s.ctl.straps.slot

/-- The station gives replies: ACTIVE, ISOLATED after its grace, REJOIN (R102). -/
def State.replies (s : State) : Bool :=
  match s.ctl.station with
  | .active | .rejoin => true
  | .isolated => s.iso.grace.isNone
  | _ => false

/-- Station state and its two outputs change together (R206). -/
def Control.enter (c : Control) (st : StationState) : Control :=
  { c with station := st, ready := st.ready, alarm := st.alarm }

end Sys2Proof.Machine
end

