-- ==== Sys2Proof/Machine/Ops.lean ====
section
/-! DEFINITION. The named reads and writes of State: one accessor and one update for each kind of record, through
which every other operation goes. -/

namespace Sys2Proof.Machine

open Sys2Proof

/-! ## Records by line, trunk, slot and sender -/

def State.scanLine (s : State) (l : Line) : ScanLine := s.scan[l]
def State.decoder (s : State) (l : Line) : Decoder := s.dec[l]
def State.call (s : State) (l : Line) : CallRecord := s.calls[l]
def State.entry (s : State) (t : Trunk) : TrunkEntry := s.view.entries[t]
def State.peer (s : State) (p : Slot) : Presence := s.view.presence[p]
def State.session (s : State) (t : Trunk) : Option Session := s.sup.sessions[t]
def State.input (s : State) (t : Trunk) : TrunkInput := s.sup.inputs[t]
def State.sender (s : State) (i : Fin 2) : Sender := s.senders[i]

def State.setScan (s : State) (l : Line) (x : ScanLine) : State := { s with scan := s.scan.set l x }
def State.setDec (s : State) (l : Line) (x : Decoder) : State := { s with dec := s.dec.set l x }
def State.setCall (s : State) (l : Line) (x : CallRecord) : State := { s with calls := s.calls.set l x }
def State.setLdt (s : State) (l : Line) (on : Bool) : State := { s with ldt := s.ldt.set l on }
def State.setLko (s : State) (l : Line) (on : Bool) : State := { s with lko := s.lko.set l on }
def State.setSender (s : State) (i : Fin 2) (x : Sender) : State := { s with senders := s.senders.set i x }

def State.setView (s : State) (v : PoolView) : State := { s with view := v }
def State.setEntry (s : State) (t : Trunk) (x : TrunkEntry) : State :=
  s.setView { s.view with entries := s.view.entries.set t x }
def State.setPeer (s : State) (p : Slot) (x : Presence) : State :=
  s.setView { s.view with presence := s.view.presence.set p x }

def State.setSup (s : State) (x : Supervisor) : State := { s with sup := x }
def State.setSession (s : State) (t : Trunk) (x : Option Session) : State :=
  s.setSup { s.sup with sessions := s.sup.sessions.set t x }
def State.setInput (s : State) (t : Trunk) (x : TrunkInput) : State :=
  s.setSup { s.sup with inputs := s.sup.inputs.set t x }
def State.setProbeInterval (s : State) (t : Trunk) (x : Option Nat) : State :=
  s.setSup { s.sup with probeIntervals := s.sup.probeIntervals.set t x }
def State.setSeize (s : State) (t : Trunk) (on : Bool) : State :=
  s.setSup { s.sup with seize := s.sup.seize.set t on }

def State.setLink (s : State) (x : Link) : State := { s with link := x }
def State.setTx (s : State) (x : TxQueue) : State := { s with tx := x }
def State.setHunt (s : State) (x : HuntUnit) : State := { s with hunt := x }
def State.setCtl (s : State) (x : Control) : State := { s with ctl := x }
def State.setIso (s : State) (x : Isolation) : State := { s with iso := x }
def State.setArb (s : State) (x : Arbiter) : State := { s with arb := x }

/-! ## Timers -/

/-- The expiry of a timer started now for `d` ms: scan times are whole milliseconds (R42, R188; log entry 8). -/
def State.after (s : State) (d : Nat) : Option Nat := some (s.scanTime + d)

/-- The moment `d` ms from now, to the eighth of a cell. -/
def State.moment (s : State) (d : Nat) : Nat := s.now + d * milli

/-! ## Crosspoints (R167, R168) -/

/-- The place of a pair among the 64 connect states (R215). -/
def pairIndex (l : Line) (t : Trunk) : Fin 64 := ⟨8 * l.val + t.val, by omega⟩

/-- The pair of line `l` and trunk `t` is closed. -/
def State.closed (s : State) (l : Line) (t : Trunk) : Bool := s.sup.points[pairIndex l t]

/-- A shift is called for at `now`: one begins with a copy of all 64 states, or a further one will when the shift in
progress ends (R168). The spec does not say whether a change between two 8 kHz ticks waits for the next tick: the shift
begins at once, and its ticks are counted from that moment (DESIGN CHOICE, log entry 21). -/
def Supervisor.shiftCalled (x : Supervisor) (now : Nat) : Supervisor :=
  { x with shift := some <|
      match x.shift with
      | none => { start := now, copy := x.points, again := false }
      | some sh => { sh with again := true } }

/-- A change of a connect state calls for a shift (R168). -/
def State.callShift (s : State) : State := s.setSup (s.sup.shiftCalled s.now)

/-- The connect states become `points`; a shift is called for if any of them changes. -/
def State.setPoints (s : State) (points : Vector Bool 64) : State :=
  if points = s.sup.points then s else (s.setSup { s.sup with points }).callShift

/-- Every closed pair of trunk `t` is opened (R160, R167). -/
def State.openTrunk (s : State) (t : Trunk) : State :=
  s.setPoints (Vector.ofFn fun i => s.sup.points[i] && i.val % 8 ≠ t.val)

/-- The pair of line `l` and trunk `t` is closed if there is a session on `t` for `l` in ESTABLISHED or RECALL
BREAK; otherwise the request has no effect (R167). -/
def State.closePair (s : State) (l : Line) (t : Trunk) : State :=
  match s.session t with
  | some ses =>
    if ses.purpose = .line l ∧ (ses.state = .established ∨ ses.state = .recallBreak) then
      s.setPoints (s.sup.points.set (pairIndex l t) true)
    else s
  | none => s

/-! ## Line outputs -/

/-- Local dial tone is turned off: the flag and the output (R63). -/
def State.toneOff (s : State) (l : Line) : State :=
  (s.setCall l { s.call l with localTone := false }).setLdt l false

/-! ## Counters -/

def State.countCall (s : State) (l : Line) (f : CallRecord → CallRecord) : State := s.setCall l (f (s.call l))

/-- A receive error is counted (R82, R89). -/
def State.countRx (s : State) : State := s.setLink { s.link with rxErrors := counted s.link.rxErrors }

end Sys2Proof.Machine
end

