-- ==== Sys2Proof/Machine/Operands.lean ====
section
/-! DEFINITION. The operand forms: strap pins, cells and bytes of the link, the check byte, the frames of
TABLE 12-1 read and written, and the evidence of a receive error. -/

namespace Sys2Proof.Machine

open Sys2Proof

/-! ## Strap pins (R200, R215) -/

/-- The strap values of the fifteen pins: pin 0 of a strap weighs 1. Bits 0..2 are SLOT (leads 79 to 81), 3..6
SHELF, 7..9 TRUNKS, 10 MODE, 11..12 START, 13..14 PROFILE (TABLE 12-7). -/
def readStraps (pins : BitVec 15) : Straps :=
  { slot := (pins.extractLsb' 0 3).toFin
    shelf := (pins.extractLsb' 3 4).toFin
    trunks := (pins.extractLsb' 7 3).toFin
    mode := if pins.getLsbD 10 then .enBloc else .overlap
    start := (pins.extractLsb' 11 2).toFin
    profile := (pins.extractLsb' 13 2).toFin }

/-! ## Bytes and cells (R69, R74, R81) -/

/-- The sum of bytes modulo 256 (R81). -/
def byteSum (bytes : List Byte) : Byte := bytes.foldl (· + ·) 0

/-- The check byte a sender sets: 255 minus the sum of all the bytes before it (R81). -/
def checkByte (bytes : List Byte) : Byte := 255 - byteSum bytes

/-- A frame or reply with its check byte. -/
def withCheck (bytes : List Byte) : List Byte := bytes ++ [checkByte bytes]

/-- A receiver accepts the check when every byte, check byte included, sums to 255 (R81); a frame or reply holds at
least one byte (R74, R76). -/
def checkGood (bytes : List Byte) : Bool := bytes ≠ [] && byteSum bytes = 255

/-- Cell `k` of a run of bytes, most significant bit first (R69); absent past the last byte. -/
def cellBit (bytes : List Byte) (k : Nat) : Option Bool :=
  (bytes[k / 8]?).map fun b => b.getLsbD (7 - k % 8)

/-- The byte of eight cells, most significant bit first (R74). -/
def byteOfBits (bits : List Bool) : Byte := bits.foldl (fun b x => 2 * b + if x then 1 else 0) 0

/-- The bytes of the three test frames (TABLE 11-2). -/
def testBytes : Nat → List Byte
  | 1 => [85, 170, 51, 204, 1]
  | 2 => [0, 1, 2, 3, 4, 5, 6, 7, 8, 9, 10, 11, 12, 13, 14, 150]
  | _ => [240, 15, 1]

/-! ## Frames (R92, R93, R213) -/

/-- A valid frame, by named fields (TABLE 5-2). -/
inductive LinkFrame where
  | release (slot : Slot) (trunk : Trunk) (cause : Cause)
  | claim (slot : Slot) (trunk : Trunk) (line : Option Line)
  | retire (slot : Slot) (trunk : Trunk) (cause : Cause)
  | restore (slot : Slot) (trunk : Trunk)
  | report (slot : Slot) (count : Nat) (held retired : Byte) (isolatedProbe mismatch : Bool)
  | statusRequest (slot : HeaderSlot) (target : Slot) (page : Byte)
  | command (slot : HeaderSlot) (target : Slot) (code arg : Byte)
deriving DecidableEq, Repr

/-- A field of range 0..7 (R93). -/
def octal (b : Byte) : Option (Fin 8) := if h : b.toNat < 8 then some ⟨b.toNat, h⟩ else none

/-- The code of a cause (TABLE 12-3). -/
def Cause.code : Cause → Byte
  | .lineClear => 0
  | .switchClear => 1
  | .ptsFail => 2
  | .busyConflict => 3
  | .yield => 4
  | .probeDone => 5
  | .maintenance => 6

/-- A RELEASE accepts the codes 0..5 (R213). -/
def releaseCause (b : Byte) : Option Cause :=
  if b = 0 then some .lineClear
  else if b = 1 then some .switchClear
  else if b = 2 then some .ptsFail
  else if b = 3 then some .busyConflict
  else if b = 4 then some .yield
  else if b = 5 then some .probeDone
  else none

/-- A RETIRE accepts the codes 2 and 6 (R213). -/
def retireCause (b : Byte) : Option Cause :=
  if b = 2 then some .ptsFail else if b = 6 then some .maintenance else none

/-- The line field of a CLAIM: 0..7, or 8 for a probe (R93). -/
def claimLine (b : Byte) : Option (Option Line) :=
  if b = 8 then some none else (octal b).map some

/-- The header byte: kind times 16 plus slot (R92). -/
def header (kind : Nat) (slot : HeaderSlot) : Byte := BitVec.ofNat 8 (kind * 16 + slot.toNat)

/-- The frame layer's judgement of a frame's bytes: header, length, fields (R94); `none` is a refusal. Kinds 1 to 5
are valid from slots 0..7 only, kinds 6 and 7 from slots 8..15 only (R92). -/
def parseFrame (bytes : List Byte) : Option LinkFrame :=
  match bytes with
  | [] => none
  | h :: rest =>
    let kind := h.toNat / 16
    let from8 : HeaderSlot := h.truncate 4
    match octal (h &&& 15), kind, rest with
    | some s, 1, [t, c, _] => do return .release s (← octal t) (← releaseCause c)
    | some s, 2, [t, l, _] => do return .claim s (← octal t) (← claimLine l)
    | some s, 3, [t, c, _] => do return .retire s (← octal t) (← retireCause c)
    | some s, 4, [t, _] => do return .restore s (← octal t)
    | some s, 5, [n, hm, rm, f, _] =>
      if 1 ≤ n.toNat ∧ n.toNat ≤ 8 ∧ f.toNat < 4 then
        some (.report s n.toNat hm rm (f.getLsbD 0) (f.getLsbD 1))
      else none
    | none, 6, [g, p, _] => do return .statusRequest from8 (← octal g) p
    | none, 7, [g, c, a, _] => do return .command from8 (← octal g) c a
    | _, _, _ => none

/-- A number 0..7 as a byte. -/
def octalByte (x : Fin 8) : Byte := BitVec.ofNat 8 x.val

/-- A station's header slot. -/
def headerSlot (s : Slot) : HeaderSlot := BitVec.ofNat 4 s.val

/-- The bytes of a frame, check byte included (TABLE 12-1). -/
def encodeFrame : LinkFrame → List Byte
  | .release s t c => withCheck [header 1 (headerSlot s), octalByte t, c.code]
  | .claim s t l => withCheck [header 2 (headerSlot s), octalByte t, l.elim 8 octalByte]
  | .retire s t c => withCheck [header 3 (headerSlot s), octalByte t, c.code]
  | .restore s t => withCheck [header 4 (headerSlot s), octalByte t]
  | .report s n held retired probe mismatch =>
    withCheck [header 5 (headerSlot s), BitVec.ofNat 8 n, held, retired,
      BitVec.ofNat 8 (bit probe + 2 * bit mismatch)]
  | .statusRequest s g p => withCheck [header 6 s, octalByte g, p]
  | .command s g c a => withCheck [header 7 s, octalByte g, c, a]

/-- The fields of a frame are in the ranges of TABLE 5-2 that their types do not already hold. -/
def LinkFrame.valid : LinkFrame → Bool
  | .release _ _ c => c ≠ .maintenance
  | .retire _ _ c => c = .ptsFail || c = .maintenance
  | .report _ n _ _ _ _ => 1 ≤ n && n ≤ 8
  | .statusRequest s _ _ => 8 ≤ s.toNat
  | .command s _ _ _ => 8 ≤ s.toNat
  | _ => true

/-- Place `x` of a map byte, of weight 2 to the power x (R213). -/
def mapHas (m : Byte) (x : Fin 8) : Bool := m.getLsbD x.val

/-- The map byte of the slots or trunks that satisfy `f` (R213, R214). -/
def mapOf (f : Fin 8 → Bool) : Byte :=
  BitVec.ofNat 8 (((List.finRange 8).map fun x => if f x then 2 ^ x.val else 0).sum)

/-! ## Replies (R98, R99, R213) -/

/-- An objection: code times 16 plus the objector's slot, and its check (R98). -/
def objectionReply (code : Nat) (slot : Slot) : List Byte := withCheck [header code (headerSlot slot)]

/-- The surviving objection of a reply: its code 1 or 2 and an objector slot 0..7 other than the claimant's, in a
reply of two bytes (R99). `none` is a refusal. -/
def judgeObjection (claimant : Slot) (bytes : List Byte) : Option (Nat × Slot) :=
  match bytes with
  | [b, _] =>
    match octal (b &&& 15), b.toNat / 16 with
    | some o, 1 => if o = claimant then none else some (1, o)
    | some o, 2 => if o = claimant then none else some (2, o)
    | _, _ => none
  | _ => none

/-- The acknowledgement byte (R213). -/
def Ack.byte : Ack → Byte
  | .done => 1
  | .deferred => 2
  | .refused => 3

/-- The command codes of TABLE 12-4. -/
def listedCode (code : Byte) : Bool := 1 ≤ code.toNat && code.toNat ≤ 7

/-! ## Evidence of a receive error -/

/-- A dominant width that reads as a bit: 1/8..3/8 cell as 1, 5/8..7/8 as 0 (R70). -/
def readCell (w : Nat) : Option Bool :=
  if 1 ≤ w ∧ w ≤ 3 then some true else if 5 ≤ w ∧ w ≤ 7 then some false else none

/-- Where in a frame the receiver is, before it reads on (TABLE 4-3). A frame whose edges were not given has its path
between two rows still open, so IDLE and START MARK stand for all of it up to EOD, and AFTER DATA for the reply too. GAP is
reached by an edge alone, and so is what follows it (log entry 9). -/
def RxState.mayRead (rx : RxState) (mayReply : Bool) : RxState → Bool
  | .startMark => rx = .idle || rx = .startMark
  | .gap => rx = .idle || rx = .startMark || rx = .gap
  | .data => rx = .idle || rx = .startMark || rx = .data
  | .reply => rx = .reply || (rx = .afterData && mayReply)
  | x => rx = x

/-- A receiver in state `rx` can find this fault: each is found in the states of TABLE 4-3 in which its rule reads the
wire, and none in WAIT EOF (R77). -/
def faultMayArise (f : LineFault) (rx : RxState) (mayReply : Bool) : Bool :=
  match f with
  | .startMarkWidth _ => rx.mayRead mayReply .startMark
  | .gapEdge _ | .gapSilent _ => rx.mayRead mayReply .gap
  | .frameBytes _ => rx.mayRead mayReply .data
  | .cellWidth _ | .edgeSpacing _ | .byteBegun _ | .cellCount _ | .checkSum _ =>
    rx.mayRead mayReply .data || rx.mayRead mayReply .reply
  | .strayEdge _ => rx = .afterData || rx = .reply || rx = .afterReply

/-- What the receiver saw is an error (R70, R71, R73 to R76, R81, R94), in receiver state `rx` and for a frame that
may or may not take a reply. A reply's own EOD comes 2 cells after its last cell, and an edge from then to EOF is a stray
one (R76). -/
def faultIsError (f : LineFault) (rx : RxState) (mayReply : Bool) : Bool :=
  faultMayArise f rx mayReply &&
    match f with
    | .cellWidth w => (readCell w).isNone
    | .edgeSpacing d => d < 7 || (9 < d && d < 3 * cell)
    | .startMarkWidth w => w < 20 || 4 * cell < w
    | .gapEdge d => d < 7 || 9 < d
    | .gapSilent d => 9 < d
    | .byteBegun n => 16 < n
    | .cellCount n => n = 0 || n % 8 ≠ 0
    | .checkSum bytes => !checkGood bytes
    | .frameBytes bytes => checkGood bytes && (parseFrame bytes).isNone
    | .strayEdge d =>
      d < eofCells * cell &&
        match rx with
        | .afterData => !mayReply || 3 * cell < d
        | .reply => eodCells * cell ≤ d
        | _ => true

/-- The least moment the wire's recessive time can run from after the error at `now` (R72): an error found at EOD or
reply EOD leaves the wire recessive for two cells already, one found by a missing edge for as long as was waited. -/
def faultRecessive (f : LineFault) (now : Nat) : Nat :=
  match f with
  | .cellCount _ | .checkSum _ | .frameBytes _ => now - eodCells * cell
  | .gapSilent d => now - d
  | _ => now

end Sys2Proof.Machine
end

