-- ==== Sys2Proof/Machine/Queue.lean ====
section
/-! DEFINITION. The transmit queue (R103 to R107): placing, offering, the frame in flight and its outcomes. -/

namespace Sys2Proof.Machine

open Sys2Proof

/-- The key of a frame (R103). -/
def TxFrame.key : TxFrame → TxKey
  | .release t _ => .release t
  | .claim _ _ => .claim
  | .retire t _ => .retirement t
  | .restore t => .retirement t
  | .report _ => .report

/-- The kind of a frame (R92). -/
def TxFrame.kind : TxFrame → Nat
  | .release _ _ => 1
  | .claim _ _ => 2
  | .retire _ _ => 3
  | .restore _ => 4
  | .report _ => 5

/-- The trunk of a frame, for the offering order (R105); a REPORT, at most one of which is held, has none. -/
def TxFrame.trunkNumber : TxFrame → Nat
  | .release t _ => t.val
  | .claim t _ => t.val
  | .retire t _ => t.val
  | .restore t => t.val
  | .report _ => 0

/-- A newer frame meets a queued one under its key (TABLE 5-4): a RELEASE takes the new cause and keeps its age, a
CLAIM stands, any other is replaced. -/
def combine (queued newer : QFrame) : QFrame :=
  match newer.frame with
  | .release _ _ => { newer with age := queued.age }
  | .claim _ _ => queued
  | _ => newer

/-- The frame in flight bears this key. -/
def TxQueue.inFlight (q : TxQueue) (k : TxKey) : Bool :=
  match q.flight with
  | some f => f.frame.key = k
  | none => false

/-- The queued frames with the frame of `newer`'s key combined with it. -/
def combineIn (frames : List QFrame) (newer : QFrame) : List QFrame :=
  frames.map fun f => if f.frame.key = newer.frame.key then combine f newer else f

/-- A frame placed in the queue joins as TABLE 5-4 states (R104). -/
def TxQueue.place (q : TxQueue) (newer : QFrame) : TxQueue :=
  if q.inFlight newer.frame.key then
    match newer.frame with
    | .claim _ _ => q
    | _ => { q with waiting := some (q.waiting.elim newer fun w => combine w newer) }
  else if q.frames.any fun f => f.frame.key = newer.frame.key then
    { q with frames := combineIn q.frames newer }
  else { q with frames := q.frames ++ [newer] }

/-- The outcome sent: the frame leaves the queue and a waiting frame becomes the queued frame (R104, R106). -/
def TxQueue.sent (q : TxQueue) : TxQueue :=
  match q.flight with
  | none => q
  | some f =>
    { frames := q.frames.filter (fun x => x.frame.key ≠ f.frame.key) ++ q.waiting.toList
      flight := none
      waiting := none }

/-- The outcome lost or failed: the frame stays queued, and a waiting frame is combined with it (R104, R106). -/
def TxQueue.unsent (q : TxQueue) : TxQueue :=
  match q.waiting with
  | none => { q with flight := none }
  | some w => { frames := combineIn q.frames w, flight := none, waiting := none }

/-- A frame under this key that is not in flight is withdrawn (R106). -/
def TxQueue.withdraw (q : TxQueue) (k : TxKey) : TxQueue :=
  if q.inFlight k then q else { q with frames := q.frames.filter fun f => f.frame.key ≠ k }

/-- The flush: every frame removed, nothing in flight and nothing waiting (R107). -/
def TxQueue.flushed : TxQueue := { frames := [], flight := none, waiting := none }

/-- The station state lets the queue offer this frame (R105): any in ACTIVE, the REPORT alone in ISOLATED and REJOIN. -/
def Control.offers (c : Control) (f : TxFrame) : Bool :=
  match c.station with
  | .active => true
  | .rejoin | .isolated => f.key = .report
  | _ => false

/-- `a` is offered before `b`: the lower kind, then the older, then the lower trunk number (R105). -/
def QFrame.before (a b : QFrame) : Bool :=
  a.frame.kind < b.frame.kind ||
    (a.frame.kind = b.frame.kind &&
      (a.age < b.age || (a.age = b.age && a.frame.trunkNumber < b.frame.trunkNumber)))

/-- The first of the frames in offering order. -/
def firstOffered : List QFrame → Option QFrame
  | [] => none
  | f :: rest =>
    match firstOffered rest with
    | none => some f
    | some g => if g.before f then some g else some f

/-- The frames that stand for the next start mark: all that the station state lets the queue offer (R105). -/
def State.offerable (s : State) : List QFrame := s.tx.frames.filter fun f => s.ctl.offers f.frame

/-- The one frame the queue offers at a start mark (R105). A CLAIM queued beside the REPORT of the entry to ACTIVE from
LISTEN goes before it, as R105 orders them, though R204 calls that REPORT the first frame on the wire (DEDUCED, log entry
22). -/
def State.offered (s : State) : Option TxFrame := (firstOffered s.offerable).map QFrame.frame

/-- A frame is placed now (R104). -/
def State.place (s : State) (f : TxFrame) : State := s.setTx (s.tx.place { frame := f, age := s.now })

/-- The frame as it goes on the wire; a REPORT is filled from the pool view at its start mark (R104, R124). -/
def State.onWire (s : State) (f : TxFrame) : LinkFrame :=
  match f with
  | .release t c => .release s.slot t c
  | .claim t l => .claim s.slot t l
  | .retire t c => .retire s.slot t c
  | .restore t => .restore s.slot t
  | .report probe =>
    .report s.slot s.n
      (mapOf fun t => s.fitted t && match (s.entry t).holding with | .own _ => true | _ => false)
      (mapOf fun t => s.fitted t && (s.entry t).retiredBy = some s.slot)
      probe ((List.finRange 8).any fun p => (s.peer p).mismatch)

end Sys2Proof.Machine
end

