-- ==== Sys2Proof/Machine/Tones.lean ====
section
/-! DEFINITION. Tone synthesis (R184, R185): the code grid, the increments, the sine table and the output code. -/

namespace Sys2Proof.Machine

open Sys2Proof

/-- Row of a code in the grid, the low tone L1..L4 as 0..3 (TABLE 9-7). -/
def Code.row : Code → Fin 4
  | .digit 1 | .digit 2 | .digit 3 | .a => 0
  | .digit 4 | .digit 5 | .digit 6 | .b => 1
  | .digit 7 | .digit 8 | .digit 9 | .c => 2
  | .star | .digit 0 | .hash | .d => 3

/-- Column of a code in the grid, the high tone H1..H4 as 0..3 (TABLE 9-7). -/
def Code.column : Code → Fin 4
  | .digit 1 | .digit 4 | .digit 7 | .star => 0
  | .digit 2 | .digit 5 | .digit 8 | .digit 0 => 1
  | .digit 3 | .digit 6 | .digit 9 | .hash => 2
  | .a | .b | .c | .d => 3

/-- The increments of the low tones (TABLE 9-8). -/
def lowIncrement : Fin 4 → BitVec 16
  | 0 => 5710
  | 1 => 6308
  | 2 => 6980
  | 3 => 7709

/-- The increments of the high tones (TABLE 9-8). -/
def highIncrement : Fin 4 → BitVec 16
  | 0 => 9904
  | 1 => 10945
  | 2 => 12100
  | 3 => 13378

/-- The first quarter of the sine table, entries 0..64: 127 sin(2 pi i / 256) to the nearest whole number (R185). -/
def quarterSine : List Int :=
  [0, 3, 6, 9, 12, 16, 19, 22, 25, 28, 31, 34, 37, 40, 43, 46, 49, 51, 54, 57, 60, 63, 65, 68, 71, 73, 76, 78, 81,
   83, 85, 88, 90] ++
  [92, 94, 96, 98, 100, 102, 104, 106, 107, 109, 111, 112, 113, 115, 116, 117, 118, 120, 121, 122, 122, 123, 124,
   125, 125, 126, 126, 126, 127, 127, 127, 127]

/-- Entry `i` of the sine table of 256 entries: the second quarter mirrors the first, and entry 128 + i is the negative
of entry i (R185). -/
def sine (i : Nat) : Int :=
  let j := i % 128
  let v := quarterSine.getD (if j ≤ 64 then j else 128 - j) 0
  if i % 256 < 128 then v else -v

/-- The output code of two phases: 3 times the low value plus 4 times the high value, halved toward minus infinity,
plus 512 (R185). -/
def outputCode (lowPhase highPhase : BitVec 16) : BitVec 10 :=
  BitVec.ofInt 10 ((3 * sine (lowPhase.toNat / 256) + 4 * sine (highPhase.toNat / 256)) / 2 + 512)

end Sys2Proof.Machine
end

