-- ==== Sys2Proof/Machine/Senders.lean ====
section
/-! DEFINITION. Sending (R53 to R59) and the tone senders' sequencing: requests, grants, code boundaries, recall,
spoiling, detachment and abort (Section 9). -/

namespace Sys2Proof.Machine

open Sys2Proof

/-! ## What a call has to send -/

/-- Sending of queue entries is released (R53, R54). -/
def State.released (s : State) (c : CallRecord) : Bool :=
  match s.ctl.straps.mode with
  | .enBloc => true
  | .overlap => c.firstDigitSent || s.ctl.straps.threshold ≤ c.queue.length || c.dialTimer = .expired

/-- A call has something sendable (R55). -/
def State.sendable (s : State) (c : CallRecord) : Bool :=
  c.state = .dialling && !c.spoiled && (!c.identitySent || (!c.queue.isEmpty && s.released c))

/-- A sender is attached to trunk `t` (R172). -/
def State.attached (s : State) (t : Trunk) : Bool := (List.finRange 2).any fun i => (s.sender i).trunk = some t

/-- The three conditions of a request hold for a line (R173). -/
def State.wantsSender (s : State) (l : Line) : Bool :=
  s.sendable (s.call l) &&
    match (s.call l).trunk with
    | none => false
    | some t =>
      !s.attached t &&
        match s.session t with
        | some ses => ses.purpose = .line l && ses.state = .established
        | none => false

/-- The request set holds each line whose three conditions hold, and no other (R173). -/
def State.refreshRequests (s : State) : State :=
  s.setArb { s.arb with requests := (List.finRange 8).filter s.wantsSender }

/-! ## The Call Controller's part -/

/-- A running end-of-dialling timer is stopped; once expired it stays expired (R53, R59). -/
def DialTimer.halted : DialTimer → DialTimer
  | .expired => .expired
  | _ => .stopped

/-- The audio connection (R57): made when the call is DIALLING and audio-connected is clear. -/
def State.connectAudio (s : State) (l : Line) : State :=
  let c := s.call l
  if c.state = .dialling ∧ c.audio = false then
    let s := (s.setCall l { c with audio := true }).toneOff l
    match c.trunk with
    | some t => s.closePair l t
    | none => s
  else s

/-- The head entry has been sent and is removed; in EN-BLOC the removal that first empties the queue makes the
audio connection (R56, R57). -/
def State.removeHead (s : State) (l : Line) : State :=
  let c := s.call l
  let s := s.setCall l { c with queue := c.queue.tail, firstDigitSent := true, dialTimer := c.dialTimer.halted }
  if s.ctl.straps.mode = .enBloc ∧ c.queue.tail = [] then s.connectAudio l else s

/-- The identity block has ended: identity-sent, and in OVERLAP the audio connection (R57, R176). -/
def State.identityEnded (s : State) (l : Line) : State :=
  let s := s.setCall l { s.call l with identitySent := true }
  if s.ctl.straps.mode = .overlap then s.connectAudio l else s

/-- The call is spoiled: queue flushed, timer stopped, and the audio connection made if it was not (R59). -/
def State.spoil (s : State) (l : Line) : State :=
  let c := s.call l
  (s.setCall l { c with spoiled := true, queue := [], dialTimer := c.dialTimer.halted }).connectAudio l

/-! ## The sender's part -/

/-- A sender that detaches or is aborted: output 512, select released, FREE with trunk, line, source and code cleared;
its accumulators keep their values (R182, R183, R184). -/
def Sender.freed (x : Sender) : Sender :=
  { x with state := .free, trunk := none, line := none, source := none, code := none, endsAt := 0,
           samples := 0, output := 512, select := none }

def State.detach (s : State) (i : Fin 2) : State := s.setSender i (s.sender i).freed

/-- Every sender attached to trunk `t` is aborted (R183). -/
def State.abortSenders (s : State) (t : Trunk) : State :=
  { s with senders := s.senders.map fun x => if x.trunk = some t then x.freed else x }

/-- The sender enters TONE with a code (R176): both accumulators 0, the profile's tone-on time. -/
def State.play (s : State) (i : Fin 2) (source : Source) (code : Code) : State :=
  s.setSender i { s.sender i with
    state := .tone, source := some source, code := some code, lowPhase := 0, highPhase := 0, samples := 0,
    endsAt := s.moment (toneTime s.ctl.straps.profile), output := 512 }

/-- RECALL SILENCE of 300 ms (R180). -/
def State.keepSilence (s : State) (i : Fin 2) : State :=
  s.setSender i { s.sender i with
    state := .recallSilence, source := none, code := none, endsAt := s.moment recallSilenceTime, output := 512 }

/-- The sender asks for a recall break of its trunk (R159, R180). In ESTABLISHED seize is released, the break timer
started and the sender waits; in any other session state the break is not made and is over at once. -/
def State.askBreak (s : State) (i : Fin 2) (t : Trunk) : State :=
  match s.session t with
  | some ses =>
    if ses.state = .established then
      let s' := s.setSession t (some { ses with state := .recallBreak, breakTimer := s.after breakTime })
      (s'.setSeize t false).setSender i
        { s.sender i with state := .recallWait, source := none, code := none, endsAt := 0, output := 512 }
    else s.keepSilence i
  | none => s.keepSilence i

/-- The code at place 1..5 of the identity block of a line (R177). -/
def State.identityCode (s : State) (l : Line) (position : Nat) : Code :=
  match position with
  | 1 => .a
  | 2 => .digit (Fin.ofNat 10 s.ctl.straps.shelf.val)
  | 3 => .digit (Fin.ofNat 10 s.slot.val)
  | 4 => .digit (Fin.ofNat 10 l.val)
  | _ => .b

/-- Step 3 of a code boundary: the choice of TABLE 9-4, on the call record as it now stands. -/
def State.nextCode (s : State) (i : Fin 2) (l : Line) (t : Trunk) : State :=
  let c := s.call l
  if c.identitySent = false then
    let position := match (s.sender i).source with
      | some (.identity p) => p + 1
      | _ => 1
    s.play i (.identity position) (s.identityCode l position)
  else if s.sendable c then
    match c.queue with
    | [] => s.detach i
    | e :: _ =>
      match e.kind with
      | .digit d => s.play i .entry (.digit d)
      | .recall => s.askBreak i t
      | .mutilated => (s.spoil l).detach i
  else s.detach i

/-- A code boundary (R176), in its three steps and in one act. -/
def State.codeBoundary (s : State) (i : Fin 2) : State :=
  match (s.sender i).line, (s.sender i).trunk with
  | some l, some t =>
    let ended := (s.sender i).source
    let s := if ended = some .entry then s.removeHead l else s
    let s := if ended = some (.identity 5) then s.identityEnded l else s
    s.nextCode i l t
  | _, _ => s

/-! ## The Sender Arbiter -/

/-- Lines in cyclic order after `p` (R174). -/
def cyclicAfter (p : Line) : List Line := (List.finRange 8).map fun i => p + 1 + i

/-- The request to be granted next: the lowest line number after the line last granted, cyclically (R174). -/
def Arbiter.next (a : Arbiter) : Option Line := (cyclicAfter a.pointer).find? fun l => l ∈ a.requests

/-- The free sender to be granted: sender 0 when both are free (R174). -/
def State.freeSender (s : State) : Option (Fin 2) := (List.finRange 2).find? fun i => (s.sender i).state = .free

/-- A grant: the sender is attached and asserts its select, the pointer moves, and a code boundary is taken at once
(R174, R175). -/
def State.grant (s : State) (i : Fin 2) (l : Line) : State :=
  match (s.call l).trunk with
  | none => s
  | some t =>
    let s := s.setArb { requests := s.arb.requests.filter (· ≠ l), pointer := l }
    (s.setSender i { s.sender i with
      state := .gap, trunk := some t, line := some l, source := none, code := none, select := some t }).codeBoundary i

/-- Grants are made while a sender is free and a request waits (R174). Two grants fill the senders; a grant that only
spoils its call takes that line out of the set, so ten rounds are enough. -/
def settleRounds : Nat → State → State
  | 0, s => s.refreshRequests
  | n + 1, s =>
    let s := s.refreshRequests
    match s.freeSender, s.arb.next with
    | some i, some l => settleRounds n (s.grant i l)
    | _, _ => s

/-- The requests are brought up to date and the arbiter grants (R173, R174). -/
def State.settleSenders (s : State) : State := settleRounds 10 s

end Sys2Proof.Machine
end

