-- ==== Sys2Proof/Machine/View.lean ====
section
/-! DEFINITION. The requests and effects on the trunk pool view (Section 6). -/

namespace Sys2Proof.Machine

open Sys2Proof

/-- The entry is OWN. -/
def TrunkEntry.isOwn (e : TrunkEntry) : Bool :=
  match e.holding with
  | .own _ => true
  | _ => false

/-- The entry is HELD by slot `p`. -/
def TrunkEntry.isHeldBy (e : TrunkEntry) (p : Slot) : Bool :=
  match e.holding with
  | .held q _ => q = p
  | _ => false

/-- The entry becomes FREE now: holder removed, free-since now (R111, R116, R118, R121). -/
def TrunkEntry.freed (e : TrunkEntry) (time : Nat) : TrunkEntry := { e with holding := .free, freeSince := time }

/-- The request Release: an OWN entry becomes FREE, any other is unchanged (TABLE 6-8). -/
def State.freeOwn (s : State) (t : Trunk) : State :=
  if (s.entry t).isOwn then s.setEntry t ((s.entry t).freed s.scanTime) else s

/-- The request busy conflict: an OWN entry becomes FREE with busy-mismatch set, unless the busy input already reads
idle again (TABLE 6-8, R126). -/
def State.conflictOwn (s : State) (t : Trunk) : State :=
  if (s.entry t).isOwn then
    s.setEntry t { (s.entry t).freed s.scanTime with
      busyMismatch := (s.entry t).busyMismatch || (s.input t).busy }
  else s

/-- The entry becomes OWN for a line, or for a probe (R109, R114, R121). -/
def State.makeOwn (s : State) (t : Trunk) (line : Option Line) : State :=
  s.setEntry t { s.entry t with holding := .own line }

/-- The entry becomes HELD by peer `p` (R114, R115, R118). -/
def State.makeHeld (s : State) (t : Trunk) (p : Slot) (line : Option Line) : State :=
  s.setEntry t { s.entry t with holding := .held p line }

/-- Retired-by becomes `p` (R115, R117, R119, R121). -/
def State.setRetiredBy (s : State) (t : Trunk) (p : Option Slot) : State :=
  s.setEntry t { s.entry t with retiredBy := p }

/-- Every seizure count halved, rounding down (R125). -/
def halvedCounts (entries : Vector TrunkEntry 8) : Vector TrunkEntry 8 :=
  entries.map fun e => { e with seizures := e.seizures >>> 1 }

/-- The seizure count of `t` is raised; all eight are first halved when it would pass 65535 (R125). -/
def State.raiseCount (s : State) (t : Trunk) : State :=
  let entries := if (s.entry t).seizures = 65535 then halvedCounts s.view.entries else s.view.entries
  s.setView { s.view with
    entries := entries.set t { entries[t] with seizures := (entries[t]).seizures + 1 } }

/-- The refresh of a slot's presence; the own slot's entry is not used (R110). -/
def State.refresh (s : State) (p : Slot) : State :=
  if p = s.slot then s else s.setPeer p { s.peer p with heard := some s.scanTime }

/-- The mismatch flag of a slot (R127). -/
def State.setMismatch (s : State) (p : Slot) (on : Bool) : State :=
  s.setPeer p { s.peer p with mismatch := on }

/-- A trunk is reserved when its number is the slot of a peer that is absent (R112). -/
def State.reserved (s : State) (t : Trunk) : Bool := t ≠ s.slot && (s.peer t).heard.isNone

/-- What the absence of slot `p` does to an entry (R111): a hold of `p` is freed, a retirement by `p` removed. -/
def TrunkEntry.peerGone (e : TrunkEntry) (p : Slot) (time : Nat) : TrunkEntry :=
  let e := if e.isHeldBy p then e.freed time else e
  if e.retiredBy = some p then { e with retiredBy := none } else e

/-- Slot `p` becomes absent (R111). -/
def State.makeAbsent (s : State) (p : Slot) : State :=
  (s.setView { s.view with
    entries := Vector.ofFn fun t =>
      if s.fitted t then (s.entry t).peerGone p s.scanTime else s.entry t }).setPeer p Presence.reset

def State.countStale (s : State) : State :=
  s.setView { s.view with staleReleases := counted s.view.staleReleases }

def State.countDual (s : State) : State :=
  s.setView { s.view with dualHolds := counted s.view.dualHolds }

def State.countProbe (s : State) : State :=
  s.setView { s.view with probeReports := counted s.view.probeReports }

/-- Slots or trunks are retired by self: the station's own slot stands in retired-by. -/
def State.retiredBySelf (s : State) (t : Trunk) : Bool := (s.entry t).retiredBy = some s.slot

/-- The trunk is retired by self, the RETIRE placed and the probe interval started (R121, R156, R163, R164, R210). -/
def State.retireSelf (s : State) (t : Trunk) (cause : Cause) : State :=
  ((s.setRetiredBy t (some s.slot)).place (.retire t cause)).setProbeInterval t (s.after probeTime)

/-- The retirement by self is removed, RESTORE placed and the probe interval stopped (R121, R164, R166, R210). -/
def State.restoreSelf (s : State) (t : Trunk) : State :=
  ((s.setRetiredBy t none).place (.restore t)).setProbeInterval t none

/-- A probe ends without restoring the trunk, or was not made: the interval starts again if the trunk is still retired
by this station (R164). -/
def State.probeAgain (s : State) (t : Trunk) : State :=
  if s.retiredBySelf t then s.setProbeInterval t (s.after probeTime) else s

end Sys2Proof.Machine
end

