-- ==== Sys2Proof/Machine/Supervisor.lean ====
section
/-! DEFINITION. Seizure and release of trunks (R153, R160, R163, R165). -/

namespace Sys2Proof.Machine

open Sys2Proof

/-- The state a session opens in (R153, R165). -/
def Purpose.opensIn : Purpose → SessionState
  | .line _ => .waitPts
  | .probe => .probeWait

/-- Seize is asserted and a session opens with its answer timer of 3 s, retire at release clear; its runs are counted
from this moment (R153, R165). Between two scan times timer and runs are counted from the one last reached, for which the
spec gives no rule (R151): DESIGN CHOICE, log entry 8. -/
def State.seizeTrunk (s : State) (t : Trunk) (p : Purpose) : State :=
  (s.setSession t (some
    { purpose := p, state := p.opensIn, answer := s.after answerTime, breakTimer := none,
      retireAtRelease := false, opened := s.scanTime })).setSeize t true

/-- The release of R160 up to its RELEASE frame: seize released, crosspoints of the trunk opened, attached senders
aborted, the session ended, the entry freed unless it is no longer OWN, RELEASE placed with its cause. -/
def State.releaseTrunk (s : State) (t : Trunk) (cause : Cause) : State :=
  (((((s.setSeize t false).openTrunk t).abortSenders t).setSession t none).freeOwn t).place (.release t cause)

/-- The session on `t` waits to retire the trunk at its release (R163). -/
def State.retireWaits (s : State) (t : Trunk) : Bool :=
  match s.session t with
  | some ses => ses.retireAtRelease
  | none => false

/-- The whole release of R160, with the retirement that waits for it (R163). -/
def State.endSession (s : State) (t : Trunk) (cause : Cause) : State :=
  if s.retireWaits t then (s.releaseTrunk t cause).retireSelf t .maintenance else s.releaseTrunk t cause

/-- The own failure count raised by a proceed-to-send failure; at 3 the trunk is retired by self with cause PTS-fail
and the count set back to 0 (R156). -/
def State.countFailure (s : State) (t : Trunk) : State :=
  let e := s.entry t
  if e.failures + 1 < 3 then s.setEntry t { e with failures := e.failures + 1 }
  else (s.setEntry t { e with failures := 0 }).retireSelf t .ptsFail

/-- The run of an input whose first sample is `first` has reached 20 ms by its last sample, counted from the later of
its first sample and the session's opening (R151). -/
def runReached (run : Option Nat) (opened lastSample : Nat) : Bool :=
  match run with
  | some first => max first opened + runTime ≤ lastSample
  | none => false

end Sys2Proof.Machine
end

