-- ==== Sys2Proof/Machine/Hunt.lean ====
section
/-! DEFINITION. The Hunt Unit: candidates, the choice, the pending claim, and the home trunk of an isolated station
(Section 7). -/

namespace Sys2Proof.Machine

open Sys2Proof

/-! ## Candidates and the choice -/

/-- The conditions of R133 but the retirement: fitted, FREE, release guard run, busy input idle, busy-mismatch clear,
not reserved. -/
def State.huntable (s : State) (t : Trunk) : Bool :=
  s.fitted t && (s.entry t).holding = .free && (s.entry t).freeSince + releaseGuardTime ≤ s.scanTime &&
    !(s.input t).busy && !(s.entry t).busyMismatch && !s.reserved t

/-- A candidate in ACTIVE (R133). -/
def State.candidate (s : State) (t : Trunk) : Bool := s.huntable t && (s.entry t).retiredBy = none

/-- The conditions of a probe: R133 with the retirement condition set aside, retired by this station (R146). -/
def State.probeCandidate (s : State) (t : Trunk) : Bool := s.huntable t && s.retiredBySelf t

/-- The members of the candidates with the least seizure count (R135). -/
def State.leastUsed (s : State) : List Trunk :=
  let c := (List.finRange 8).filter s.candidate
  c.filter fun t => c.all fun u => (s.entry t).seizures.toNat ≤ (s.entry u).seizures.toNat

/-- Trunks in the cyclic order s0, s0 + 1, ..., N - 1, 0, ..., s0 - 1 (R135). -/
def State.cyclicTrunks (s : State) : List Trunk :=
  (List.range s.n).map fun i => Fin.ofNat 8 ((s.slot.val % s.n + i) % s.n)

/-- The choice: the first of the least-used candidates in the cyclic order from the start offset (R135). -/
def State.choice (s : State) : Option Trunk := s.cyclicTrunks.find? fun t => t ∈ s.leastUsed

/-- The choice as R135 computes it: the map of the least-used candidates over the places 0..N-1, rotated right by the
start offset, and `z` its clear places below the lowest set one; there is no choice when `z` is N. -/
def State.choiceByMap (s : State) : Option Trunk :=
  let s0 := s.slot.val % s.n
  let rotated := (List.range s.n).map fun p => decide (Fin.ofNat 8 ((s0 + p) % s.n) ∈ s.leastUsed)
  let z := (rotated.takeWhile (· = false)).length
  if z < s.n then some (Fin.ofNat 8 ((s0 + z) % s.n)) else none

/-! ## The pending claim -/

/-- A probe request or claim is reported not made (R140, R146, R164). -/
def State.probeNotMade (s : State) (t : Trunk) : State := s.probeAgain t

/-- The pending claim is removed with its CLAIM, which is not in flight; a PROBE claim is reported not made (R137,
R138, R146). -/
def State.withdrawClaim (s : State) : State :=
  match s.hunt.claim with
  | none => s
  | some c =>
    let s := (s.setTx (s.tx.withdraw .claim)).setHunt { s.hunt with claim := none }
    if c.owner = .probe then s.probeNotMade c.trunk else s

/-- A choice is made for the head line when no claim is pending: its CLAIM is placed (R134, R136). -/
def State.makeChoice (s : State) : State :=
  match s.hunt.claim, s.hunt.queue with
  | none, l :: _ =>
    match (s.call l).state, s.choice with
    | .hunting, some t =>
      (s.place (.claim t (some l))).setHunt
        { s.hunt with claim := some { trunk := t, owner := .line l, stage := .queued } }
    | _, _ => s
  | _, _ => s

/-- A QUEUED claim stands: a line's while its trunk is a candidate (R137), a PROBE's while the probe's conditions hold
and no line waits (R146), a LAPSED one not at all (R138). R146 names only the line that joins while the PROBE claim is
QUEUED: that one QUEUED again after its flight does not stand either, where a line joined during the flight, is the
model's (DESIGN CHOICE, log entry 26). -/
def State.claimStands (s : State) (c : Claim) : Bool :=
  match c.owner with
  | .line _ => s.candidate c.trunk
  | .probe => s.probeCandidate c.trunk && s.hunt.queue.isEmpty
  | .lapsed => false

/-- The judgement of R134, R137 and R146 in ACTIVE. -/
def State.judgeActive (s : State) : State :=
  match s.hunt.claim with
  | none => s.makeChoice
  | some c =>
    match c.stage with
    | .inFlight => s
    | .queued => if s.claimStands c then s else s.withdrawClaim.makeChoice

/-- A line leaves the hunt queue, and its pending claim is withdrawn when QUEUED or lapses when IN FLIGHT (R131, R138). -/
def State.huntDrop (s : State) (l : Line) : State :=
  let s := s.setHunt { s.hunt with queue := s.hunt.queue.filter (· ≠ l) }
  match s.hunt.claim with
  | some c =>
    if c.owner = .line l then
      match c.stage with
      | .queued => s.withdrawClaim
      | .inFlight => s.setHunt { s.hunt with claim := some { c with owner := .lapsed } }
    else s
  | none => s

/-! ## Seizure for a line, and the home trunk -/

/-- The trunk is seized for a HUNTING line, which left the hunt queue: the call enters SEIZING (R52, R153). -/
def State.seizeForLine (s : State) (t : Trunk) (l : Line) : State :=
  (s.seizeTrunk t (.line l)).setCall l
    { s.call l with state := .seizing, trunk := some t, huntTimer := none }

/-- The line is taken out of the hunt queue. -/
def State.unqueue (s : State) (l : Line) : State :=
  s.setHunt { s.hunt with queue := s.hunt.queue.filter (· ≠ l) }

/-- The line is put at the head of the hunt queue (R50, R131, R142). -/
def State.queueHead (s : State) (l : Line) : State :=
  s.setHunt { s.hunt with queue := l :: s.hunt.queue }

/-- The line is put at the tail of the hunt queue (R131). -/
def State.queueTail (s : State) (l : Line) : State :=
  s.setHunt { s.hunt with queue := s.hunt.queue ++ [l] }

/-- The conditions of R147 on the home trunk, the trunk numbered as this station's slot. R148 has the next head line wait
after a take until the busy input "has been idle for a further second" and does not say from what moment, where the input
never showed busy in that call: here it is idle-since alone, as R147 counts it, so that the trunk may then be taken again
at its release (DESIGN CHOICE, log entry 25). -/
def State.homeOpen (s : State) : Bool :=
  s.fitted s.slot && (s.entry s.slot).holding = .free && !s.retiredBySelf s.slot &&
    due (s.iso.entryTime.map (· + homeWaitTime)) s.scanTime && !(s.input s.slot).busy &&
    due (s.hunt.idleSince.map (· + busyQuietTime)) s.scanTime

/-- The judgement of R147 in ISOLATED: the home trunk is taken for the head line without a frame and seized. -/
def State.judgeIsolated (s : State) : State :=
  match s.hunt.queue with
  | l :: _ =>
    if (s.call l).state = .hunting ∧ s.homeOpen then
      (((s.makeOwn s.slot (some l)).raiseCount s.slot).unqueue l).seizeForLine s.slot l
    else s
  | [] => s

/-- The Hunt Unit judges afresh, according to the station state (R132). -/
def State.judge (s : State) : State :=
  match s.ctl.station with
  | .active => s.judgeActive
  | .isolated => s.judgeIsolated
  | _ => s

end Sys2Proof.Machine
end

