-- ==== Sys2Proof/Machine/Pulses.lean ====
section
/-! DEFINITION. The Pulse Decoder on one line (Section 2): what an edge, a mark and the end of decoding do to its
records, and the entry and the pulse notice they hand over. -/

namespace Sys2Proof.Machine

open Sys2Proof

/-- The pulse ceiling: the larger of 120 and P - 10 (R16). -/
def Decoder.bMax (d : Decoder) : Nat := max 120 (d.p - 10)

/-- The interdigit threshold T_id: the larger of 150 and 2 P (R16). -/
def Decoder.tId (d : Decoder) : Nat := max 150 (2 * d.p)

/-- The digit record made empty; interval and make threshold are kept (R17). -/
def Decoder.emptied (d : Decoder) : Decoder :=
  { d with count := 0, overCount := false, pulses := [], pulse := none, resume := none }

/-- A make begins at `time`: its threshold is T_id of the P of that moment, and no resume point is kept (R22 to R24,
R29). -/
def Decoder.beginMake (d : Decoder) (time : Nat) : Decoder :=
  { d with interval := some (.make time), threshold := some d.tId, resume := none }

/-- The line is taken over at an off-hook: record empty, a MAKE in progress since the last filtered edge (R18). -/
def Decoder.takeOver (d : Decoder) (lastEdge : Nat) : Decoder := d.emptied.beginMake lastEdge

/-- The start of the interval in progress. -/
def Decoder.intervalStart (d : Decoder) (time : Nat) : Nat :=
  match d.interval with
  | some (.make t) => t
  | some (.brk t) => t
  | none => time

/-- The decoder's records after an event, the entry it hands over, and whether it notifies a counted pulse (R36). -/
structure Decoded where
  dec : Decoder
  entry : Option Entry
  notice : Bool

/-- Mean period M and ratio R of the first n - 1 items of the pulse list, rounded down; absent for n below 2 (R31). -/
def measures (n : Nat) (pulses : List (Nat × Nat)) : Option Nat × Option Nat :=
  if n < 2 then (none, none)
  else
    let items := pulses.take (n - 1)
    let breaks := (items.map Prod.fst).sum
    let periods := (items.map fun i => i.1 + i.2).sum
    (some (periods / (n - 1)), some (100 * breaks / periods))

/-- The MUTILATED entry that carries the count as its pulses (R23, R24, R30, R31). -/
def Decoder.mutilatedEntry (d : Decoder) (early : Bool) : Entry :=
  let mr := measures d.count d.pulses
  { kind := .mutilated, pulses := some d.count, period := mr.1, ratio := mr.2, speed := false, early }

/-- A digit in progress ends MUTILATED, and the record is made empty (R23, R24, R30). -/
def Decoder.spoilDigit (d : Decoder) (early : Bool) : Decoded :=
  { dec := { d.emptied with mutilated := counted d.mutilated }, entry := some (d.mutilatedEntry early), notice := false }

/-- M clamped into 60..150 (R32). -/
def clampPeriod (m : Nat) : Nat := if m < 60 then 60 else if 150 < m then 150 else m

/-- P moved a quarter of the way to the clamped M, rounded toward minus infinity (R32). -/
def learn (p mc : Nat) : Nat := ((p : Int) + ((mc : Int) - (p : Int)) / 4).toNat

/-- The profile update of a DIGIT with 2 pulses or more, and its SPEED flag (R32). -/
def Decoder.update (d : Decoder) (m r : Nat) : Decoder × Bool :=
  let fast := m < 60 || 150 < m
  ({ d with
      p := learn d.p (clampPeriod m), lastM := some m, lastR := some r,
      speed := if fast then counted d.speed else d.speed }, fast)

/-- A make reaches its threshold with the count 1 or more: the digit completes (R30), teaches the profile (R32) and
empties the record. -/
def Decoder.complete (d : Decoder) (early : Bool) : Decoded :=
  if d.overCount = false ∧ d.count ≤ 10 then
    let digit : Fin 10 := Fin.ofNat 10 d.count
    let d' := { d.emptied with digits := counted d.digits }
    match measures d.count d.pulses with
    | (some m, some r) =>
      let u := d'.update m r
      { dec := u.1
        entry := some { kind := .digit digit, pulses := some d.count, period := some m, ratio := some r,
                        speed := u.2, early }
        notice := false }
    | _ =>
      { dec := d'
        entry := some { kind := .digit digit, pulses := some d.count, period := none, ratio := none,
                        speed := false, early }
        notice := false }
  else d.spoilDigit early

/-- The make in progress has reached its make threshold with the count 1 or more (R30). -/
def Decoder.thresholdReached (d : Decoder) (time : Nat) : Bool :=
  1 ≤ d.count &&
    match d.interval, d.threshold with
    | some (.make t), some th => t + th ≤ time
    | _, _ => false

/-- The judgement before a noise break is taken back: the make goes on from its original start and threshold, and a
pulse it completed is pending again (R21). -/
def Decoder.restore (d : Decoder) (time : Nat) : Decoder :=
  match d.resume with
  | none => d.beginMake time
  | some r =>
    let d := { d with interval := some (.make r.start), threshold := some r.threshold, resume := none }
    match r.completed with
    | none => d
    | some p => { d with pulses := d.pulses.dropLast, pulse := some p }

/-- A noise break, below 20 ms (R21). -/
def Decoder.noiseBreak (d : Decoder) (time : Nat) (early : Bool) : Decoded :=
  let d := { d with noise := counted d.noise }.restore time
  if d.thresholdReached time then d.complete early else { dec := d, entry := none, notice := false }

/-- A dial pulse, 20..Bmax ms (R22): counted, or setting over-count at 15. -/
def Decoder.dialPulse (d : Decoder) (b start time : Nat) : Decoded :=
  if d.count < 15 then
    { dec := { d with count := d.count + 1, pulse := some { brk := b, start } }.beginMake time
      entry := none
      notice := true }
  else { dec := { d with overCount := true }.beginMake time, entry := none, notice := false }

/-- A doubtful break, Bmax + 1..249 ms (R23). -/
def Decoder.doubtfulBreak (d : Decoder) (time : Nat) (early : Bool) : Decoded :=
  let d := { d with doubtful := counted d.doubtful }
  if d.count = 0 then { dec := d.beginMake time, entry := none, notice := false }
  else
    let r := d.spoilDigit early
    { r with dec := r.dec.beginMake time }

/-- A flash, 250 ms or more (R24). -/
def Decoder.flash (d : Decoder) (time : Nat) (early : Bool) : Decoded :=
  if d.count = 0 then
    { dec := { d.emptied with recalls := counted d.recalls }.beginMake time
      entry := some { kind := .recall, pulses := none, period := none, ratio := none, speed := false, early }
      notice := false }
  else
    let r := d.spoilDigit early
    { r with dec := r.dec.beginMake time }

/-- A CLOSED edge: the break it ends is classified by its length (R20, TABLE 2-2). -/
def Decoder.closedEdge (d : Decoder) (time : Nat) (early : Bool) : Decoded :=
  let start := d.intervalStart time
  let b := time - start
  if b < 20 then d.noiseBreak time early
  else if b ≤ d.bMax then d.dialPulse b start time
  else if b < 250 then d.doubtfulBreak time early
  else d.flash time early

/-- The threshold kept in the record, for a resume point. -/
def Decoder.keptThreshold (d : Decoder) : Nat := d.threshold.getD d.tId

/-- An OPEN edge: the make it ends completes the pending pulse, withdraws it when shorter than 15 ms, or is an ordinary
make (R26, R27, R28). -/
def Decoder.openEdge (d : Decoder) (time : Nat) : Decoder :=
  let start := d.intervalStart time
  let m := time - start
  let ordinary : Decoder :=
    { d with
      resume := some { start, threshold := d.keptThreshold, completed := none }, interval := some (.brk time) }
  if d.overCount then ordinary
  else
    match d.pulse with
    | none => ordinary
    | some p =>
      if 15 ≤ m then
        { d with
          resume := some { start, threshold := d.keptThreshold, completed := some p }
          pulses := d.pulses ++ [(p.brk, m)], pulse := none, interval := some (.brk time) }
      else
        { d with
          count := d.count - 1, pulse := none, merged := counted d.merged, interval := some (.brk p.start),
          resume := none }

/-- RESET PROFILE (R33): P 100, last M and last R absent; the digit record is not touched. -/
def Decoder.resetProfile (d : Decoder) : Decoder := { d with p := 100, lastM := none, lastR := none }

/-- The seven counters of R39 cleared. -/
def Decoder.cleared (d : Decoder) : Decoder :=
  { d with noise := 0, merged := 0, doubtful := 0, recalls := 0, speed := 0, digits := 0, mutilated := 0 }

end Sys2Proof.Machine
end

