-- ==== Sys2Proof/Machine/Calls.lean ====
section
/-! DEFINITION. The call records (Section 3) and the scanner's hand-over to them (Section 1): starting a call, entries
arriving, lockout, clear, blocking, and the marks and edges of a line. -/

namespace Sys2Proof.Machine

open Sys2Proof

/-- The end of an act that may change hunting or sending: the Hunt Unit judges, then the arbiter grants (R122, R134,
R148, R173, R174). -/
def State.settle (s : State) : State := s.judge.settleSenders

/-- The decoder stops on a line: its digit record is made empty (R37, R38). -/
def State.stopDecoder (s : State) (l : Line) : State := s.setDec l (s.decoder l).emptied

/-- The guard of a line is ended (R7, R12). -/
def State.endGuard (s : State) (l : Line) : State := s.setScan l { s.scanLine l with guard := .off }

/-! ## Starting and ending a call -/

/-- An off-hook on an IDLE line starts a call (R44): flags and queue cleared, local dial tone on, then HUNTING at the
tail of the hunt queue in OVERLAP or COLLECTING in EN-BLOC; the decoder takes the line over (R18). -/
def State.startCall (s : State) (l : Line) : State :=
  let c := { CallRecord.reset with
    localTone := true, overflows := (s.call l).overflows, lockouts := (s.call l).lockouts }
  let s := ((s.endGuard l).setDec l ((s.decoder l).takeOver (s.scanLine l).lastEdge)).setLdt l true
  match s.ctl.straps.mode with
  | .overlap => (s.setCall l { c with state := .hunting, huntTimer := s.after huntTime }).queueTail l
  | .enBloc => s.setCall l { c with state := .collecting, firstTimer := s.after firstEntryTime }

/-- Entry to LOCKOUT (R60): queue flushed, timers stopped, hunt entry and trunk field dropped, audio-connected cleared,
local dial tone off and lockout on, lockouts counted; the decoder stops (R38). -/
def State.lockout (s : State) (l : Line) : State :=
  let c := s.call l
  let s := (s.setCall l { c with
    state := .lockout, trunk := none, queue := [], audio := false, localTone := false, huntTimer := none,
    dialTimer := .stopped, firstTimer := none, lockouts := counted c.lockouts })
  (((s.setLdt l false).setLko l true).stopDecoder l).huntDrop l

/-- The clear of a call (R61): its trunk released with cause line-clear, the line dropped from the hunt queue, the
record returned to rest, BLOCKED if a block was pending and IDLE otherwise; the decoder stops (R37). -/
def State.clearCall (s : State) (l : Line) : State :=
  let c := s.call l
  let s := match c.trunk with
    | some t => s.endSession t .lineClear
    | none => s
  let s := (s.huntDrop l).setCall l { CallRecord.reset with
    state := if c.pendingBlock then .blocked else .idle, overflows := c.overflows, lockouts := c.lockouts }
  (((s.setLdt l false).setLko l false).stopDecoder l).endGuard l

/-- An EN-BLOC call leaves COLLECTING for HUNTING, at the tail of the hunt queue (R48, R50). -/
def State.enterHunting (s : State) (l : Line) : State :=
  (s.setCall l { s.call l with
    state := .hunting, huntTimer := s.after huntTime, dialTimer := .stopped, firstTimer := none }).queueTail l

/-- A call whose seizure failed below the limit goes back to HUNTING at the head of the queue, its failure count raised
and its hunt timer started afresh; at the third failure it enters LOCKOUT (R50, R52, R156). -/
def State.callFailed (s : State) (l : Line) : State :=
  let c := s.call l
  if c.state = .seizing then
    if c.failures < 2 then
      (s.setCall l { c with
        state := .hunting, trunk := none, failures := c.failures + 1, huntTimer := s.after huntTime }).queueHead l
    else s.lockout l
  else s

/-! ## Entries arriving (R46) -/

/-- An entry joins the queue; in OVERLAP it starts the end-of-dialling timer afresh while first-digit-sent is clear and
the timer has not expired (R46, R53). -/
def State.joinQueue (s : State) (l : Line) (e : Entry) : State :=
  let c := s.call l
  let timer :=
    if s.ctl.straps.mode = .overlap ∧ c.firstDigitSent = false ∧ c.dialTimer ≠ .expired then
      DialTimer.running (s.scanTime + dialTime)
    else c.dialTimer
  s.setCall l { c with queue := c.queue ++ [e], dialTimer := timer }

/-- An entry handed by the decoder is taken or refused according to the call state and the record (TABLE 3-3). -/
def State.handEntry (s : State) (l : Line) (e : Entry) : State :=
  let c := s.call l
  match c.state with
  | .collecting =>
    match e.kind with
    | .digit _ =>
      let s := s.setCall l { c with
        queue := c.queue ++ [e], firstTimer := none, dialTimer := .running (s.scanTime + dialTime) }
      if c.queue.length + 1 = 16 then (s.enterHunting l).settle else s
    | .mutilated => s.lockout l
    | .recall => s
  | .hunting | .seizing | .dialling =>
    if c.spoiled then s
    else if c.queue.length < 24 then (s.joinQueue l e).settleSenders
    else s.setCall l { c with overflow := true, overflows := counted c.overflows }
  | _ => s

/-- What the decoder has done is taken over: its records, then the pulse notice (R22, R63), then the entry (R36). -/
def State.takeDecoded (s : State) (l : Line) (r : Decoded) : State :=
  let s := s.setDec l r.dec
  let s := if r.notice then s.toneOff l else s
  match r.entry with
  | some e => s.handEntry l e
  | none => s

/-- An entry carries EARLY when audio-connected is clear (R35). -/
def State.early (s : State) (l : Line) : Bool := !(s.call l).audio

/-! ## Marks of a line (R4, R7, R10, R19, R30) -/

/-- A guard is past its 60-ms mark (R7, R8). -/
def Guard.past (g : Guard) (time : Nat) : Bool :=
  match g with
  | .off => false
  | .running start => start + guardTime ≤ time
  | .marked => true

/-- The off-hook mark: the guard of an IDLE, CLOSED line has run 60 ms. The off-hook is handed once, and a call starts
in ACTIVE or ISOLATED (R7, R44, R45). -/
def State.offHookMark (s : State) (l : Line) : State :=
  let x := s.scanLine l
  match x.guard with
  | .running start =>
    if (s.call l).state = .idle ∧ x.loop = .closed ∧ start + guardTime ≤ s.scanTime then
      let s := s.setScan l { x with guard := .marked }
      if s.ctl.station.callsStart then (s.startCall l).settle else s
    else s
  | _ => s

/-- The clear mark: a break of a line in a call has lasted 900 ms from its OPEN edge (R10). -/
def State.clearMark (s : State) (l : Line) : State :=
  if (s.call l).state.inCall ∧ (s.scanLine l).loop = .opened ∧ (s.scanLine l).lastEdge + clearTime ≤ s.scanTime then
    (s.clearCall l).settle
  else s

/-- The make threshold mark of a line in a decoding state (R19, R30). -/
def State.thresholdMark (s : State) (l : Line) : State :=
  if (s.call l).state.decoding ∧ (s.decoder l).thresholdReached s.scanTime then
    s.takeDecoded l ((s.decoder l).complete (s.early l))
  else s

/-- The marks a line's interval has reached, taken before a sample of the same time is applied (R4, R19). -/
def State.takeMarks (s : State) (l : Line) : State := ((s.offHookMark l).clearMark l).thresholdMark l

/-! ## Samples and edges (R2, R3, R5, R9) -/

/-- The integrator after a sample (R2). -/
def integrate (i : Fin 8) (present : Bool) : Fin 8 :=
  if present then (if i = 7 then 7 else i + 1) else (if i = 0 then 0 else i - 1)

/-- The filtered edge a sample causes, if it carries the integrator to 7 while OPEN or to 0 while CLOSED (R3). -/
def filteredEdge (before after : Fin 8) (loop : Loop) : Option Loop :=
  match loop with
  | .opened => if after = 7 ∧ before ≠ 7 then some .closed else none
  | .closed => if after = 0 ∧ before ≠ 0 then some .opened else none

/-- The guard of an IDLE line at an edge, and its idle glitch counter (R7, R9). -/
def ScanLine.idleEdge (x : ScanLine) (time : Nat) : ScanLine :=
  match x.loop with
  | .closed => { x with guard := .running time }
  | .opened =>
    match x.guard with
    | .running start =>
      { x with guard := .off, glitches := if time < start + guardTime then counted x.glitches else x.glitches }
    | _ => { x with guard := .off }

/-- A filtered edge is handed on according to the call state (R5, TABLE 1-3). -/
def State.handEdge (s : State) (l : Line) (edge : Loop) : State :=
  match (s.call l).state with
  | .idle => s.setScan l ((s.scanLine l).idleEdge s.scanTime)
  | .blocked => s.setLko l (edge = .closed)
  | .lockout => s
  | _ =>
    match edge with
    | .closed => s.takeDecoded l ((s.decoder l).closedEdge s.scanTime (s.early l))
    | .opened => s.setDec l ((s.decoder l).openEdge s.scanTime)

/-- A sample is applied to the integrator, and the edge it causes is handed on (R2, R3, R4). -/
def State.applySample (s : State) (l : Line) (present : Bool) : State :=
  let x := s.scanLine l
  let i := integrate x.integ present
  match filteredEdge x.integ i x.loop with
  | none => s.setScan l { x with integ := i, lastSample := s.scanTime }
  | some edge =>
    (s.setScan l { x with
      integ := i, loop := edge, lastEdge := s.scanTime, lastSample := s.scanTime }).handEdge l edge

/-! ## Blocking (R12, R62, R209) -/

/-- BLOCK LINE carried out (TABLE 11-5). -/
def State.blockLine (s : State) (l : Line) : State :=
  let c := s.call l
  match c.state with
  | .idle => ((s.setCall l { c with state := .blocked }).setLko l ((s.scanLine l).loop = .closed)).endGuard l
  | .blocked => s
  | _ => s.setCall l { c with pendingBlock := true }

/-- UNBLOCK LINE carried out (TABLE 11-5); on a closed loop the guard starts (R12). Between two sample times it is counted
from the one last reached, for which the spec gives no rule: DESIGN CHOICE, log entry 8. -/
def State.unblockLine (s : State) (l : Line) : State :=
  let c := s.call l
  match c.state with
  | .blocked =>
    let x := s.scanLine l
    ((s.setCall l { c with state := .idle }).setLko l false).setScan l
      { x with guard := if x.loop = .closed then .running s.scanTime else .off }
  | .idle => s
  | _ => s.setCall l { c with pendingBlock := false }

end Sys2Proof.Machine
end

