-- ==== Sys2Proof/Config.lean ====
section
/-! DEFINITION. What the spec leaves open and the model leaves free. -/

namespace Sys2Proof

/-- The order in which the lines of ONE entry to ACTIVE or ISOLATED are re-offered (R8) is not in the spec.
`reofferKey n l` ranks line `l` at the `n`-th such entry; it has no body, so nothing can be proved of the
order. DESIGN CHOICE (a free value), log entry 6: safe. -/
opaque Config.reofferKey : Nat → Nat → Nat

end Sys2Proof
end

