-- ==== Sys2Proof/Machine/Station.lean ====
section
/-! DEFINITION. Station Control's entries: a reset's beginning and end (R200, R201, R207), LISTEN (R203), ACTIVE (R196,
R204), ISOLATED (R189), REJOIN (R194) and the halt states (R205). -/

namespace Sys2Proof.Machine

open Sys2Proof

/-! ## Reset (R207) -/

/-- A reset begins: link pin, seizes and selects released, sender outputs 512, line outputs, READY and ALARM off. What
R207 does not name stands while the reset lasts, a shift of the crosspoint port in progress at its tick among it, which
the shift of the reset's end replaces (DESIGN CHOICE, log entry 23). -/
def State.beginReset (s : State) : State :=
  { s with
    inReset := true
    ctl := { s.ctl with ready := false, alarm := false }
    ldt := Vector.replicate 8 false
    lko := Vector.replicate 8 false
    link := { s.link with own := none, reply := none }
    tx := { s.tx with flight := none, waiting := none }
    sup := { s.sup with seize := Vector.replicate 8 false }
    senders := s.senders.map fun x => { x with output := 512, select := none } }

/-- Every block at its reset values (R14, R40, R66, R90, R107, R129, R149, R170, R186, R188), with the straps held; the
command queue, the wire's samples to come and the model's counter are not the station's and stay. -/
def State.cleared (s : State) (straps : Straps) : State :=
  { State.reset with ctl := Control.reset straps, freeIndex := s.freeIndex, wire := s.wire, pending := s.pending }

/-! ## Halt (R205) -/

/-- Entry to a halt state, in one act: link OFF with nothing driven and the transmit queue flushed (R91, R107), the report
interval stopped (R123), the pending claim removed (R150), line outputs off, every seize released, every connect state open
and one shift called for, every session ended (R171), senders aborted and requests discarded (R187), READY off and ALARM
on. -/
def State.halt (s : State) (st : StationState) : State :=
  let s := { s with
    ctl := { s.ctl.enter st with restartDue := false }
    ldt := Vector.replicate 8 false
    lko := Vector.replicate 8 false
    link := { s.link with mode := .off, own := none, reply := none }
    tx := TxQueue.flushed
    view := { s.view with reportInterval := none }
    hunt := { s.hunt with claim := none }
    sup := { s.sup with
      sessions := Vector.replicate 8 none, seize := Vector.replicate 8 false, points := Vector.replicate 64 false }
    senders := s.senders.map Sender.freed
    arb := { s.arb with requests := [] } }
  s.callShift

/-- The reset ends: the straps are read and judged at once (R200, R201); a SHELF of 10..15 is illegal. -/
def State.endReset (s : State) (pins : BitVec 15) : State :=
  let s := s.cleared (readStraps pins)
  if 10 ≤ s.ctl.straps.shelf.val then s.halt .strapFault else s

/-! ## LISTEN (R203) -/

/-- Entry to LISTEN: the link in WIRE mode with the receiver in WAIT EOF, its timers measuring afresh (R88), and the
listen timer started. Until a sample shows its level, the wire is taken to be recessive: DESIGN CHOICE, log entry 4. -/
def State.enterListen (s : State) : State :=
  { s with
    ctl := { s.ctl.enter .listen with testStart := none, listenTimer := some (listenExpiry s.now) }
    link := { s.link with
      mode := .wire, rx := .waitEof, mayReply := false, frameBuf := [], replyBuf := [], bits := [],
      dominant := false, fallAt := s.now, fallCell := 0, edgeAt := s.now, recessiveFrom := s.now, wireFrom := s.now } }

/-! ## Re-offers (R8) -/

/-- A line IDLE, CLOSED and past its guard mark (R8). -/
def State.reofferable (s : State) (l : Line) : Bool :=
  (s.call l).state = .idle && (s.scanLine l).loop = .closed && (s.scanLine l).guard.past s.scanTime

/-- A line put into its place by rank, before the first line that ranks above it. -/
def insertRanked (rank : Line → Nat) (l : Line) : List Line → List Line
  | [] => [l]
  | m :: rest => if rank l ≤ rank m then l :: m :: rest else m :: insertRanked rank l rest

/-- The lines to be re-offered, in an order the spec does not give: a free value (log entry 6). -/
def State.reoffers (s : State) : List Line :=
  ((List.finRange 8).filter s.reofferable).foldr
    (insertRanked fun l => Config.reofferKey s.freeIndex l.val) []

/-- Every line off-hook and past its guard mark is handed an off-hook at once (R8). -/
def State.reoffer (s : State) : State :=
  { s.reoffers.foldl State.startCall s with freeIndex := s.freeIndex + 1 }

/-! ## ACTIVE, ISOLATED, REJOIN -/

/-- Entry to ACTIVE from LISTEN or REJOIN: timers stopped, READY on and ALARM off, a REPORT placed and the report
interval started, lines re-offered, and the Hunt Unit judging afresh (R196, R204). -/
def State.enterActive (s : State) : State :=
  let s := s.setCtl { s.ctl.enter .active with listenTimer := none }
  let s := s.setIso { s.iso with rejoinTimer := none }
  let s := s.place (.report false)
  let s := s.setView { s.view with reportInterval := s.after reportTime }
  s.reoffer.settle

/-- The pending claim goes with the flush, a PROBE claim reported not made; a held probe request is reported not made
(R140, R146). -/
def State.dropClaim (s : State) : State :=
  let claim := s.hunt.claim
  let held := s.hunt.probe
  let s := s.setHunt { s.hunt with claim := none, probe := none }
  let s := match claim with
    | some c => if c.owner = .probe then s.probeNotMade c.trunk else s
    | none => s
  match held with
  | some t => s.probeNotMade t
  | none => s

/-- Calls start from this entry on: the station was in LISTEN or REJOIN (R8, R189). -/
def StationState.reoffersAtIsolation : StationState → Bool
  | .listen | .rejoin => true
  | _ => false

/-- Entry to ISOLATED (R189): entry time and grace recorded, other timers stopped, READY and ALARM on, the transmit queue
flushed with the pending claim (R107, R140), the wire released (R102), the error run 0, the report interval stopped
(R123); from LISTEN or REJOIN the lines off-hook are re-offered. -/
def State.enterIsolated (s : State) : State :=
  let before := s.ctl.station
  let s := s.setCtl { s.ctl.enter .isolated with listenTimer := none }
  let s := s.setIso
    { entryTime := some s.scanTime, grace := s.after graceTime, probeTimer := none, rejoinTimer := none }
  let s := s.setTx TxQueue.flushed
  let s := s.setLink { s.link with own := none, reply := none, errorRun := 0 }
  let s := (s.setView { s.view with reportInterval := none }).dropClaim
  if before.reoffersAtIsolation then s.reoffer else s

/-- Entry to REJOIN (R194): the isolated-probe timer stopped, the rejoin timer started, ALARM off, a probe still queued
withdrawn. -/
def State.enterRejoin (s : State) : State :=
  let s := s.setCtl (s.ctl.enter .rejoin)
  let s := s.setIso { s.iso with probeTimer := none, rejoinTimer := s.after rejoinTime }
  s.setTx (s.tx.withdraw .report)

/-! ## What every command meets -/

/-- A command occurs: in a running station time moves to its moment and it has its effect; during a reset and in a halt
state it has none (R205, R207). -/
def State.act (s : State) (when : Nat) (effect : State → State) : Host.Outcome State Fault Refusal :=
  if s.running then .next (effect (s.advance when)) else .next s

end Sys2Proof.Machine
end

