-- ==== Sys2Proof/Machine/Bursts.lean ====
section
/-! DEFINITION. The meanings of the senders' rows (Section 9). -/

namespace Sys2Proof.Machine

open Sys2Proof

/-- The sample of the burst in hand that is at `now` (R178): sample j is j ticks of 8 kHz after the moment the sender
entered TONE, `burstSamples` ticks before the burst's end. Between two ticks, past the last sample and at one already
formed there is none. -/
def Sender.sampleAt (x : Sender) (profile : Fin 4) (now : Nat) : Option Nat :=
  let n := burstSamples profile
  let since := now + n * cell - x.endsAt
  let j := since / cell
  if x.endsAt ≤ now + n * cell ∧ since % cell = 0 ∧ x.samples ≤ j ∧ j < n then some j else none

/-- A sender's phases at sample `j` of a burst: sample 0 uses phase 0, and each sample after the last one formed raises them
by the increments of the code, those whose rows did not come among them (R184, log entry 7). -/
def Sender.phasesAt (x : Sender) (code : Code) (j : Nat) : BitVec 16 × BitVec 16 :=
  let raises := BitVec.ofNat 16 (j - (x.samples - 1))
  (x.lowPhase + raises * lowIncrement code.row, x.highPhase + raises * highIncrement code.column)

/-- The sender forms sample `j` of its burst: the next one is `j + 1` (R184, R185). -/
def Sender.form (x : Sender) (code : Code) (j : Nat) : Sender :=
  let ph := x.phasesAt code j
  { x with lowPhase := ph.1, highPhase := ph.2, samples := j + 1, output := outputCode ph.1 ph.2 }

/-- TONE_SAMPLE (R178, R184, R185): the sample of the burst that is at this moment. -/
def execToneSample (when : Nat) (i : Fin 2) (s : State) : Host.Outcome State Fault Refusal :=
  s.act when fun s =>
    let x := s.sender i
    match x.state, x.code, x.sampleAt s.ctl.straps.profile s.now with
    | .tone, some code, some j => s.setSender i (x.form code j)
    | _, _, _ => s

/-- BURST_END (R176): the sender enters GAP with the profile's silence time, its output 512. -/
def execBurstEnd (when : Nat) (i : Fin 2) (s : State) : Host.Outcome State Fault Refusal :=
  s.act when fun s =>
    let x := s.sender i
    if x.state = .tone ∧ x.endsAt ≤ s.now then
      s.setSender i { x with state := .gap, endsAt := s.moment (toneTime s.ctl.straps.profile), output := 512 }
    else s

/-- GAP_END (R176): a code boundary. -/
def execGapEnd (when : Nat) (i : Fin 2) (s : State) : Host.Outcome State Fault Refusal :=
  s.act when fun s =>
    if (s.sender i).state = .gap ∧ (s.sender i).endsAt ≤ s.now then (s.codeBoundary i).settleSenders else s

/-- RECALL_SILENCE_END (R180): the RECALL is removed and a code boundary taken, with nothing further to remove. -/
def execRecallSilenceEnd (when : Nat) (i : Fin 2) (s : State) : Host.Outcome State Fault Refusal :=
  s.act when fun s =>
    let x := s.sender i
    if x.state = .recallSilence ∧ x.endsAt ≤ s.now then
      match x.line with
      | some l => ((s.removeHead l).codeBoundary i).settleSenders
      | none => s
    else s

end Sys2Proof.Machine
end

