-- ==== Sys2Proof/Machine/Link.lean ====
section
/-! DEFINITION. The shelf link's signalling (Section 4): errors, outcomes of frames and replies, the receiver, and the
meanings of the rows FRAME_START to RECEIVER_IDLE. -/

namespace Sys2Proof.Machine

open Sys2Proof

/-! ## Shared operations -/

/-- The moment `cells` before now. -/
def State.ago (s : State) (cells : Nat) : Nat := s.now - cells * cell

/-- No cell of the reply has been read: the next falling edge begins its first (R76). -/
def Link.replyUnread (k : Link) : Bool := k.replyBuf = [] && k.bits = []

/-- The cells of the run in hand come with their edges: in DATA, and in REPLY from its first edge on (R74, R76). -/
def Link.cellsRead (k : Link) : Bool := k.rx = .data || (k.rx = .reply && (k.dominant || !k.replyUnread))

/-- The wire's recessive time runs from no earlier than `t` (R72), and its last edge came at most a cell before that: the
falling edge of the last cell (R71, R87). Where the cells were read, their edges have told both. Log entry 9. -/
def Link.recessive (k : Link) (t : Nat) : Link :=
  if k.cellsRead then k
  else { k with recessiveFrom := max k.recessiveFrom t, edgeAt := max k.edgeAt (t - cell) }

/-- The wire is dominant at `now`: its recessive time and its last edge come no earlier (R72, R87). -/
def Link.dominantAt (k : Link) (now : Nat) : Link :=
  { k with recessiveFrom := max k.recessiveFrom now, edgeAt := max k.edgeAt now }

/-- The wire is recessive, and has been for `cells` (R72). -/
def Link.quiet (k : Link) (cells now : Nat) : Bool := !k.dominant && k.recessiveFrom + cells * cell ≤ now

/-- The receiver leaves the frame in hand for WAIT EOF (R77). -/
def Link.waitEof (k : Link) : Link :=
  { k with
    rx := .waitEof, mayReply := false, frameBuf := [], replyBuf := [], bits := [], own := none, replyDriven := false }

/-- A start mark's falling edge at `now`: the receiver enters START MARK with its buffers empty, and the cell timer
starts (R69, R73). `own` is this station's frame, if it has begun or joined the start mark (R72, R80). -/
def Link.beginFrame (k : Link) (own : Option (List Byte)) (now : Nat) : Link :=
  { k with
    rx := .startMark, mayReply := false, frameBuf := [], replyBuf := [], bits := [], own, replyDriven := false,
    fallAt := now, fallCell := 0, edgeAt := max k.edgeAt now }

/-- This station is sending a frame or a reply (R82). -/
def State.sending (s : State) : Bool := s.tx.flight.isSome || s.link.reply.isSome

/-- A receive error ends the reception of a frame: counted once, the receiver in WAIT EOF (R82). After a carried-out
RESTART's reply EOD the reset begins here (R212). -/
def State.receiveFails (s : State) (recessiveFrom : Nat) : State :=
  let s' := (s.setLink (s.link.recessive recessiveFrom).waitEof).countRx
  if s.ctl.restartDue then s'.beginReset else s'

/-- A flight ends lost or failed: the frame stays queued, and a CLAIM's pending claim is QUEUED again, a LAPSED one being
withdrawn at that moment (R106, R138, R139). -/
def State.flightEnds (s : State) : State :=
  let claimFlew := s.tx.inFlight .claim
  let s := s.setTx s.tx.unsent
  if claimFlew then
    match s.hunt.claim with
    | some c =>
      if c.owner = .lapsed then s.withdrawClaim
      else s.setHunt { s.hunt with claim := some { c with stage := .queued } }
    | none => s
  else s

/-- A frame or reply of this station fails (R83): counted, the error run raised, and at 8 the station ISOLATED (R84,
R189). -/
def State.transmitFails (s : State) (recessiveFrom : Nat) : State :=
  let k := (s.link.recessive recessiveFrom).waitEof
  let s := (s.setLink { k with
    reply := none, txErrors := counted k.txErrors, errorRun := k.errorRun + 1 }).flightEnds
  if 8 ≤ s.link.errorRun then s.enterIsolated else s.settle

/-- An error on the wire is a transmit error while this station sends, and a receive error otherwise (R82). -/
def State.wireError (s : State) (recessiveFrom : Nat) : State :=
  if s.sending then s.transmitFails recessiveFrom else s.receiveFails recessiveFrom

/-! ## Errors the receiver finds -/

/-- The receiver finds an error in the signal it reads: on the wire, a transmit or a receive error (R82); in LOOPBACK it
reports the error that ended the looped frame, which is TEST FAULT, and no counter changes (R88, R202). -/
def State.signalFails (s : State) (recessiveFrom : Nat) : State :=
  match s.link.mode with
  | .wire => s.wireError recessiveFrom
  | .loopback =>
    let s' := s.setLink (s.link.recessive recessiveFrom).waitEof
    if s.ctl.station = .selfTest ∧ s.ctl.testStart.isSome then s'.halt .testFault else s'
  | .off => s

/-- The receiver has come to `k` and judges what it saw on the way, `faults`, as the state it was in says: the first of
them that is an error ends the reception (R82). -/
def State.judgeWire (s : State) (faults : List LineFault) (k : Link) : State :=
  match faults.find? fun f => faultIsError f s.link.rx s.link.mayReply with
  | some f => (s.setLink k).signalFails (faultRecessive f s.now)
  | none => s.setLink k

/-- The reply EOD of a reply that other stations drive: 2 cells after the end of its last cell its bytes are judged, and
the receiver enters AFTER REPLY (R76). No row of the table comes at it, so it is taken at the next sample of the wire or
at the EOF. A reply of this station has its own row (R101). -/
def State.replyEod (s : State) : State :=
  let k := s.link
  if k.rx = .reply ∧ k.reply = none ∧ k.replyUnread = false ∧ k.quiet eodCells s.now then
    s.judgeWire [.cellCount (8 * k.replyBuf.length + k.bits.length), .checkSum k.replyBuf] { k with rx := .afterReply }
  else s

/-- The bytes read so far of the run of cells in hand. -/
def Link.runBuf (k : Link) : List Byte := if k.rx = .reply then k.replyBuf else k.frameBuf

/-- The least moment at which an unread start mark can have ended (TABLE 4-2): this station drove its own for 3 cells, and
one begun in IDLE followed 4 cells of recessive time and lasted 2 1/2. -/
def Link.gapFrom (k : Link) : Nat :=
  match k.rx with
  | .startMark => k.fallAt + 3 * cell
  | _ => k.recessiveFrom + eofCells * cell + 20

/-- The least moment at which an unread run's first cell can have begun: a gap of 7/8 cell after the start mark, in the
reply window, or where this station's own reply begins (TABLE 4-2, R76). -/
def Link.firstCell (k : Link) : Nat :=
  match k.rx with
  | .afterData => k.recessiveFrom + eodCells * cell
  | .reply => k.fallAt
  | _ => k.gapFrom + 7

/-- The least moment at which an unread run of `n` cells, 7/8 cell apart at the closest, reaches its EOD (R71). -/
def Link.earliestEod (k : Link) (n : Nat) : Nat := k.firstCell + 7 * n + 1 + eodCells * cell

/-- What a row says the receiver saw is what it has seen, where the edges were given: in START MARK from its falling edge
on, in GAP, and in the cells it reads (R70, R71, R73, R74, R76, R81). Where they were not, only the row tells, at no
moment before the mark or cell it tells of can have come (log entry 9). A stray edge is timed from the end of the last
cell; the reply of a frame that may take one may have gone unseen. -/
def Link.shows (k : Link) (f : LineFault) (now : Nat) : Bool :=
  match f with
  | .startMarkWidth w =>
    if k.rx = .startMark then w = now - k.fallAt else !k.dominant && k.recessiveFrom + eofCells * cell + w ≤ now
  | .gapEdge d | .gapSilent d =>
    !k.dominant && if k.rx = .gap then d = now - k.edgeAt else k.gapFrom + d ≤ now
  | .cellWidth w => if k.cellsRead then k.dominant && w = now - k.fallAt else !k.dominant && k.firstCell + w ≤ now
  | .edgeSpacing d => !k.dominant && if k.cellsRead then d = now - k.fallAt else k.firstCell + d ≤ now
  | .byteBegun n =>
    !k.dominant &&
      if k.cellsRead then k.bits = [] && n = k.runBuf.length + 1 else k.firstCell + 7 * (8 * (n - 1)) ≤ now
  | .cellCount n =>
    k.quiet eodCells now &&
      if k.cellsRead then n = 8 * k.runBuf.length + k.bits.length else k.earliestEod n ≤ now
  | .checkSum bytes | .frameBytes bytes =>
    k.quiet eodCells now &&
      if k.cellsRead then k.bits = [] && bytes = k.runBuf else k.earliestEod (8 * bytes.length) ≤ now
  | .strayEdge d =>
    !k.dominant &&
      if k.rx = .reply && k.replyUnread then k.firstCell + 7 * 8 + 1 + d ≤ now
      else if k.rx = .afterData && k.mayReply then d ≤ now - k.recessiveFrom
      else d = now - k.recessiveFrom

/-- The bytes this station is sending. -/
def State.sentBytes (s : State) : List Byte :=
  match s.tx.flight, s.link.reply with
  | some f, _ => f.bytes
  | none, some r => r.bytes
  | none, none => []

/-- The moment at which cell `c` begins of the frame or reply this station sends, counted from its start mark or its
first reply cell: so many cells after the edge that the cell timer runs from (R69). -/
def Link.cellStart (k : Link) (c : Nat) : Nat := k.fallAt + (c - k.fallCell) * cell

/-- The least moment the wire's recessive time can run from after a transmitter's error (R72): an echo error in a cell
leaves the wire recessive since the cell before it ended, or the start mark did. -/
def sendFaultRecessive (f : TransmitFault) (s : State) : Nat :=
  match f with
  | .echo k =>
    match s.tx.flight, k with
    | some _, 0 => min s.now (s.link.cellStart 3)
    | some _, k => min s.now (s.link.cellStart (4 + k))
    | none, 0 => 0
    | none, k => min s.now (s.link.cellStart k)
  | .seen e => faultRecessive e s.now

/-! ## The transmitter's samples (R69, R78, R79) -/

/-- The transmitter's cell at `now` and the eighth of it, by the cell timer: every falling edge of the wire restarts it,
and begins the next cell if it comes 7/8 cell or more after the last one (R69). -/
def Link.cellNow (k : Link) (now : Nat) : Nat × Nat :=
  (k.fallCell + (now - k.fallAt) / cell, (now - k.fallAt) % cell)

/-- This station samples data or reply cell `k` of what it sends: the cell is in hand at its 1/2, and the wire is at
`level` there (R78, R79). Data cell 0 is cell 4 from the start mark (R72). Where the edges were given, the receiver is in
DATA, or in GAP for a first cell whose edge does not come, or in REPLY, and sees the level. Where they were not, a frame's
START MARK and an unread reply stand for its cells, which begin by the cell timer, and the row tells the level (log entry
9). -/
def State.samplesCell (s : State) (k : Nat) (level : Bool) : Bool :=
  let link := s.link
  match s.tx.flight with
  | some _ =>
    link.cellNow s.now = (4 + k, cell / 2) &&
      ((link.rx = .startMark && !link.dominant) || ((link.rx = .gap || link.rx = .data) && link.dominant = level))
  | none =>
    link.cellNow s.now = (k, cell / 2) && link.rx = .reply &&
      ((link.replyUnread && !link.dominant) || link.dominant = level)

/-- What a transmitter saw is an error: an echo error is a 0 that found the wire recessive at 1/2 cell (R79). -/
def sendFaultIsError (f : TransmitFault) (s : State) : Bool :=
  match f with
  | .echo k => cellBit s.sentBytes k = some false && s.samplesCell k false
  | .seen e => faultIsError e s.link.rx s.link.mayReply && s.link.shows e s.now

/-! ## The link pin (R68, R69, R72) -/

/-- Data or reply cell `k` of these bytes is dominant at eighth `e`: a 1 for the first quarter of its cell, a 0 for the
first three quarters (R69). -/
def cellDominant (bytes : List Byte) (k e : Nat) : Bool :=
  match cellBit bytes k with
  | some true => e < 2
  | some false => e < 6
  | none => false

/-- A frame drives the wire for its start mark, cells 0 to 2, and its data cells from cell 4 on (R72). -/
def frameDominant (bytes : List Byte) (c e : Nat) : Bool := c < 3 || (4 ≤ c && cellDominant bytes (c - 4) e)

/-- The level the transmitter gives: its link pin's in WIRE mode, the looped signal's in LOOPBACK (R68, R88). -/
def State.transmits (s : State) : Bool :=
  let (c, e) := s.link.cellNow s.now
  match s.link.mode with
  | .wire =>
    match s.tx.flight, s.link.reply with
    | some f, _ => frameDominant f.bytes c e
    | none, some r => r.start ≤ s.now && cellDominant r.bytes c e
    | none, none => false
  | .loopback =>
    s.ctl.station = .selfTest && s.ctl.testStart.isSome && frameDominant (testBytes s.ctl.testFrame) c e
  | .off => false

/-- The level this station gives its link pin: dominant, or released. It drives the pin in WIRE mode alone (R68), and
never in a reset (R207). -/
def State.linkPin (s : State) : Bool := !s.inReset && s.link.mode = .wire && s.transmits

/-! ## Sending -/

/-- The receiver has no frame in hand: it is IDLE, or is in IDLE by the time a start mark may begin (R77). -/
def Link.betweenFrames (k : Link) : Bool :=
  match k.rx with
  | .idle | .waitEof => true
  | .afterData => !k.mayReply
  | _ => false

/-- FRAME_START in LOOPBACK: the test frame in hand begins after 5 cells of recessive time (R88, R202). -/
def State.startTestFrame (s : State) : State :=
  if s.ctl.station = .selfTest ∧ s.ctl.testStart = none ∧
      s.link.betweenFrames ∧ s.link.quiet nextStartCells s.now then
    (s.setCtl { s.ctl with testStart := some s.now }).setLink (s.link.beginFrame none s.now)
  else s

/-- The recessive time a start mark needs: 5 cells to drive one, 4 7/8 to join one (R72). -/
def startNeed (joining : Bool) : Nat := if joining then nextStartCells * cell - 1 else nextStartCells * cell

/-- Another station's start mark began at this very moment, and the receiver has seen it (R72, R73). -/
def Link.startSeen (k : Link) (now : Nat) : Bool := k.dominant && k.rx = .startMark && k.own = none && k.fallAt = now

/-- A transmitter with a frame ready begins or joins a start mark now: the recessive time is reached, with the wire
recessive still, or dominant from the edge that is joined (R72). -/
def Link.startsFrame (k : Link) (joining : Bool) (now : Nat) : Bool :=
  k.recessiveFrom + startNeed joining ≤ now && ((k.betweenFrames && !k.dominant) || (joining && k.startSeen now))

/-- FRAME_START in WIRE mode: the frame the queue offers becomes the frame in flight, its bytes as of this moment, and
its CLAIM's stage IN FLIGHT (R72, R104, R105, R136). -/
def State.startFrame (s : State) (joining : Bool) : State :=
  if s.link.startsFrame joining s.now ∧ !s.sending then
    match s.offered with
    | none => s
    | some f =>
      let bytes := encodeFrame (s.onWire f)
      let s := s.setTx { s.tx with flight := some { frame := f, bytes, start := s.now } }
      let s := s.setLink (s.link.beginFrame (some bytes) s.now)
      match f, s.hunt.claim with
      | .claim _ _, some c => s.setHunt { s.hunt with claim := some { c with stage := .inFlight } }
      | _, _ => s
  else s

/-- FRAME_START (R72). -/
def execFrameStart (when : Nat) (joining : Bool) (s : State) : Host.Outcome State Fault Refusal :=
  s.act when fun s =>
    match s.link.mode with
    | .loopback => s.startTestFrame
    | .wire => s.startFrame joining
    | .off => s

/-- ARBITRATION_LOST (R78): the cell carries a 1 and finds the wire dominant at its 1/2. The loss is counted; a frame stays
queued, a reply is dropped, and the receiver reads on with the own-frame marker clear. -/
def execArbitrationLost (when : Nat) (k : Nat) (s : State) : Host.Outcome State Fault Refusal :=
  s.act when fun s =>
    if s.sending ∧ cellBit s.sentBytes k = some true ∧ s.samplesCell k true then
      let s := s.setLink { s.link with own := none, reply := none, arbLosses := counted s.link.arbLosses }
      if s.tx.flight.isSome then s.flightEnds.settle else s
    else s

/-- TRANSMIT_ERROR (R83). -/
def execTransmitError (when : Nat) (fault : TransmitFault) (s : State) : Host.Outcome State Fault Refusal :=
  s.act when fun s =>
    if s.sending ∧ sendFaultIsError fault s then s.transmitFails (sendFaultRecessive fault s) else s

/-- The receiver's place at the outcome sent: EOF for a CLAIM, EOD for a frame that takes no reply (R83). -/
def Link.afterSent (k : Link) (f : Flight) (now : Nat) : Link :=
  match f.frame with
  | .claim _ _ =>
    { k.recessive (now - eofCells * cell) with rx := .idle, frameBuf := f.bytes, bits := [], errorRun := 0 }
  | _ =>
    { k.recessive (now - eodCells * cell) with
      rx := .afterData, mayReply := false, frameBuf := f.bytes, bits := [], errorRun := 0 }

/-- Cells from the falling edge of a frame's start mark to the end of its last data cell (TABLE 4-4): the mark and the gap
take 4, each byte 8. -/
def frameCells (bytes : List Byte) : Nat := 4 + 8 * bytes.length

/-- The frame of these bytes that began at `start` has run its cells without error and is now `cells` past the end of its
last one: its bytes read, where its edges were given (R71, R74); where they were not, its cells are those of the cell
timer from its start mark on (R69, log entry 9). A receiver left in GAP has found no first cell (R73). -/
def Link.runsTo (k : Link) (bytes : List Byte) (start cells now : Nat) : Bool :=
  k.quiet cells now &&
    match k.rx with
    | .startMark => start + (frameCells bytes + cells) * cell ≤ now
    | .data => k.frameBuf = bytes && k.bits = []
    | _ => false

/-- The frame in flight reaches its outcome sent now: a CLAIM its EOF, any other its EOD, with no error in what the
receiver has read of it (R83). It may have been handed already, at this very EOD or EOF (R74 to R76). -/
def Link.sentNow (k : Link) (f : Flight) (now : Nat) : Bool :=
  match f.frame with
  | .claim _ _ =>
    k.runsTo f.bytes f.start eofCells now ||
      (k.quiet eofCells now && (k.rx = .afterData || k.rx = .afterReply || k.rx = .idle))
  | _ =>
    k.runsTo f.bytes f.start eodCells now ||
      (k.quiet eodCells now && k.rx = .afterData && k.frameBuf = f.bytes)

/-- FRAME_SENT (R106): the frame leaves the queue, the error run is 0; an isolated-probe REPORT sent while the health is
GOOD takes an ISOLATED station into REJOIN (R194). A CLAIM's reply is judged first (R76). -/
def execFrameSent (when : Nat) (s : State) : Host.Outcome State Fault Refusal :=
  s.act when fun s =>
    let s := s.replyEod
    match s.tx.flight with
    | none => s
    | some f =>
      if s.link.sentNow f s.now then
        let s := (s.setTx s.tx.sent).setLink (s.link.afterSent f s.now)
        if f.frame = .report true ∧ s.ctl.station = .isolated ∧ s.link.health = .good then s.enterRejoin else s
      else s

/-! ## Receiving -/

/-- RECEIVE_ERROR (R82): the receiver reads nothing in WAIT EOF. An error in a frame this station sends is a transmit
error. -/
def execReceiveError (when : Nat) (fault : LineFault) (s : State) : Host.Outcome State Fault Refusal :=
  s.act when fun s =>
    if s.link.mode = .wire ∧ s.link.rx ≠ .waitEof ∧ faultIsError fault s.link.rx s.link.mayReply ∧
        s.link.shows fault s.now then
      s.wireError (faultRecessive fault s.now)
    else s

/-- A frame is being received or read on after its data (R85). -/
def RxState.midFrame : RxState → Bool
  | .waitEof | .idle => false
  | _ => true

/-- The least moment at which a dominant run can have begun whose falling edge was not given (log entry 9): no earlier
than the wire's last edge, than the last sample of a recessive wire, and than the recessive time that the receiver's
state has behind it: 4 cells in IDLE, and 2 past the end of a frame or a reply (R74 to R77, R88). -/
def Link.runFrom (k : Link) : Nat :=
  let quietFrom := match k.rx with
    | .idle => k.recessiveFrom + eofCells * cell
    | .afterData | .reply | .afterReply => k.recessiveFrom + eodCells * cell
    | _ => k.recessiveFrom
  max (max k.wireFrom quietFrom) (max k.edgeAt k.recessiveAt)

/-- Since the mark taken last, in a dominant run, the wire can have been recessive and then dominant for `cells`. -/
def runsApart (last : Option Nat) (cells now : Nat) : Bool := last.all fun t => t + cells * cell < now

/-- The wire has been dominant for `cells` at `now`, in a run of its own: one from which no mark of this kind was taken,
`last` the latest that was, measured in WIRE mode (R85, R86, R88). Where the receiver has seen the run begin, it is the
run since its falling edge. Where it has not, there is room for the run since the wire can last have been recessive, and
it is neither the run of the last abort nor that of the last failure; in GAP and in the cells it reads every edge is seen
(log entry 9). -/
def Link.freshRun (k : Link) (last : Option Nat) (cells now : Nat) : Bool :=
  if k.dominant then
    let start := max k.fallAt k.wireFrom
    start + cells * cell ≤ now && last.all fun t => t < start
  else
    k.rx ≠ .gap && !k.cellsRead && k.runFrom + cells * cell ≤ now &&
      runsApart k.stuckAbort cells now && runsApart k.stuckFailure cells now

/-- The dominant run of the last abort, whose falling edge was not given, has reached `failureCells` at `now`: the wire has
shown no edge, and no recessive level, since that mark, and the receiver is in WAIT EOF still (R77, R85, R86). -/
def Link.abortRunFails (k : Link) (now : Nat) : Bool :=
  !k.dominant && k.rx = .waitEof &&
    k.stuckAbort.any fun a =>
      k.runFrom ≤ a && a + (failureCells - abortCells) * cell ≤ now && k.stuckFailure.all fun t => t < a

/-- STUCK_DOMINANT_ABORT (R85): once in each dominant run, a frame or reply in progress ends with an error and the
receiver enters WAIT EOF. -/
def execStuckDominantAbort (when : Nat) (s : State) : Host.Outcome State Fault Refusal :=
  s.act when fun s =>
    if s.link.mode = .wire ∧ s.link.freshRun s.link.stuckAbort abortCells s.now then
      let mid := s.link.rx.midFrame
      let s := s.setLink { s.link.dominantAt s.now with stuckAbort := some s.now }
      if s.sending || mid then s.wireError s.now else s.setLink s.link.waitEof
    else s

/-- LINK_FAILURE (R86): once in each dominant run, counted, the health FAILED and the station ISOLATED (R189). -/
def execLinkFailure (when : Nat) (s : State) : Host.Outcome State Fault Refusal :=
  s.act when fun s =>
    if s.link.mode = .wire ∧
        (s.link.freshRun s.link.stuckFailure failureCells s.now || s.link.abortRunFails s.now) then
      (s.setLink { s.link.dominantAt s.now with
        stuckFailure := some s.now, health := .failed, failures := counted s.link.failures }).enterIsolated
    else s

/-- LINK_RECOVERY (R87): the wire recessive for 8000 cells, measured from its last edge, while the health is FAILED makes
it GOOD. -/
def execLinkRecovery (when : Nat) (s : State) : Host.Outcome State Fault Refusal :=
  s.act when fun s =>
    if s.link.mode = .wire ∧ s.link.health = .failed ∧
        !s.link.dominant ∧ s.link.edgeAt + recoveryCells * cell ≤ s.now then
      s.setLink { s.link with health := .good }
    else s

/-- The receiver waits for the EOF of a frame it has read (R75, R76): one that takes a reply, or one that takes none and
has reached its outcome. A reply none of whose cells was read, this station's own having lost, has one byte at least. -/
def State.awaitsEof (s : State) : Bool :=
  match s.link.rx with
  | .afterData => s.link.mayReply || !s.sending
  | .reply => s.link.fallAt + (8 + eofCells) * cell ≤ s.now
  | .afterReply => true
  | _ => false

/-- The receiver at EOF: IDLE, with the marker and the buffers of the frame given up (R75, R76). -/
def Link.afterEof (k : Link) (now : Nat) : Link :=
  { k.recessive (now - eofCells * cell) with
    rx := .idle, mayReply := false, frameBuf := [], replyBuf := [], bits := [], own := none, replyDriven := false }

/-- The frame in hand is a CLAIM: kind 2 (R92). -/
def Link.claimInHand (k : Link) : Bool := k.frameBuf.head?.any fun h => h.toNat / 16 = 2

/-- The receiver enters IDLE at the EOF of the frame in hand (R75, R76). The marker and the buffers of a CLAIM stay for the
row that judges it at this EOF (R99); any other frame has been handed. -/
def Link.atEof (k : Link) (now : Nat) : Link :=
  if k.claimInHand then { k.recessive (now - eofCells * cell) with rx := .idle, mayReply := false }
  else k.afterEof now

/-- FRAME_EOF (R75, R76): the receiver hands the end of the frame and enters IDLE, once a reply it has read is judged; a
carried-out RESTART begins here (R212). -/
def execFrameEof (when : Nat) (s : State) : Host.Outcome State Fault Refusal :=
  s.act when fun s =>
    let s := s.replyEod
    if s.link.mode = .wire ∧ s.awaitsEof ∧ !s.link.reply.isSome ∧ s.link.quiet eofCells s.now then
      let s' := s.setLink (s.link.atEof s.now)
      if s.ctl.restartDue then s'.beginReset else s'
    else s

/-- RECEIVER_IDLE (R77): from WAIT EOF, or at the EOF of a frame that takes no reply, when the recessive time reaches 4
cells; in LOOPBACK as on the wire (R88). -/
def execReceiverIdle (when : Nat) (s : State) : Host.Outcome State Fault Refusal :=
  s.act when fun s =>
    if s.link.mode ≠ .off ∧ !s.sending ∧
        (s.link.rx = .waitEof ∨ (s.link.rx = .afterData ∧ s.link.mayReply = false)) ∧ s.link.quiet eofCells s.now then
      s.setLink (s.link.afterEof s.now)
    else s

end Sys2Proof.Machine
end

