-- ==== Sys2Proof/Machine/Frames.lean ====
section
/-! DEFINITION. Frames heard (Sections 5 and 6): receipt, and the meanings of RELEASE, OBJECTION, CLAIM, RETIRE, RESTORE
and REPORT. -/

namespace Sys2Proof.Machine

open Sys2Proof

/-! ## Receipt at EOD (R74, R94, R97) -/

/-- The receiver reads a frame that reaches EOD now: it is in WIRE mode, the wire has been recessive for 2 cells since the
end of the last data cell (R71), and it was not left in WAIT EOF, in GAP or in an earlier frame. Where the edges were
given, in DATA, the bytes are those it has assembled (R74); this station's own frame carries its own bytes, and may have
reached AFTER DATA with its outcome (R83). A frame unseen since IDLE has had the time for its cells (log entry 9). -/
def Link.hears (k : Link) (bytes : List Byte) (now : Nat) : Bool :=
  k.mode = .wire && k.quiet eodCells now && k.own.all (· = bytes) &&
    match k.rx with
    | .idle => k.own.isNone && k.earliestEod (8 * bytes.length) ≤ now
    | .startMark | .data => k.runsTo bytes k.fallAt eodCells now
    | .afterData => k.own.isSome && !k.mayReply && k.frameBuf = bytes
    | _ => false

/-- The receiver enters AFTER DATA at EOD with the frame in its buffer (R74). -/
def Link.afterData (k : Link) (bytes : List Byte) (mayReply : Bool) (now : Nat) : Link :=
  { k.recessive (now - eodCells * cell) with
    rx := .afterData, mayReply, frameBuf := bytes, replyBuf := [], bits := [], replyDriven := false }

/-- This station drives a reply: its first falling edge comes 2 cells after the end of the last data cell, which is this
EOD, and the cell timer runs from there (R76). -/
def Link.driveReply (k : Link) (bytes : List Byte) (kind : ReplyKind) (now : Nat) : Link :=
  { k with rx := .reply, reply := some { bytes, kind, start := now }, fallAt := now, fallCell := 0 }

/-- A frame of these bytes reaches EOD: its check (R81) and the frame layer's judgement (R94) decide whether it is
refused as a receive error or handed on. -/
def State.hear (s : State) (bytes : List Byte) (handOn : LinkFrame → State → State) : State :=
  if s.link.hears bytes s.now then
    match if checkGood bytes then parseFrame bytes else none with
    | some f => handOn f s
    | none => s.wireError (s.ago eodCells)
  else s

/-- A frame that takes no reply is handed to the view at EOD with its own-frame marker (R97, R113): this station's own
changes nothing, one that bears its slot without the marker is a slot conflict (R198), and a peer's is applied whole
before the Hunt Unit judges (R118, R122). -/
def State.handToView (s : State) (p : Slot) (bytes : List Byte) (peers : State → State) : State :=
  let marker := s.link.own.isSome
  let s := s.setLink { s.link.afterData bytes false s.now with own := none }
  if p = s.slot then (if marker then s else s.halt .slotConflict)
  else (peers s).settle

/-- A frame of kinds 1 to 4 from a peer: its presence is refreshed, and a trunk at or above N only sets its mismatch
(R95, R113, R127). -/
def State.fromPeer (s : State) (p : Slot) (t : Trunk) (apply : State → State) : State :=
  let s := s.refresh p
  if s.fitted t then apply s else s.setMismatch p true

/-! ## RELEASE, RETIRE, RESTORE (R116, R117) -/

/-- A RELEASE frees the entry its sender holds, and is stale otherwise (R116). -/
def State.applyRelease (s : State) (p : Slot) (t : Trunk) : State :=
  if (s.entry t).isHeldBy p then s.setEntry t ((s.entry t).freed s.scanTime) else s.countStale

/-- A RETIRE sets retired-by, unless this station has retired the trunk (R117). -/
def State.applyRetire (s : State) (p : Slot) (t : Trunk) : State :=
  if s.retiredBySelf t then s else s.setRetiredBy t (some p)

/-- A RESTORE removes retired-by if it names the sender (R117). -/
def State.applyRestore (s : State) (p : Slot) (t : Trunk) : State :=
  if (s.entry t).retiredBy = some p then s.setRetiredBy t none else s

/-- RELEASE at its EOD (R116). -/
def execRelease (when : Nat) (slot : HeaderSlot) (trunk cause check : Byte) (s : State) :
    Host.Outcome State Fault Refusal :=
  s.act when fun s =>
    let bytes := [header 1 slot, trunk, cause, check]
    s.hear bytes fun f s =>
      match f with
      | .release p t _ => s.handToView p bytes fun s => s.fromPeer p t fun s => s.applyRelease p t
      | _ => s

/-- RETIRE at its EOD (R117). -/
def execRetire (when : Nat) (slot : HeaderSlot) (trunk cause check : Byte) (s : State) :
    Host.Outcome State Fault Refusal :=
  s.act when fun s =>
    let bytes := [header 3 slot, trunk, cause, check]
    s.hear bytes fun f s =>
      match f with
      | .retire p t _ => s.handToView p bytes fun s => s.fromPeer p t fun s => s.applyRetire p t
      | _ => s

/-- RESTORE at its EOD (R117). -/
def execRestore (when : Nat) (slot : HeaderSlot) (trunk check : Byte) (s : State) :
    Host.Outcome State Fault Refusal :=
  s.act when fun s =>
    let bytes := [header 4 slot, trunk, check]
    s.hear bytes fun f s =>
      match f with
      | .restore p t => s.handToView p bytes fun s => s.fromPeer p t fun s => s.applyRestore p t
      | _ => s

/-! ## Dual hold and yield (R120, R162) -/

/-- This station gives up trunk `t` to peer `p`: the entry HELD by `p`, the session released with cause yield, and its
call in LOCKOUT, or its probe's interval started again (R120, R162). -/
def State.yieldTo (s : State) (t : Trunk) (p : Slot) : State :=
  let session := s.session t
  let s := s.makeHeld t p none
  match session with
  | none => s
  | some ses =>
    let s := s.endSession t .yield
    match ses.purpose with
    | .line l => s.lockout l
    | .probe => s.probeAgain t

/-- A dual hold with peer `p` is counted and resolved by slot number (R120). -/
def State.dualHold (s : State) (t : Trunk) (p : Slot) : State :=
  let s := s.countDual
  if s.slot < p then s else s.yieldTo t p

/-- The view learns that peer `p` holds trunk `t`, from a REPORT's map or from an objection of code 1 (R115, R118). -/
def State.learnHeld (s : State) (t : Trunk) (p : Slot) : State :=
  match (s.entry t).holding with
  | .own _ => s.dualHold t p
  | .held q _ => if q = p then s else s.makeHeld t p none
  | .free => s.makeHeld t p none

/-! ## REPORT (R118, R119, R127) -/

/-- One place of a REPORT's two maps, applied to a fitted entry (R118, R119). -/
def State.applyPlace (s : State) (p : Slot) (held retired : Bool) (t : Trunk) : State :=
  let s :=
    if held then s.learnHeld t p
    else if (s.entry t).isHeldBy p then s.setEntry t ((s.entry t).freed s.scanTime)
    else s
  if retired then s.applyRetire p t else s.applyRestore p t

/-- A REPORT of a peer: presence, maps, trunk count and mismatch (R118, R119, R127). -/
def State.applyReport (s : State) (p : Slot) (count : Nat) (held retired : Byte) (mismatch : Bool) : State :=
  let s := s.refresh p
  let s := ((List.finRange 8).filter s.fitted).foldl
    (fun s t => s.applyPlace p (mapHas held t) (mapHas retired t) t) s
  s.setPeer p { s.peer p with trunkCount := some count, mismatch := mismatch || count ≠ s.n }

/-- REPORT at its EOD (R118); an isolated-probe REPORT of a peer only counts the probe reports counter (R113, R193). -/
def execReport (when : Nat) (slot : HeaderSlot) (count held retired flags check : Byte) (s : State) :
    Host.Outcome State Fault Refusal :=
  s.act when fun s =>
    let bytes := [header 5 slot, count, held, retired, flags, check]
    s.hear bytes fun f s =>
      match f with
      | .report p n hm rm probe mismatch =>
        s.handToView p bytes fun s =>
          if probe then s.countProbe else s.applyReport p n hm rm mismatch
      | _ => s

/-! ## OBJECTION (R98) -/

/-- The objection this station gives to a peer's CLAIM for `t`: code 1 when it is OWN, code 2 when it is retired by self,
judged at EOD, in the states that allow it (R98, R102). -/
def State.objectionTo (s : State) (p : Slot) (t : Trunk) : Option Nat :=
  if p ≠ s.slot ∧ s.replies ∧ s.fitted t then
    if (s.entry t).isOwn then some 1 else if s.retiredBySelf t then some 2 else none
  else none

/-- OBJECTION: the EOD of a CLAIM (R98). -/
def execObjection (when : Nat) (slot : HeaderSlot) (trunk line check : Byte) (s : State) :
    Host.Outcome State Fault Refusal :=
  s.act when fun s =>
    let bytes := [header 2 slot, trunk, line, check]
    s.hear bytes fun f s =>
      match f with
      | .claim p t _ =>
        let k := s.link.afterData bytes true s.now
        match s.objectionTo p t with
        | none => s.setLink k
        | some code => s.setLink (k.driveReply (objectionReply code s.slot) .objection s.now)
      | _ => s

/-! ## CLAIM at EOF (R99, R114, R115, Section 7.5) -/

/-- The outcome of a CLAIM at its EOF (R99): effective, voided by an objection, or a reply that is refused or that fails
its check. -/
inductive ClaimOutcome where
  | effective
  | voided (code : Nat) (objector : Slot)
  | refused
  | damaged
deriving DecidableEq, Repr

/-- The reply read, judged for the claimant `p` (R99). -/
def judgeReply (p : Slot) (reply : Option (List Byte)) : ClaimOutcome :=
  match reply with
  | none => .effective
  | some bytes =>
    if checkGood bytes then
      match judgeObjection p bytes with
      | some (code, o) => .voided code o
      | none => .refused
    else .damaged

/-- A voided claim teaches the view what the objection says, whoever claimed (TABLE 6-5). -/
def State.applyObjection (s : State) (t : Trunk) (code : Nat) (o : Slot) : State :=
  if o = s.slot then s
  else if code = 1 then s.learnHeld t o
  else s.applyRetire o t

/-- A peer's effective claim: the count is raised; an entry not OWN becomes HELD, one that is OWN counts a dual hold
(R114). -/
def State.peerEffective (s : State) (p : Slot) (t : Trunk) (line : Option Line) : State :=
  let s := s.raiseCount t
  if (s.entry t).isOwn then s.countDual else s.makeHeld t p line

/-- A trunk handed over at an effective claim for a HUNTING line (R142): seized if its busy input is idle (R153); else a
busy conflict, the line back at the head of the hunt queue (R154). -/
def State.handLine (s : State) (t : Trunk) (l : Line) : State :=
  let s := s.unqueue l
  if (s.input t).busy then ((s.conflictOwn t).place (.release t .busyConflict)).queueHead l
  else s.seizeForLine t l

/-- A trunk handed over as a probe (R165). -/
def State.handProbe (s : State) (t : Trunk) : State :=
  if (s.input t).busy then ((s.conflictOwn t).place (.release t .busyConflict)).probeAgain t
  else s.seizeTrunk t .probe

/-- A claim whose owner no longer wants the trunk: given up in the same act, with cause line-clear (R143). -/
def State.giveUp (s : State) (t : Trunk) : State := (s.freeOwn t).place (.release t .lineClear)

/-- This station's effective claim (R114, R142, R143, R146): the entry OWN, the claim settled for its owner. -/
def State.ownEffective (s : State) (c : Claim) (line : Option Line) : State :=
  let s := ((s.raiseCount c.trunk).makeOwn c.trunk line).setHunt { s.hunt with claim := none }
  match c.owner with
  | .line l => if (s.call l).state = .hunting then s.handLine c.trunk l else s.giveUp c.trunk
  | .probe => s.handProbe c.trunk
  | .lapsed => s.giveUp c.trunk

/-- This station's claim ends without effect, voided or its reply refused (R141, R144, R146). -/
def State.ownWithoutEffect (s : State) (c : Claim) : State :=
  let s := s.setHunt { s.hunt with claim := none }
  if c.owner = .probe then s.probeNotMade c.trunk else s

/-- At EOF a CLAIM in flight without error was sent and leaves the queue (R99, R106). -/
def State.claimSent (s : State) : State :=
  if s.tx.inFlight .claim then (s.setTx s.tx.sent).setLink { s.link with errorRun := 0 } else s

/-- This station's own CLAIM at its EOF (R99, R141 to R144). -/
def State.ownClaim (s : State) (t : Trunk) (line : Option Line) (outcome : ClaimOutcome) : State :=
  let s := s.claimSent
  match s.hunt.claim with
  | none => s
  | some c =>
    if c.trunk = t then
      match outcome with
      | .effective => (s.ownEffective c line).settle
      | .voided code o => (((s.refresh o).applyObjection t code o).ownWithoutEffect c).settle
      | _ => (s.ownWithoutEffect c).settle
    else s

/-- A peer's CLAIM at its EOF (R110, R113 to R115): an objection in this station's slot that it did not drive is a slot
conflict (R198). -/
def State.peerClaim (s : State) (p : Slot) (t : Trunk) (line : Option Line) (outcome : ClaimOutcome)
    (driven : Bool) : State :=
  match outcome with
  | .effective => (s.fromPeer p t fun s => s.peerEffective p t line).settle
  | .voided code o =>
    if o = s.slot ∧ driven = false then s.halt .slotConflict
    else ((s.refresh o).fromPeer p t fun s => s.applyObjection t code o).settle
  | _ => s

/-- A valid CLAIM reaches its EOF with the outcome decided (R97, R99, R113): a refused reply is a receive error (R144),
a CLAIM that bears this station's slot without the own-frame marker a slot conflict (R198). -/
def State.claimAtEof (s : State) (p : Slot) (t : Trunk) (line : Option Line) (outcome : ClaimOutcome) : State :=
  let marker := s.link.own.isSome
  let driven := s.link.replyDriven
  let k := s.link.afterEof s.now
  let s := if outcome = .refused then (s.setLink { k with rx := .waitEof }).countRx else s.setLink k
  if p = s.slot then
    if marker then s.ownClaim t line outcome
    else if outcome = .refused then s else s.halt .slotConflict
  else s.peerClaim p t line outcome driven

/-- Cells from the end of a CLAIM's last data cell to its EOF: 4, or with a reply 2 before it, 8 for each of its bytes and
4 after it (TABLE 4-2, TABLE 4-7). -/
def eofAfterData (reply : Option (List Byte)) : Nat :=
  match reply with
  | none => eofCells
  | some b => eodCells + 8 * b.length + eofCells

/-- The least wait from a CLAIM's EOD to its EOF, where no edge was given: its reply's cells are 7/8 cell apart at the
closest (R71, R75, R76). -/
def eofAfterEod (reply : Option (List Byte)) : Nat :=
  match reply with
  | none => (eofCells - eodCells) * cell
  | some b => 7 * (8 * b.length) + 1 + eofCells * cell

/-- A reply whose cells the receiver has read is the one it has read (R76). -/
def Link.replyIs (k : Link) (reply : Option (List Byte)) : Bool := k.replyBuf = [] || reply = some k.replyBuf

/-- The receiver has this CLAIM in hand at its EOF, 4 cells after the end of the last cell (R75, R76): in WIRE mode, not
in WAIT EOF or GAP, with these bytes in its buffer where it has read them (R74), and partway through no byte; the own
CLAIM carries its own bytes, and an objection this station drives has had its outcome. A reply whose cells were read is
the one it has read (R76); one that was not has had the time for its cells. In IDLE the frame is the one whose EOF has
just been handed (R75), or one unseen since an earlier EOF (log entry 9). -/
def Link.holdsClaim (k : Link) (bytes : List Byte) (reply : Option (List Byte)) (now : Nat) : Bool :=
  k.mode = .wire && k.quiet eofCells now && k.own.all (· = bytes) && k.bits = [] && k.reply.isNone &&
    match k.rx with
    | .waitEof | .gap => false
    | .idle =>
      if k.frameBuf = bytes then k.replyIs reply
      else k.own.isNone && k.earliestEod (8 * bytes.length) + eofAfterEod reply ≤ now
    | .startMark => k.fallAt + (frameCells bytes + eofAfterData reply) * cell ≤ now
    | .data => k.frameBuf = bytes && reply.isNone
    | .afterData => k.frameBuf = bytes && k.recessiveFrom + eofAfterData reply * cell ≤ now
    | .reply =>
      k.frameBuf = bytes &&
        if k.replyBuf = [] then reply.any fun b => k.fallAt + (8 * b.length + eofCells) * cell ≤ now
        else reply = some k.replyBuf
    | .afterReply => k.frameBuf = bytes && k.replyIs reply

/-- CLAIM at its EOF (R99), once a reply that the receiver has read is judged (R76). -/
def execClaim (when : Nat) (slot : HeaderSlot) (trunk line check : Byte) (reply : Option (List Byte)) (s : State) :
    Host.Outcome State Fault Refusal :=
  s.act when fun s =>
    let bytes := [header 2 slot, trunk, line, check]
    let s := s.replyEod
    if s.link.holdsClaim bytes reply s.now then
      match if checkGood bytes then parseFrame bytes else none with
      | some (.claim p t l) =>
        let outcome := judgeReply p reply
        if outcome = .damaged then s.wireError (s.ago eodCells) else s.claimAtEof p t l outcome
      | _ => s.wireError (s.ago eodCells)
    else s

end Sys2Proof.Machine
end

