-- ==== Sys2Proof/Machine/Lines.lean ====
section
/-! DEFINITION. The meanings of the rows of a line (Sections 1 to 3). -/

namespace Sys2Proof.Machine

open Sys2Proof

/-- The 8 kHz tick of a millisecond, 0 to 7, at `now`. -/
def tickOf (now : Nat) : Nat := now / cell % 8

/-- LOOP_SAMPLE (R2): each line is sampled once per millisecond, from scan time 1, at its fixed place: line 0 in the first
tick, line 7 in the last (R1). Any mark the line's interval has
reached is taken first; then the sample is applied and the edge it causes is handed on (R4). -/
def execLoopSample (when : Nat) (l : Line) (present : Bool) (s : State) : Host.Outcome State Fault Refusal :=
  s.act when fun s =>
    if (s.scanLine l).lastSample < s.scanTime ∧ tickOf s.now = l.val then (s.takeMarks l).applySample l present else s

/-- OFF_HOOK (R7). -/
def execOffHook (when : Nat) (l : Line) (s : State) : Host.Outcome State Fault Refusal :=
  s.act when fun s => s.offHookMark l

/-- CLEAR (R10, R61). -/
def execClear (when : Nat) (l : Line) (s : State) : Host.Outcome State Fault Refusal :=
  s.act when fun s => s.clearMark l

/-- DIGIT_COMPLETE (R30). -/
def execDigitComplete (when : Nat) (l : Line) (s : State) : Host.Outcome State Fault Refusal :=
  s.act when fun s => s.thresholdMark l

/-- FIRST_ENTRY_TIMER (R47). -/
def execFirstEntryTimer (when : Nat) (l : Line) (s : State) : Host.Outcome State Fault Refusal :=
  s.act when fun s =>
    let c := s.call l
    if c.state = .collecting ∧ c.queue = [] ∧ due c.firstTimer s.scanTime then s.lockout l else s

/-- An end-of-dialling timer running with its expiry reached. -/
def DialTimer.due (d : DialTimer) (time : Nat) : Bool :=
  match d with
  | .running expiry => expiry ≤ time
  | _ => false

/-- END_OF_DIALLING_TIMER: an EN-BLOC call leaves COLLECTING for HUNTING (R48); an OVERLAP call has its sending released
(R53). -/
def execEndOfDiallingTimer (when : Nat) (l : Line) (s : State) : Host.Outcome State Fault Refusal :=
  s.act when fun s =>
    let c := s.call l
    if c.dialTimer.due s.scanTime then
      match c.state with
      | .collecting => (s.enterHunting l).settle
      | .hunting | .seizing | .dialling => (s.setCall l { c with dialTimer := .expired }).settleSenders
      | _ => s
    else s

/-- HUNT_TIMER (R51): the call enters LOCKOUT, and the Hunt Unit goes on with the next line (R134, R138). -/
def execHuntTimer (when : Nat) (l : Line) (s : State) : Host.Outcome State Fault Refusal :=
  s.act when fun s =>
    let c := s.call l
    if c.state = .hunting ∧ due c.huntTimer s.scanTime then (s.lockout l).settle else s

end Sys2Proof.Machine
end

