-- ==== Sys2Proof/Machine/Maintenance.lean ====
section
/-! DEFINITION. The Maintenance Responder (Sections 5.4, 11.5, 11.6 and 12.2): status pages, commands judged at EOD and
carried out when the reply is sent, and the meanings of STATUS_REQUEST, the COMMAND rows and REPLY_SENT. -/

namespace Sys2Proof.Machine

open Sys2Proof

/-! ## State codes (TABLE 12-6) -/

def StationState.code : StationState → Nat
  | .strapCheck => 0
  | .selfTest => 1
  | .listen => 2
  | .active => 3
  | .isolated => 4
  | .rejoin => 5
  | .strapFault => 6
  | .testFault => 7
  | .slotConflict => 8

def CallState.code : CallState → Nat
  | .idle => 0
  | .collecting => 1
  | .hunting => 2
  | .seizing => 3
  | .dialling => 4
  | .lockout => 5
  | .blocked => 6

def Holding.code : Holding → Nat
  | .free => 0
  | .held _ _ => 1
  | .own _ => 2

def SessionState.code : SessionState → Nat
  | .waitPts => 1
  | .established => 2
  | .recallBreak => 3
  | .probeWait => 4

def SendingMode.code : SendingMode → Nat
  | .overlap => 0
  | .enBloc => 1

/-! ## Status pages (R208, R214, TABLE 12-5) -/

/-- A byte written as a sum of weighted parts. -/
def sumByte (n : Nat) : Byte := BitVec.ofNat 8 n

/-- Page 0: the station. -/
def State.pageStation (s : State) : List Byte :=
  let p := s.ctl.straps
  [0, sumByte (s.ctl.station.code * 16 + p.shelf.val),
   sumByte (p.slot.val * 32 + p.trunks.val * 4 + p.start.val),
   sumByte (s.tx.frames.length * 8 + p.mode.code * 4 + p.profile.val),
   s.link.rxErrors, s.link.txErrors, s.link.arbLosses, s.link.failures]

/-- Page 1: the pool view; the own slot's places in the presence and mismatch maps are 0. -/
def State.pageView (s : State) : List Byte :=
  [1, mapOf fun p => p ≠ s.slot && (s.peer p).heard.isSome, mapOf fun p => p ≠ s.slot && (s.peer p).mismatch,
   mapOf fun t => (s.entry t).isOwn, mapOf s.retiredBySelf,
   s.view.staleReleases, s.view.dualHolds, s.view.probeReports]

/-- Page 2 + l: the summary of a line. -/
def State.pageLine (s : State) (l : Line) : List Byte :=
  let c := s.call l
  let d := s.decoder l
  [sumByte (2 + l.val),
   sumByte (c.state.code * 32 + bit ((s.scanLine l).loop = .closed) * 16 + bit c.spoiled * 8 + bit c.overflow * 4 +
     bit c.audio * 2 + bit c.pendingBlock),
   sumByte ((c.trunk.elim 0 fun t => t.val) * 32 + c.queue.length),
   sumByte d.p, d.lastR.elim 255 sumByte, d.digits, d.mutilated, c.lockouts]

/-- The holder slot of an entry, 0 when FREE. -/
def State.holderSlot (s : State) (t : Trunk) : Nat :=
  match (s.entry t).holding with
  | .free => 0
  | .held p _ => p.val
  | .own _ => s.slot.val

/-- Page 10 + t: the detail of a trunk; the inputs of an unfitted trunk are not read. -/
def State.pageTrunk (s : State) (t : Trunk) : List Byte :=
  let e := s.entry t
  [sumByte (10 + t.val),
   sumByte (e.holding.code * 64 + s.holderSlot t * 8 + e.failures * 2 + bit e.busyMismatch),
   sumByte (e.seizures.toNat / 256), sumByte (e.seizures.toNat % 256),
   e.retiredBy.elim 255 octalByte,
   (s.session t).elim 0 fun ses => sumByte ses.state.code,
   if s.fitted t then sumByte (bit (s.input t).busy) else 255,
   sumByte (bit (t ≠ s.slot && (s.peer t).heard.isSome) * 16 +
     (if t = s.slot then 0 else (s.peer t).trunkCount.getD 0))]

/-- Page 18 + l: the error counters of a line. -/
def State.pageErrors (s : State) (l : Line) : List Byte :=
  let d := s.decoder l
  [sumByte (18 + l.val), d.noise, d.merged, d.doubtful, d.recalls, d.speed, (s.call l).overflows,
   (s.scanLine l).glitches]

/-- The eight bytes of a page as the station stands; 26 or more draws 255 and seven zeros (R100, R208). -/
def State.page (s : State) (page : Byte) : List Byte :=
  let n := page.toNat
  if n = 0 then s.pageStation
  else if n = 1 then s.pageView
  else if n < 10 then s.pageLine (Fin.ofNat 8 (n - 2))
  else if n < 18 then s.pageTrunk (Fin.ofNat 8 (n - 10))
  else if n < 26 then s.pageErrors (Fin.ofNat 8 (n - 18))
  else [255, 0, 0, 0, 0, 0, 0, 0]

/-! ## Skipping and replying (R96, R102) -/

/-- The frame is skipped: the receiver enters WAIT EOF and nothing is counted (R74, R96). -/
def State.skip (s : State) : State := s.setLink (s.link.recessive (s.ago eodCells)).waitEof

/-- A maintenance frame aimed at `target` reaches EOD: skipped unless it is for this station in a state that replies;
else the reply is driven (R96, R100, R101, R102). -/
def State.answer (s : State) (target : Slot) (bytes reply : List Byte) (kind : ReplyKind) : State :=
  if target = s.slot ∧ s.replies then
    s.setLink ((s.link.afterData bytes true s.now).driveReply reply kind s.now)
  else s.skip

/-- STATUS_REQUEST at its EOD (R100). -/
def execStatusRequest (when : Nat) (slot : HeaderSlot) (target page check : Byte) (s : State) :
    Host.Outcome State Fault Refusal :=
  s.act when fun s =>
    let bytes := [header 6 slot, target, page, check]
    s.hear bytes fun f s =>
      match f with
      | .statusRequest _ g p => s.answer g bytes (withCheck (s.page p)) .status
      | _ => s

/-! ## Commands judged (R101, R209 to R212) -/

/-- BLOCK LINE and UNBLOCK LINE judged on a record (TABLE 11-5). -/
def ackBlock (c : CallRecord) : Ack := if c.state.inCall then .deferred else .done

def ackUnblock (c : CallRecord) : Ack :=
  if c.state = .blocked ∨ (c.state.inCall ∧ c.pendingBlock) then .done else .refused

/-- RETIRE TRUNK judged (TABLE 11-6). -/
def State.ackRetire (s : State) (t : Trunk) : Ack :=
  if s.retiredBySelf t then .done else if (s.entry t).isOwn then .deferred else .done

/-- RESTORE TRUNK judged (TABLE 11-6). -/
def State.ackRestore (s : State) (t : Trunk) : Ack :=
  if s.retiredBySelf t ∨ ((s.entry t).isOwn ∧ s.retireWaits t) then .done else .refused

/-- The acknowledgement a command earns as the station stands (R101, R209 to R212): REFUSED in any state but ACTIVE, for
an unlisted code and for an argument out of range. -/
def State.judgeCommand (s : State) (code arg : Byte) : Ack :=
  if s.ctl.station ≠ .active then .refused
  else
    match code.toNat, octal arg with
    | 1, some l => ackBlock (s.call l)
    | 2, some l => ackUnblock (s.call l)
    | 3, some t => if s.fitted t then s.ackRetire t else .refused
    | 4, some t => if s.fitted t then s.ackRestore t else .refused
    | 5, some _ => .done
    | 6, _ => if arg.toNat ≤ 8 then .done else .refused
    | 7, _ => if arg = 0 then .done else .refused
    | _, _ => .refused

/-- A COMMAND of this code reaches its EOD (R101). -/
def State.commandHeard (s : State) (slot : HeaderSlot) (target code arg check : Byte) : State :=
  let bytes := [header 7 slot, target, code, arg, check]
  s.hear bytes fun f s =>
    match f with
    | .command _ g c a =>
      let ack := s.judgeCommand c a
      s.answer g bytes (withCheck [ack.byte]) (.command c a ack)
    | _ => s

/-- BLOCK_LINE at its EOD: command code 1 (R209, TABLE 12-4). -/
def execBlockLine (when : Nat) (slot : HeaderSlot) (target arg check : Byte) (s : State) :
    Host.Outcome State Fault Refusal :=
  s.act when fun s => s.commandHeard slot target 1 arg check

/-- UNBLOCK_LINE at its EOD: command code 2 (R209). -/
def execUnblockLine (when : Nat) (slot : HeaderSlot) (target arg check : Byte) (s : State) :
    Host.Outcome State Fault Refusal :=
  s.act when fun s => s.commandHeard slot target 2 arg check

/-- RETIRE_TRUNK at its EOD: command code 3 (R210). -/
def execRetireTrunk (when : Nat) (slot : HeaderSlot) (target arg check : Byte) (s : State) :
    Host.Outcome State Fault Refusal :=
  s.act when fun s => s.commandHeard slot target 3 arg check

/-- RESTORE_TRUNK at its EOD: command code 4 (R210). -/
def execRestoreTrunk (when : Nat) (slot : HeaderSlot) (target arg check : Byte) (s : State) :
    Host.Outcome State Fault Refusal :=
  s.act when fun s => s.commandHeard slot target 4 arg check

/-- RESET_PROFILE at its EOD: command code 5 (R33, R209). -/
def execResetProfile (when : Nat) (slot : HeaderSlot) (target arg check : Byte) (s : State) :
    Host.Outcome State Fault Refusal :=
  s.act when fun s => s.commandHeard slot target 5 arg check

/-- CLEAR_COUNTS at its EOD: command code 6 (R211). -/
def execClearCounts (when : Nat) (slot : HeaderSlot) (target arg check : Byte) (s : State) :
    Host.Outcome State Fault Refusal :=
  s.act when fun s => s.commandHeard slot target 6 arg check

/-- RESTART at its EOD: command code 7 (R212). -/
def execRestart (when : Nat) (slot : HeaderSlot) (target arg check : Byte) (s : State) :
    Host.Outcome State Fault Refusal :=
  s.act when fun s => s.commandHeard slot target 7 arg check

/-- UNLISTED_COMMAND at its EOD: a code TABLE 12-4 does not list earns REFUSED (R101, R213). -/
def execUnlistedCommand (when : Nat) (slot : HeaderSlot) (target code arg check : Byte) (s : State) :
    Host.Outcome State Fault Refusal :=
  s.act when fun s => if listedCode code then s else s.commandHeard slot target code arg check

/-! ## Commands carried out (R209 to R212) -/

/-- RETIRE TRUNK carried out against the records as they stand (TABLE 11-6). -/
def State.retireTrunk (s : State) (t : Trunk) : State :=
  if s.retiredBySelf t then s
  else if (s.entry t).isOwn then
    match s.session t with
    | some ses => s.setSession t (some { ses with retireAtRelease := true })
    | none => s
  else (s.retireSelf t .maintenance).settle

/-- RESTORE TRUNK carried out against the records as they stand (TABLE 11-6). -/
def State.restoreTrunk (s : State) (t : Trunk) : State :=
  if s.retiredBySelf t then (s.restoreSelf t).settle
  else
    match s.session t with
    | some ses => s.setSession t (some { ses with retireAtRelease := false })
    | none => s

/-- The ten counters of a line cleared (R211). -/
def State.clearLineCounts (s : State) (l : Line) : State :=
  ((s.setScan l { s.scanLine l with glitches := 0 }).setDec l (s.decoder l).cleared).setCall l
    { s.call l with overflows := 0, lockouts := 0 }

/-- Every line, link and view counter cleared (R211). -/
def State.clearAllCounts (s : State) : State :=
  let s := (List.finRange 8).foldl State.clearLineCounts s
  let s := s.setLink { s.link with rxErrors := 0, txErrors := 0, arbLosses := 0, failures := 0 }
  s.setView { s.view with staleReleases := 0, dualHolds := 0, probeReports := 0 }

/-- A command acknowledged other than REFUSED is carried out (R101, R209 to R212). -/
def State.carryOut (s : State) (code arg : Byte) : State :=
  match code.toNat, octal arg with
  | 1, some l => s.blockLine l
  | 2, some l => s.unblockLine l
  | 3, some t => s.retireTrunk t
  | 4, some t => s.restoreTrunk t
  | 5, some l => s.setDec l (s.decoder l).resetProfile
  | 6, some l => s.clearLineCounts l
  | 6, none => s.clearAllCounts
  | 7, _ => s.setCtl { s.ctl with restartDue := true }
  | _, _ => s

/-- The reply this station drives reaches its own EOD now, with no error in what the receiver has read of it (R83): its
bytes read, where its edges were given; where they were not, its cells are those of the cell timer (R69, log entry 9). -/
def Link.replySentNow (k : Link) (r : Reply) (now : Nat) : Bool :=
  k.rx = .reply && k.quiet eodCells now && k.bits = [] &&
    (k.replyBuf = r.bytes ||
      (k.replyBuf = [] && r.start + (8 * r.bytes.length + eodCells) * cell ≤ now))

/-- The reply this station drove was sent: the error run is 0, the receiver in AFTER REPLY, and a command not REFUSED is
carried out (R83, R101). -/
def State.replyWasSent (s : State) (r : Reply) : State :=
  let s := s.setLink { s.link.recessive (s.ago eodCells) with
    rx := .afterReply, reply := none, replyBuf := r.bytes, bits := [], replyDriven := true, errorRun := 0 }
  match r.kind with
  | .command code arg ack => if ack = .refused then s else s.carryOut code arg
  | _ => s

/-- REPLY_SENT: the reply this station drives reaches its reply EOD without error (R83, R101). -/
def execReplySent (when : Nat) (s : State) : Host.Outcome State Fault Refusal :=
  s.act when fun s =>
    match s.link.reply with
    | none => s
    | some r => if s.link.replySentNow r s.now then s.replyWasSent r else s

end Sys2Proof.Machine
end

