-- ==== Sys2Proof/Machine/Pool.lean ====
section
/-! DEFINITION. The meanings of the pool view's, the Hunt Unit's and the isolation's timed rows (Sections 6, 7, 10). -/

namespace Sys2Proof.Machine

open Sys2Proof

/-- ABSENCE (R111): a present peer was not refreshed for 6.5 s. -/
def execAbsence (when : Nat) (p : Slot) (s : State) : Host.Outcome State Fault Refusal :=
  s.act when fun s =>
    if p ≠ s.slot ∧ due ((s.peer p).heard.map (· + absenceTime)) s.scanTime then (s.makeAbsent p).settle else s

/-- REPORT_INTERVAL (R123): in ACTIVE a REPORT is placed and the interval starts again. -/
def execReportInterval (when : Nat) (s : State) : Host.Outcome State Fault Refusal :=
  s.act when fun s =>
    if s.ctl.station = .active ∧ due s.view.reportInterval s.scanTime then
      (s.place (.report false)).setView { s.view with reportInterval := s.after reportTime }
    else s

/-- RELEASE_GUARD_EXPIRY (R134): the guard of a FREE entry has run out, and the Hunt Unit judges afresh. -/
def execReleaseGuardExpiry (when : Nat) (t : Trunk) (s : State) : Host.Outcome State Fault Refusal :=
  s.act when fun s =>
    if s.ctl.station = .active ∧ s.fitted t ∧ (s.entry t).holding = .free ∧
        (s.entry t).freeSince + releaseGuardTime ≤ s.scanTime then s.settle
    else s

/-- PROBE_REQUEST (R146): a held request is judged once, no claim being pending and the hunt queue empty. -/
def execProbeRequest (when : Nat) (s : State) : Host.Outcome State Fault Refusal :=
  s.act when fun s =>
    match s.hunt.probe with
    | none => s
    | some t =>
      if s.ctl.station = .active ∧ s.hunt.claim = none ∧ s.hunt.queue = [] then
        if s.probeCandidate t then
          (s.place (.claim t none)).setHunt
            { s.hunt with probe := none, claim := some { trunk := t, owner := .probe, stage := .queued } }
        else (s.setHunt { s.hunt with probe := none }).probeNotMade t
      else s

/-- The isolated-probe REPORT is placed and the 2-s timer started (R192). -/
def State.placeIsolatedProbe (s : State) : State :=
  (s.place (.report true)).setIso { s.iso with grace := none, probeTimer := s.after isolatedProbeTime }

/-- GRACE_TIMER (R192). -/
def execGraceTimer (when : Nat) (s : State) : Host.Outcome State Fault Refusal :=
  s.act when fun s =>
    if s.ctl.station = .isolated ∧ due s.iso.grace s.scanTime then s.placeIsolatedProbe else s

/-- ISOLATED_PROBE_TIMER (R192). -/
def execIsolatedProbeTimer (when : Nat) (s : State) : Host.Outcome State Fault Refusal :=
  s.act when fun s =>
    if s.ctl.station = .isolated ∧ due s.iso.probeTimer s.scanTime then s.placeIsolatedProbe else s

/-- HOME_TRUNK_MARK (R148): 7 s after the entry to ISOLATED the home-trunk conditions are judged. -/
def execHomeTrunkMark (when : Nat) (s : State) : Host.Outcome State Fault Refusal :=
  s.act when fun s =>
    if s.ctl.station = .isolated ∧ due (s.iso.entryTime.map (· + homeWaitTime)) s.scanTime then s.settle else s

/-- BUSY_QUIET_MARK (R148): the home trunk's busy input has been idle for 1 s, and the conditions are judged again. -/
def execBusyQuietMark (when : Nat) (s : State) : Host.Outcome State Fault Refusal :=
  s.act when fun s =>
    if s.ctl.station = .isolated ∧ due (s.hunt.idleSince.map (· + busyQuietTime)) s.scanTime then s.settle else s

/-- REJOIN_TIMER (R196): the station enters ACTIVE. -/
def execRejoinTimer (when : Nat) (s : State) : Host.Outcome State Fault Refusal :=
  s.act when fun s =>
    if s.ctl.station = .rejoin ∧ due s.iso.rejoinTimer s.scanTime then s.enterActive else s

end Sys2Proof.Machine
end

