-- ==== Sys2Proof/Machine/Startup.lean ====
section
/-! DEFINITION. The meanings of the reset and start-up rows (Section 11). -/

namespace Sys2Proof.Machine

open Sys2Proof

/-- RESET_BEGIN (R207): obeyed in every state. -/
def execResetBegin (s : State) : Host.Outcome State Fault Refusal := .next s.beginReset

/-- RESET_END (R200, R201, R207). -/
def execResetEnd (pins : BitVec 15) (s : State) : Host.Outcome State Fault Refusal := .next (s.endReset pins)

/-- A test frame's outcome is the one TABLE 11-2 expects. -/
def testPasses (frame : Nat) (outcome : TestOutcome) : Bool :=
  match outcome with
  | .handed bytes => (frame = 1 || frame = 2) && bytes = testBytes frame
  | .checkFailure => frame = 3
  | .signalError => false

/-- A looped frame that takes no reply is handed at EOD, and the receiver enters AFTER DATA (R74, R88). -/
def Link.loopedEod (k : Link) (bytes : List Byte) (now : Nat) : Link :=
  { k.recessive (now - eodCells * cell) with
    rx := .afterData, mayReply := false, frameBuf := bytes, replyBuf := [], bits := [] }

/-- Cells from a frame's start mark to its EOD (R202): 6 and 8 for each byte. -/
def eodAfterStart (bytes : Nat) : Nat := 6 + 8 * bytes

/-- The test frame in hand, begun at `start`, can have this outcome now (R88, R202): an error at any moment, any other at
the EOD of the bytes that were looped, when 2 cells of recessive time have passed. A frame handed has had the time for
its own bytes, a frame refused for one byte at least; where the edges were given, the bytes are those the receiver has
read (R71, R74, R81). -/
def State.loopReads (s : State) (start : Nat) (outcome : TestOutcome) : Bool :=
  let k := s.link
  match outcome with
  | .signalError => true
  | .handed bytes => k.runsTo bytes start eodCells s.now
  | .checkFailure =>
    k.quiet eodCells s.now &&
      match k.rx with
      | .startMark => start + eodAfterStart 1 * cell ≤ s.now
      | .data => k.bits = [] && !checkGood k.frameBuf
      | _ => false

/-- The EOD of the looped frame is that of the whole test frame, by the bytes the receiver has read, or by the time for
them. A frame that ends before it has cells missing, an echo error or a framing error of its own (R79, R202; log entry
9). -/
def State.loopedWhole (s : State) (start : Nat) : Bool :=
  let n := (testBytes s.ctl.testFrame).length
  if s.link.rx = .data then s.link.frameBuf.length = n else start + eodAfterStart n * cell ≤ s.now

/-- The test frame in hand, begun at `start`, has had this outcome (R202, TABLE 11-2). -/
def State.testEnds (s : State) (start : Nat) (outcome : TestOutcome) : State :=
  if testPasses s.ctl.testFrame outcome ∧ s.loopedWhole start then
    if s.ctl.testFrame = 3 then s.enterListen
    else
      (s.setCtl { s.ctl with testFrame := s.ctl.testFrame + 1, testStart := none }).setLink
        (s.link.loopedEod (testBytes s.ctl.testFrame) s.now)
  else s.halt .testFault

/-- TEST_FRAME_OUTCOME (R202): a pass hands over the next test frame, or enters LISTEN after frame 3; a failure is TEST
FAULT. -/
def execTestFrameOutcome (when : Nat) (outcome : TestOutcome) (s : State) : Host.Outcome State Fault Refusal :=
  s.act when fun s =>
    match s.ctl.testStart with
    | some start => if s.ctl.station = .selfTest ∧ s.loopReads start outcome then s.testEnds start outcome else s
    | none => s

/-- TEST_FRAME_TIMEOUT (R202): no outcome 8 cells after the EOD was due. -/
def execTestFrameTimeout (when : Nat) (s : State) : Host.Outcome State Fault Refusal :=
  s.act when fun s =>
    match s.ctl.testStart with
    | some start =>
      if s.ctl.station = .selfTest ∧
          start + (eodAfterStart (testBytes s.ctl.testFrame).length + 8) * cell ≤ s.now then
        s.halt .testFault
      else s
    | none => s

/-- LISTEN_TIMER (R204): the listen timer expires in LISTEN, and the station enters ACTIVE. -/
def execListenTimer (when : Nat) (s : State) : Host.Outcome State Fault Refusal :=
  s.act when fun s =>
    if s.ctl.station = .listen ∧ due s.ctl.listenTimer s.scanTime then s.enterActive else s

end Sys2Proof.Machine
end

