-- ==== Sys2Proof/Machine/Trunks.lean ====
section
/-! DEFINITION. The meanings of the trunk rows (Section 8). -/

namespace Sys2Proof.Machine

open Sys2Proof

/-! ## Input samples (R151, R170) -/

/-- A run after a sample: begun or extended by an asserted one, ended by another (R151). -/
def nextRun (run : Option Nat) (asserted : Bool) (time : Nat) : Option Nat :=
  if asserted then some (run.getD time) else none

/-- The busy input of a fitted trunk changed, or showed its first value: the home trunk's idle-since follows it (R148,
R149). -/
def State.trackHome (s : State) (t : Trunk) (busy : Bool) : State :=
  if t = s.slot then s.setHunt { s.hunt with idleSince := if busy then none else some s.scanTime } else s

/-- A change of a busy input is reported: to the view, which clears busy-mismatch at a change to idle (R126), and to the
Hunt Unit (R134, R148, R151). -/
def State.busyChanged (s : State) (t : Trunk) (busy : Bool) : State :=
  let s := s.trackHome t busy
  let s := if busy then s else s.setEntry t { s.entry t with busyMismatch := false }
  s.settle

/-- TRUNK_INPUT_SAMPLE (R151): once each millisecond; the first sample's busy value is taken with no change reported
(R170). -/
def execTrunkInputSample (when : Nat) (t : Trunk) (pts clr busy : Bool) (s : State) :
    Host.Outcome State Fault Refusal :=
  s.act when fun s =>
    let x := s.input t
    if s.fitted t ∧ x.lastSample < s.scanTime then
      let s' := s.setInput t
        { busy, ptsRun := nextRun x.ptsRun pts s.scanTime, clrRun := nextRun x.clrRun clr s.scanTime,
          lastSample := s.scanTime }
      if x.lastSample = 0 then s'.trackHome t busy
      else if busy = x.busy then s'
      else s'.busyChanged t busy
    else s

/-! ## Session events (TABLE 8-6) -/

/-- A proceed-to-send failure of trunk `t` (R156): released with cause PTS-fail, the own failure count raised, a
retirement that waited made, and the call judged by its own failure count. -/
def State.seizureFails (s : State) (t : Trunk) (l : Line) : State :=
  let waits := s.retireWaits t
  let s := (s.releaseTrunk t .ptsFail).countFailure t
  let s := if waits then s.retireSelf t .maintenance else s
  (s.callFailed l).settle

/-- A probe that is not answered (R166): released with cause PTS-fail, and the interval started again. -/
def State.probeFails (s : State) (t : Trunk) : State := ((s.endSession t .ptsFail).probeAgain t).settle

/-- The trunk of a call in WAIT PTS answers (R155): ESTABLISHED, own failures 0, the call in DIALLING. -/
def State.establish (s : State) (t : Trunk) (ses : Session) (l : Line) : State :=
  let s := s.setSession t (some { ses with state := .established, answer := none })
  let s := s.setEntry t { s.entry t with failures := 0 }
  let s := if (s.call l).state = .seizing then s.setCall l { s.call l with state := .dialling } else s
  s.settleSenders

/-- A probed trunk answers (R166): released with cause probe-done, and restored if it is still retired by this station. -/
def State.probeAnswered (s : State) (t : Trunk) : State :=
  let retired := s.retiredBySelf t
  let s := s.endSession t .probeDone
  (if retired then s.restoreSelf t else s).settle

/-- PROCEED_TO_SEND (R155, R166): a run reaches 20 ms in WAIT PTS or PROBE WAIT; otherwise the input is ignored. -/
def execProceedToSend (when : Nat) (t : Trunk) (s : State) : Host.Outcome State Fault Refusal :=
  s.act when fun s =>
    match s.session t with
    | none => s
    | some ses =>
      if runReached (s.input t).ptsRun ses.opened (s.input t).lastSample then
        match ses.state, ses.purpose with
        | .waitPts, .line l => s.establish t ses l
        | .probeWait, _ => s.probeAnswered t
        | _, _ => s
      else s

/-- SWITCH_CLEAR (R156, R158, R166): a run reaches 20 ms. -/
def execSwitchClear (when : Nat) (t : Trunk) (s : State) : Host.Outcome State Fault Refusal :=
  s.act when fun s =>
    match s.session t with
    | none => s
    | some ses =>
      if runReached (s.input t).clrRun ses.opened (s.input t).lastSample then
        match ses.state, ses.purpose with
        | .waitPts, .line l => s.seizureFails t l
        | .established, .line l => ((s.endSession t .switchClear).lockout l).settle
        | .recallBreak, .line l => ((s.endSession t .switchClear).lockout l).settle
        | .probeWait, _ => s.probeFails t
        | _, _ => s
      else s

/-- PTS_TIMER (R156): the answer timer expires in WAIT PTS. -/
def execPtsTimer (when : Nat) (t : Trunk) (s : State) : Host.Outcome State Fault Refusal :=
  s.act when fun s =>
    match s.session t with
    | none => s
    | some ses =>
      match ses.state, ses.purpose with
      | .waitPts, .line l => if due ses.answer s.scanTime then s.seizureFails t l else s
      | _, _ => s

/-- PROBE_TIMER (R166): the answer timer expires in PROBE WAIT. -/
def execProbeTimer (when : Nat) (t : Trunk) (s : State) : Host.Outcome State Fault Refusal :=
  s.act when fun s =>
    match s.session t with
    | none => s
    | some ses => if ses.state = .probeWait ∧ due ses.answer s.scanTime then s.probeFails t else s

/-- The break is over for the sender that waits on trunk `t` (R159, R180). -/
def State.breakOver (s : State) (t : Trunk) : State :=
  match (List.finRange 2).find? fun i => (s.sender i).trunk = some t ∧ (s.sender i).state = .recallWait with
  | some i => s.keepSilence i
  | none => s

/-- BREAK_TIMER (R159): seize is asserted again, the session is ESTABLISHED and the sender told. -/
def execBreakTimer (when : Nat) (t : Trunk) (s : State) : Host.Outcome State Fault Refusal :=
  s.act when fun s =>
    match s.session t with
    | none => s
    | some ses =>
      if ses.state = .recallBreak ∧ due ses.breakTimer s.scanTime then
        let s := (s.setSession t (some { ses with state := .established, breakTimer := none })).setSeize t true
        (s.breakOver t).settleSenders
      else s

/-- A probe is asked for or under way: a request held, a PROBE claim pending, or a probe session open (R164). -/
def State.probing (s : State) : Bool :=
  s.hunt.probe.isSome || (s.hunt.claim.map Claim.owner) = some .probe ||
    (List.finRange 8).any fun t => (s.session t).map Session.purpose = some .probe

/-- PROBE_INTERVAL (R164): a probe is asked of the Hunt Unit, or the interval starts again: while another probe is asked
for, and in any state but ACTIVE, where the request is reported not made at once (R146). -/
def execProbeInterval (when : Nat) (t : Trunk) (s : State) : Host.Outcome State Fault Refusal :=
  s.act when fun s =>
    if due (s.sup.probeIntervals[t]) s.scanTime ∧ s.retiredBySelf t then
      if s.probing ∨ s.ctl.station ≠ .active then s.setProbeInterval t (s.after probeTime)
      else (s.setProbeInterval t none).setHunt { s.hunt with probe := some t }
    else s

/-- The level of the port's data output: the last state it sent, or the state of the tick in progress (R168, R215). -/
def State.portDataNow (s : State) : Bool :=
  match s.sup.shift with
  | none => s.sup.portData
  | some sh => sh.copy.toList.getD ((s.now - sh.start) / cell) (sh.copy[63])

/-- The tick of the shift in progress, 1..65 (R168, R215). -/
def State.portTick (s : State) : Option Nat := s.sup.shift.map fun sh => (s.now - sh.start) / cell + 1

/-- The second half of a tick of the shift in progress, in which the port's pulse stands. The spec gives a pulse no
width: its rising edge in the middle of its tick and its end at the tick's are DESIGN CHOICE, log entry 10. -/
def State.portPulse (s : State) : Bool := s.sup.shift.elim false fun sh => 4 ≤ (s.now - sh.start) % cell

/-- A clock pulse marks each of the ticks 1..64 of a shift, its rising edge behind the change of the data output; the
output rests low between shifts (R168, R215). -/
def State.portClocks (s : State) : Bool := s.portPulse && s.portTick.elim false fun k => k ≤ 64

/-- The latch pulse comes in tick 65 (R168, R215). -/
def State.portLatches (s : State) : Bool := s.portPulse && s.portTick.elim false fun k => k = 65

/-- CROSSPOINT_SHIFT_END (R168): the latch, 65 ticks after the shift began; a further shift begins if a state changed
meanwhile. The shift that a halt calls for runs in the halt state too (R171). While a reset lasts no shift ends: the one
in progress stands at its tick, and the reset's end drops it for the shift of its own (DESIGN CHOICE, log entry 23). -/
def execCrosspointShiftEnd (when : Nat) (s : State) : Host.Outcome State Fault Refusal :=
  if s.inReset then .next s
  else
    let s' := s.advance when
    match s.sup.shift with
    | none => .next s
    | some sh =>
      if sh.start + shiftTicks * cell ≤ s'.now then
        .next (s'.setSup { s'.sup with
          portData := sh.copy[63], latched := some sh.copy,
          shift := if sh.again then some { start := s'.now, copy := s'.sup.points, again := false } else none })
      else .next s

end Sys2Proof.Machine
end

