-- ==== Sys2Proof/Machine/Dispatch.lean ====
section
/-! DEFINITION. The effect of each command: one arm for each row of spec/opcode_table.json, in the table's order. -/

namespace Sys2Proof.Machine

open Sys2Proof

def exec (i : Instr) (s : State) : Host.Outcome State Fault Refusal :=
  match i with
  | .resetBegin => Sys2Proof.Machine.execResetBegin s
  | .resetEnd pins => Sys2Proof.Machine.execResetEnd pins s
  | .testFrameOutcome when outcome => Sys2Proof.Machine.execTestFrameOutcome when outcome s
  | .testFrameTimeout when => Sys2Proof.Machine.execTestFrameTimeout when s
  | .listenTimer when => Sys2Proof.Machine.execListenTimer when s
  | .loopSample when line present => Sys2Proof.Machine.execLoopSample when line present s
  | .offHook when line => Sys2Proof.Machine.execOffHook when line s
  | .clear when line => Sys2Proof.Machine.execClear when line s
  | .digitComplete when line => Sys2Proof.Machine.execDigitComplete when line s
  | .firstEntryTimer when line => Sys2Proof.Machine.execFirstEntryTimer when line s
  | .endOfDiallingTimer when line => Sys2Proof.Machine.execEndOfDiallingTimer when line s
  | .huntTimer when line => Sys2Proof.Machine.execHuntTimer when line s
  | .frameStart when joining => Sys2Proof.Machine.execFrameStart when joining s
  | .arbitrationLost when cell => Sys2Proof.Machine.execArbitrationLost when cell s
  | .transmitError when fault => Sys2Proof.Machine.execTransmitError when fault s
  | .frameSent when => Sys2Proof.Machine.execFrameSent when s
  | .replySent when => Sys2Proof.Machine.execReplySent when s
  | .receiveError when fault => Sys2Proof.Machine.execReceiveError when fault s
  | .stuckDominantAbort when => Sys2Proof.Machine.execStuckDominantAbort when s
  | .linkFailure when => Sys2Proof.Machine.execLinkFailure when s
  | .linkRecovery when => Sys2Proof.Machine.execLinkRecovery when s
  | .release when slot trunk cause check => Sys2Proof.Machine.execRelease when slot trunk cause check s
  | .objection when slot trunk line check => Sys2Proof.Machine.execObjection when slot trunk line check s
  | .claim when slot trunk line check reply => Sys2Proof.Machine.execClaim when slot trunk line check reply s
  | .retire when slot trunk cause check => Sys2Proof.Machine.execRetire when slot trunk cause check s
  | .restore when slot trunk check => Sys2Proof.Machine.execRestore when slot trunk check s
  | .report when slot count held retired flags check => Sys2Proof.Machine.execReport when slot count held retired flags check s
  | .statusRequest when slot target page check => Sys2Proof.Machine.execStatusRequest when slot target page check s
  | .blockLine when slot target arg check => Sys2Proof.Machine.execBlockLine when slot target arg check s
  | .unblockLine when slot target arg check => Sys2Proof.Machine.execUnblockLine when slot target arg check s
  | .retireTrunk when slot target arg check => Sys2Proof.Machine.execRetireTrunk when slot target arg check s
  | .restoreTrunk when slot target arg check => Sys2Proof.Machine.execRestoreTrunk when slot target arg check s
  | .resetProfile when slot target arg check => Sys2Proof.Machine.execResetProfile when slot target arg check s
  | .clearCounts when slot target arg check => Sys2Proof.Machine.execClearCounts when slot target arg check s
  | .restart when slot target arg check => Sys2Proof.Machine.execRestart when slot target arg check s
  | .frameEof when => Sys2Proof.Machine.execFrameEof when s
  | .absence when slot => Sys2Proof.Machine.execAbsence when slot s
  | .reportInterval when => Sys2Proof.Machine.execReportInterval when s
  | .releaseGuardExpiry when trunk => Sys2Proof.Machine.execReleaseGuardExpiry when trunk s
  | .probeRequest when => Sys2Proof.Machine.execProbeRequest when s
  | .graceTimer when => Sys2Proof.Machine.execGraceTimer when s
  | .isolatedProbeTimer when => Sys2Proof.Machine.execIsolatedProbeTimer when s
  | .homeTrunkMark when => Sys2Proof.Machine.execHomeTrunkMark when s
  | .busyQuietMark when => Sys2Proof.Machine.execBusyQuietMark when s
  | .rejoinTimer when => Sys2Proof.Machine.execRejoinTimer when s
  | .trunkInputSample when trunk pts clr busy => Sys2Proof.Machine.execTrunkInputSample when trunk pts clr busy s
  | .proceedToSend when trunk => Sys2Proof.Machine.execProceedToSend when trunk s
  | .switchClear when trunk => Sys2Proof.Machine.execSwitchClear when trunk s
  | .ptsTimer when trunk => Sys2Proof.Machine.execPtsTimer when trunk s
  | .probeTimer when trunk => Sys2Proof.Machine.execProbeTimer when trunk s
  | .breakTimer when trunk => Sys2Proof.Machine.execBreakTimer when trunk s
  | .probeInterval when trunk => Sys2Proof.Machine.execProbeInterval when trunk s
  | .crosspointShiftEnd when => Sys2Proof.Machine.execCrosspointShiftEnd when s
  | .toneSample when sender => Sys2Proof.Machine.execToneSample when sender s
  | .burstEnd when sender => Sys2Proof.Machine.execBurstEnd when sender s
  | .gapEnd when sender => Sys2Proof.Machine.execGapEnd when sender s
  | .recallSilenceEnd when sender => Sys2Proof.Machine.execRecallSilenceEnd when sender s
  | .receiverIdle when => Sys2Proof.Machine.execReceiverIdle when s
  | .unlistedCommand when slot target code arg check => Sys2Proof.Machine.execUnlistedCommand when slot target code arg check s

end Sys2Proof.Machine
end

