-- ==== Sys2Proof/Machine/Receiver.lean ====
section
/-! DEFINITION. The receiver reads the wire (R68 to R77): one sample after another, it finds the edges, keeps the cell
timer and the recessive time, assembles cells into bytes, and passes through the states of TABLE 4-3 up to the marks
that have a row of the table (EOD, EOF, IDLE). The samples wait in State, as the commands do: log entry 20. -/

namespace Sys2Proof.Machine

open Sys2Proof

/-! ## Edges -/

/-- A falling edge at `now`: it restarts the cell timer, and begins the transmitter's next cell if it comes 7/8 cell or
more after the last one (R69). -/
def Link.fell (k : Link) (now : Nat) : Link :=
  { k with
    dominant := true, edgeAt := now, fallAt := now
    fallCell := k.fallCell + (now - k.fallAt + 1) / cell }

/-- A rising edge at `now`: the wire's recessive time runs from it, or, in a data or reply cell, from the end of that
cell (R72). R72 does not say which cell is the last of a frame that an error ends. Here it is the cell in which the
receiver finds the error, if it finds it at this edge; a cell passed over in WAIT EOF, where no cell is read, counts by
its rising edge alone (DESIGN CHOICE, log entry 24). -/
def Link.rose (k : Link) (now : Nat) : Link :=
  let since := if k.rx = .data ∨ k.rx = .reply then max now (k.fallAt + cell) else now
  { k with dominant := false, edgeAt := now, recessiveFrom := max k.recessiveFrom since }

/-- A cell read into `buffer`: its bit joins the byte in hand, and the eighth completes it (R74). -/
def gather (buffer : List Byte) (bits : List Bool) (bit : Bool) : List Byte × List Bool :=
  if bits.length = 7 then (buffer ++ [byteOfBits (bits ++ [bit])], []) else (buffer, bits ++ [bit])

/-- The receiver reads a cell of the frame or the reply in hand (R70, R74, R76). -/
def Link.readBit (k : Link) (bit : Bool) : Link :=
  match k.rx with
  | .data => { k with frameBuf := (gather k.frameBuf k.bits bit).1, bits := (gather k.frameBuf k.bits bit).2 }
  | .reply => { k with replyBuf := (gather k.replyBuf k.bits bit).1, bits := (gather k.replyBuf k.bits bit).2 }
  | _ => k

/-- The recessive time has reached 4 cells while nothing is in hand, so the receiver is in IDLE, whether its row has come
or not (R75, R77). -/
def State.idleByNow (s : State) : Bool :=
  match s.link.rx with
  | .idle => true
  | .waitEof | .afterData => !s.link.mayReply && !s.sending && s.link.recessiveFrom + eofCells * cell ≤ s.now
  | _ => false

/-- A falling edge in a run of cells: their spacing is judged (R71), and the number of the byte that the cell belongs to
(R74). An edge 3 cells or more after the last one is past the run's EOD. -/
def State.nextCell (s : State) (buffer : List Byte) (k : Link) : State :=
  let d := s.now - s.link.fallAt
  if 3 * cell ≤ d then s.setLink k else s.judgeWire [.edgeSpacing d, .byteBegun (buffer.length + 1)] k

/-- A falling edge is read as the receiver's state says (TABLE 4-3). An edge that finds the receiver past a mark whose row
has not come only restarts the timers: the row is owed (log entry 7). -/
def State.wireFalls (s : State) : State :=
  let k := s.link
  let e := k.fell s.now
  let tail := s.now - k.recessiveFrom
  if s.idleByNow then s.setLink { k.beginFrame none s.now with dominant := true }
  else
    match k.rx with
    | .startMark => s.setLink { k.beginFrame k.own s.now with dominant := true }
    | .gap => s.judgeWire [.gapEdge (s.now - k.edgeAt)] { e with rx := .data }
    | .data => s.nextCell k.frameBuf e
    | .afterData =>
      if k.mayReply ∧ eodCells * cell ≤ tail ∧ tail ≤ 3 * cell then s.setLink { e with rx := .reply }
      else s.judgeWire [.strayEdge tail] e
    | .reply => if k.replyUnread then s.setLink e else s.nextCell k.replyBuf e
    | .afterReply => s.judgeWire [.strayEdge tail] e
    | .waitEof | .idle => s.setLink e

/-- A rising edge ends the start mark (R73) or a cell (R70); in any other state it only restarts the timers. -/
def State.wireRises (s : State) : State :=
  let k := s.link
  let e := k.rose s.now
  match k.rx with
  | .startMark => s.judgeWire [.startMarkWidth (s.now - k.fallAt)] { e with rx := .gap }
  | .data | .reply =>
    s.judgeWire [.cellWidth (s.now - k.fallAt)] (e.readBit ((readCell (s.now - k.fallAt)).getD false))
  | _ => s.setLink e

/-- The wire is recessive still at `now` (R68). -/
def Link.stillRecessive (k : Link) (now : Nat) : Link := { k with recessiveAt := max k.recessiveAt now }

/-- The wire stands as it was: what has lasted too long is an error at once (R70, R73). -/
def State.wireHolds (s : State) : State :=
  let k := s.link
  let d := s.now - k.fallAt
  match k.dominant, k.rx with
  | true, .startMark => if 4 * cell < d then s.judgeWire [.startMarkWidth d] k else s
  | true, .data | true, .reply => if cell ≤ d then s.judgeWire [.cellWidth d] k else s
  | true, _ => s
  | false, .gap => s.judgeWire [.gapSilent (s.now - k.edgeAt)] (k.stillRecessive s.now)
  | false, _ => s.setLink (k.stillRecessive s.now)

/-- The level that a sample brings to the receiver: on the wire, the sample's; in LOOPBACK the signal is dominant exactly
when the transmitter drives (R68, R88). -/
def State.levelSeen (s : State) (sampled : Bool) : Bool := if s.link.mode = .loopback then s.transmits else sampled

/-- The receiver reads a sample of the wire (R68): a mark of a peer's reply that has been reached comes first, then the
edge, if the level has changed. -/
def State.readWire (s : State) (sampled : Bool) : State :=
  let s := s.replyEod
  match s.link.dominant, s.levelSeen sampled with
  | false, true => s.wireFalls
  | true, false => s.wireRises
  | _, _ => s.wireHolds

end Sys2Proof.Machine
end

