-- ==== Sys2Proof/Machine/Step.lean ====
section
/-! DEFINITION. One step: the command at the front of the queue, or else the next sample of the wire, or an idle block. -/

namespace Sys2Proof.Machine

open Sys2Proof

/-- The next sample of the wire is read, and the rest stays (R68). -/
def stepWire (s : State) : Host.Outcome State Fault Refusal :=
  match s.wire with
  | [] => .next s
  | x :: rest => { s with wire := rest }.act x.when fun s => s.readWire x.dominant

/-- The command at the front of the queue is taken and has its effect with the rest of the queue behind it. On an empty
queue the receiver reads the next sample of the wire, and with none the block idles: DESIGN CHOICE, log entries 11 and
20. -/
def step (s : State) : Host.Outcome State Fault Refusal :=
  match s.pending with
  | [] => stepWire s
  | c :: rest => exec c { s with pending := rest }

/-- The command a word spells is put at the front of the queue; where the word spells none the state is unchanged. -/
def State.withFetchWord (s : State) (nbits w : Nat) : State :=
  match decodeTableWord nbits w with
  | some c => { s with pending := c :: s.pending }
  | none => s

end Sys2Proof.Machine
end

