-- ==== Sys2Proof/Safety.lean ====
section
/-! DEFINITION. What a sound station is: the laws the spec states of every reachable state. -/

namespace Sys2Proof.Machine

open Sys2Proof

/-- "P lies within 60..150 ms at all times" (R16). -/
def State.ProfilesInRange (s : State) : Prop := ∀ l, 60 ≤ (s.decoder l).p ∧ (s.decoder l).p ≤ 150

/-- The bounds of the counts and queues of a line: 24 entries, fewer than 16 of them in COLLECTING (R43, R48), a failure
count of 2 (R42), 15 pulses (R22). -/
def State.QueuesBounded (s : State) : Prop :=
  ∀ l, (s.call l).queue.length ≤ 24 ∧ ((s.call l).state = .collecting → (s.call l).queue.length < 16) ∧
    (s.call l).failures ≤ 2 ∧ (s.decoder l).count ≤ 15

/-- Local dial tone sounds in a decoding state alone, the lockout output in LOCKOUT or BLOCKED alone (R63, R64). -/
def State.TonesApart (s : State) : Prop :=
  ∀ l, (s.ldt[l] = true → (s.call l).state.decoding = true) ∧
    (s.lko[l] = true → (s.call l).state = .lockout ∨ (s.call l).state = .blocked)

/-- The lockout output of a line of a running station is on in LOCKOUT, and in BLOCKED while the line's loop is CLOSED; in
every other state, and in a reset or a halt, it is off (R62, R64). -/
def State.LockoutTonesExact (s : State) : Prop :=
  ∀ l : Line, s.lko[l] = (s.running &&
    ((s.call l).state = .lockout || ((s.call l).state = .blocked && (s.scanLine l).loop = .closed)))

/-- The hunt queue holds a line exactly while its call is HUNTING, and at most once (R131). -/
def State.HuntQueueExact (s : State) : Prop :=
  s.hunt.queue.Nodup ∧ ∀ l, l ∈ s.hunt.queue ↔ (s.call l).state = .hunting

/-- The transmit queue holds at most one frame for each key; the frame in flight is one of them, and a frame waits
beside it only under its key (R72, R103, R104). -/
def TxQueue.Sound (q : TxQueue) : Prop :=
  (q.frames.map fun f => f.frame.key).Nodup ∧
    (∀ f, q.flight = some f → ∃ x ∈ q.frames, x.frame = f.frame) ∧
    (∀ w, q.waiting = some w → ∃ f, q.flight = some f ∧ w.frame.key = f.frame.key)

/-- The CLAIM of a pending claim (R136): for its trunk, with its line, or the line it lapsed from, or no line for a
probe. -/
def Claim.carriedBy (c : Claim) (f : TxFrame) : Prop :=
  ∃ line, f = .claim c.trunk line ∧
    match c.owner with
    | .line l => line = some l
    | .probe => line = none
    | .lapsed => line.isSome = true

/-- The transmit queue holds a CLAIM only for the pending claim, and no CLAIM waits beside another (R104, R136). A QUEUED
claim has its CLAIM in the queue and not in flight; one IN FLIGHT has it in flight, until its outcome sent takes it from
the queue, a moment before the claim is settled at the same EOF (R106, R142; log entry 17), and this station's CLAIM is on
the wire only for such a one (R80). A claim owned by a line is for a HUNTING one (R138), and none is pending in ISOLATED
(R140). A reset in progress has cut a flight short (R207). -/
def State.ClaimExact (s : State) : Prop :=
  (∀ x ∈ s.tx.frames, x.frame.key = .claim → ∃ c, s.hunt.claim = some c ∧ c.carriedBy x.frame) ∧
    (∀ w, s.tx.waiting = some w → w.frame.key ≠ .claim) ∧
    (∀ f, s.tx.flight = some f → f.frame.key = .claim → ∃ c, s.hunt.claim = some c ∧ c.stage = .inFlight) ∧
    (∀ t line, s.link.own = some (encodeFrame (.claim s.slot t line)) →
      ∃ c, s.hunt.claim = some c ∧ c.stage = .inFlight ∧ c.trunk = t) ∧
    (s.ctl.station = .isolated → s.hunt.claim = none) ∧
    (∀ c, s.hunt.claim = some c →
      (∀ l, c.owner = .line l → (s.call l).state = .hunting) ∧
      (c.stage = .queued → ∃ x ∈ s.tx.frames, x.frame.key = .claim) ∧
      (c.stage = .inFlight → s.inReset = false → (∃ x ∈ s.tx.frames, x.frame.key = .claim) →
        ∃ f, s.tx.flight = some f ∧ f.frame.key = .claim))

/-- Before the first entry to ACTIVE or ISOLATED after a reset every call is IDLE (R45) and the hunt queue empty (R132), no
trunk is OWN and no session open (R169), and the station has nothing to send: no frame is queued (R105) and no reply in
hand (R102), no claim pending and no probe asked for (R146). -/
def State.Unserved (s : State) : Prop :=
  (∀ l, (s.call l).state = .idle) ∧ s.hunt.queue = [] ∧ s.hunt.claim = none ∧ s.hunt.probe = none ∧
    (∀ t, (s.entry t).isOwn = false ∧ s.session t = none) ∧ s.tx = TxQueue.flushed ∧ s.link.reply = none

/-- The station is so in STRAP CHECK, SELF TEST and LISTEN. -/
def State.UnservedUntilActive (s : State) : Prop :=
  s.ctl.station = .strapCheck ∨ s.ctl.station = .selfTest ∨ s.ctl.station = .listen → s.Unserved

/-- The queue holds this frame, or it waits beside the one of its key in flight (R104). -/
def TxQueue.Holds (q : TxQueue) (f : TxFrame) : Prop :=
  (∃ x ∈ q.frames, x.frame = f) ∨ ∃ x, q.waiting = some x ∧ x.frame = f

/-- What the release of trunk `u` of station `s` leaves in `t` (R160): no session, seize released, every pair of the trunk
open, no sender on it, a RELEASE with its cause to send, and the entry FREE since now if it was OWN. -/
def State.LetsGo (s t : State) (u : Trunk) (cause : Cause) : Prop :=
  t.session u = none ∧ t.sup.seize[u] = false ∧ (∀ l, t.closed l u = false) ∧ (∀ i, (t.sender i).trunk ≠ some u) ∧
    t.tx.Holds (.release u cause) ∧
    (t.entry u).holding = (if (s.entry u).isOwn then .free else (s.entry u).holding) ∧
    ((s.entry u).isOwn = true → (t.entry u).freeSince = t.scanTime)

/-- After a loss or failure the queue is `frames`: a frame that waited is combined with the queued one of its key, which
was in flight; a RELEASE gives it its cause and leaves its age, any other replaces it (R104, TABLE 5-4). A CLAIM, which
may be withdrawn in the same act (R139), is not spoken of. -/
def TxQueue.Rejoins (q : TxQueue) (frames : List QFrame) : Prop :=
  ∀ x ∈ q.frames, x.frame.key ≠ .claim →
    match q.waiting with
    | none => x ∈ frames
    | some w =>
      if w.frame.key = x.frame.key then
        { frame := w.frame, age := match w.frame with | .release _ _ => x.age | _ => w.age } ∈ frames
      else x ∈ frames

/-- The home trunk that station `s` released is taken again in the same act, at `time`, for a line that waits, or for the
one that has just lost it (R52, R147, R148; log entry 25): the RELEASE is to send all the same. -/
def State.Retakes (s t : State) (cause : Cause) (time : Nat) : Prop :=
  t.tx.Holds (.release s.slot cause) ∧ t.sup.seize[s.slot] = true ∧
    ∃ m ses, (m ∈ s.hunt.queue ∨ ∃ old, s.session s.slot = some old ∧ old.purpose = .line m) ∧
      (t.call m).state = .seizing ∧ (t.call m).trunk = some s.slot ∧
      (t.entry s.slot).holding = .own (some m) ∧ t.session s.slot = some ses ∧ ses.purpose = .line m ∧
      ses.state = .waitPts ∧ ses.opened = time

/-- The receiver follows a frame of these bytes, not this station's own, to its EOD at `now` (R71, R74, R77, R80): the
wire recessive for 2 cells, and the bytes read, in DATA, where its edges were given. Where they were not (log entry 9), the
time for its cells has passed: from IDLE after 4 cells of recessive time, a start mark of 2 1/2, a gap of 7/8 and cells
7/8 apart; from the START MARK of a frame that this station lost, 6 cells and 8 for each byte. -/
def Link.Follows (k : Link) (bytes : List Byte) (now : Nat) : Prop :=
  k.mode = .wire ∧ k.dominant = false ∧ k.recessiveFrom + 2 * 8 ≤ now ∧ k.own = none ∧
    ((k.rx = .idle ∧ k.recessiveFrom + (4 * 8 + 20 + 7) + 7 * (8 * bytes.length) + (1 + 2 * 8) ≤ now) ∨
      (k.rx = .startMark ∧ k.fallAt + (6 + 8 * bytes.length) * 8 ≤ now) ∨
      (k.rx = .data ∧ k.frameBuf = bytes ∧ k.bits = []))

/-- The receiver holds a CLAIM of these bytes at its EOF at `now`, with this reply (R75, R76, R80, R99): the wire
recessive for 4 cells, no byte begun and not ended, no reply of this station in hand, and frame and reply read, where
their edges were given. Where they were not (log entry 9), the time for their cells has passed, to an EOF 4 cells after
the last of them. -/
def Link.Holds (k : Link) (bytes : List Byte) (reply : Option (List Byte)) (now : Nat) : Prop :=
  k.mode = .wire ∧ k.dominant = false ∧ k.recessiveFrom + 4 * 8 ≤ now ∧ (k.own = none ∨ k.own = some bytes) ∧
    k.bits = [] ∧ k.reply = none ∧
    ((k.rx = .idle ∧ k.frameBuf = bytes ∧ (k.replyBuf = [] ∨ reply = some k.replyBuf)) ∨
      (k.rx = .idle ∧ k.frameBuf ≠ bytes ∧ k.own = none ∧
        k.recessiveFrom + (4 * 8 + 20 + 7) + 7 * (8 * bytes.length) + (1 + 2 * 8) +
          (match reply with | none => 2 * 8 | some b => 7 * (8 * b.length) + 1 + 4 * 8) ≤ now) ∨
      (k.rx = .startMark ∧
        k.fallAt + (4 + 8 * bytes.length + match reply with | none => 4 | some b => 6 + 8 * b.length) * 8 ≤ now) ∨
      (k.rx = .data ∧ k.frameBuf = bytes ∧ reply = none) ∨
      (k.rx = .afterData ∧ k.frameBuf = bytes ∧
        k.recessiveFrom + (match reply with | none => 4 | some b => 6 + 8 * b.length) * 8 ≤ now) ∨
      (k.rx = .reply ∧ k.frameBuf = bytes ∧ k.replyBuf = [] ∧
        ∃ b, reply = some b ∧ k.fallAt + (8 * b.length + 4) * 8 ≤ now) ∨
      (k.rx = .reply ∧ k.frameBuf = bytes ∧ k.replyBuf ≠ [] ∧ reply = some k.replyBuf) ∨
      (k.rx = .afterReply ∧ k.frameBuf = bytes ∧ (k.replyBuf = [] ∨ reply = some k.replyBuf)))

/-- At an entry to ACTIVE or ISOLATED from a state in which calls do not start, a call starts on each line that is IDLE,
CLOSED and past its guard mark, and no other IDLE line changes (R8, R44). The order of the lines is left open (log entry
6). -/
def State.Reoffers (s t : State) (time : Nat) : Prop :=
  ∀ l, (s.call l).state = .idle →
    let past := (s.scanLine l).loop = .closed ∧
      ((s.scanLine l).guard = .marked ∨ ∃ x, (s.scanLine l).guard = .running x ∧ x + 60 ≤ time)
    (past → (t.call l).localTone = true ∧ t.ldt[l] = true ∧ (t.call l).queue = [] ∧ (t.call l).trunk = none ∧
      (t.scanLine l).guard = .off ∧ (t.decoder l).interval = some (.make (s.scanLine l).lastEdge) ∧
      (s.ctl.straps.mode = .enBloc →
        (t.call l).state = .collecting ∧ (t.call l).firstTimer = some (time + 20000)) ∧
      (s.ctl.straps.mode = .overlap →
        (t.call l).state = .hunting ∧ (t.call l).huntTimer = some (time + 10000) ∧ l ∈ t.hunt.queue)) ∧
    (¬ past → t.call l = s.call l ∧ t.scanLine l = s.scanLine l ∧ t.decoder l = s.decoder l)

/-- READY and ALARM stand as the station state says, and are off in a reset (R206). -/
def State.OutputsFollow (s : State) : Prop :=
  if s.inReset then s.ctl.ready = false ∧ s.ctl.alarm = false
  else s.ctl.ready = s.ctl.station.ready ∧ s.ctl.alarm = s.ctl.station.alarm

/-- A halted station asserts no seize, closes no crosspoint, plays no tone, lights no line output and drives nothing on
the link (R205). -/
def State.HaltSilent (s : State) : Prop :=
  s.ctl.station.halted = true →
    (∀ t : Trunk, s.sup.seize[t] = false) ∧ (∀ l t, s.closed l t = false) ∧
    (∀ i, (s.sender i).state = .free ∧ (s.sender i).output = 512 ∧ (s.sender i).select = none) ∧
    (∀ l : Line, s.ldt[l] = false ∧ s.lko[l] = false) ∧
    s.tx = TxQueue.flushed ∧ s.link.reply = none ∧ (s.inReset = false → s.link.mode = .off)

/-- A session whose seize is asserted: any but one in RECALL BREAK (TABLE 8-2). -/
def Session.seizes (x : Session) : Bool := x.state ≠ .recallBreak

/-- Seize outputs, sessions and the pool view agree (R109, R152): seize is asserted exactly in the session states that
assert it, and outside a reset and a halt a session stands exactly on the OWN trunks; a pending claim's trunk has no
session, and no claim is pending in ISOLATED (R140). -/
def State.SeizureExact (s : State) : Prop :=
  (s.inReset = false → ∀ t : Trunk, s.sup.seize[t] = (s.session t).elim false Session.seizes) ∧
    (s.running = true → ∀ t, (s.entry t).isOwn = (s.session t).isSome) ∧
    (∀ c, s.hunt.claim = some c → s.session c.trunk = none) ∧
    (s.ctl.station = .isolated → s.hunt.claim = none)

/-- Sessions and calls agree (R52, R152, R155, R160): a session for a line is its call's, which is SEIZING on the trunk
in WAIT PTS and DIALLING in ESTABLISHED and RECALL BREAK; a probe's is in PROBE WAIT. In a running station a call on a
trunk has that session, and the calls on a trunk are the SEIZING and DIALLING ones. -/
def State.CallsOnTrunks (s : State) : Prop :=
  (∀ t ses, s.session t = some ses →
    match ses.purpose with
    | .probe => ses.state = .probeWait
    | .line l => ses.state ≠ .probeWait ∧ (s.call l).trunk = some t ∧
        (s.call l).state = if ses.state = .waitPts then .seizing else .dialling) ∧
    (s.running = true → ∀ l,
      ((s.call l).trunk.isSome = true ↔ (s.call l).state = .seizing ∨ (s.call l).state = .dialling) ∧
      ∀ t, (s.call l).trunk = some t → ∃ ses, s.session t = some ses ∧ ses.purpose = .line l)

/-- A pair is closed only while its line is DIALLING on its trunk with audio-connected set, so that a line has at most one
closed pair; and a trunk has at most one (R57, R167). -/
def State.PairsExact (s : State) : Prop :=
  (∀ l t, s.closed l t = true →
    (s.call l).state = .dialling ∧ (s.call l).trunk = some t ∧ (s.call l).audio = true) ∧
    ∀ l m t, s.closed l t = true → s.closed m t = true → l = m

/-- A FREE sender has no trunk, no line and no select; any other is attached to a trunk with an established session for
its line, its select asserted unless a reset has released it, and it is in RECALL WAIT exactly while that trunk is in
RECALL BREAK; no trunk has two (R159, R172, R175, R180, R207). -/
def State.SendersExact (s : State) : Prop :=
  (∀ i, if (s.sender i).state = .free then
      (s.sender i).trunk = none ∧ (s.sender i).line = none ∧ (s.sender i).select = none
    else ∃ l t ses, (s.sender i).line = some l ∧ (s.sender i).trunk = some t ∧
      (s.sender i).select = (if s.inReset then none else some t) ∧ s.session t = some ses ∧ ses.purpose = .line l ∧
      ses.state = (if (s.sender i).state = .recallWait then .recallBreak else .established)) ∧
    ∀ i j t, (s.sender i).trunk = some t → (s.sender j).trunk = some t → i = j

/-- The request set holds exactly the lines that want a sender, and none waits while a sender is free (R173, R174). -/
def State.RequestsExact (s : State) : Prop :=
  (∀ l, l ∈ s.arb.requests ↔ s.wantsSender l = true) ∧ (s.arb.requests = [] ∨ ∀ i, (s.sender i).state ≠ .free)

end Sys2Proof.Machine
end

