-- ==== Sys2Proof/Certificates/Slice0/Obligations.lean ====
section
/-! DEFINITION. The statements about the station, in the order of the spec's chapters.

A command's moment is `max s.now w`, in eighths of a cell, and its scan time that divided by 64 (log entries 2 and 8); a
statement supposes that the event's own condition holds at that moment (log entry 7). `s.advance w` is the state at that
moment and nothing else. -/

open Sys2Proof Sys2Proof.Machine

/-! ## The queue of commands, halts and resets -/

/-- Tier 1. A step takes the command at the front of the queue and runs it with the rest of the queue behind it. On
an empty queue a running station reads the next sample of the wire, at its moment, and one that does not run drops
it; with no sample left the block idles. Both queues are the model's own (log entries 11, 19 and 20). -/
def Obligations.StepRunsTheFrontCommand : Prop :=
  ∀ s : State,
    (∀ c rest, s.pending = c :: rest → step s = exec c { s with pending := rest }) ∧
    (∀ x rest, s.pending = [] → s.wire = x :: rest → step s = .next
      (if s.running then ({ s with wire := rest }.advance x.when).readWire x.dominant else { s with wire := rest })) ∧
    (s.pending = [] → s.wire = [] → step s = .next s)

/-- Tier 2. Every command answers a next state and leaves the commands and the samples of the wire that wait as
they stand: no fault, no refusal (the model's queues, log entries 11, 19 and 20). -/
def Obligations.EveryCommandAnswersAndKeepsTheQueue : Prop :=
  ∀ (c : Instr) (s : State), ∃ t, exec c s = .next t ∧ t.pending = s.pending ∧ t.wire = s.wire

/-- Tier 2. R205, R207: in a halt state, and while a reset lasts, every command but the two of a reset and the end
of a crosspoint shift (R171) changes nothing. That in a reset the end of a shift changes nothing either is the
model's (log entry 23). -/
def Obligations.HaltedStationIsLeftByResetAlone : Prop :=
  ∀ (c : Instr) (s : State), s.inReset = true ∨ s.ctl.station.halted = true →
    c ≠ .resetBegin → (∀ pins, c ≠ .resetEnd pins) →
    (∀ w, c = .crosspointShiftEnd w → s.inReset = true) → exec c s = .next s

/-- Tier 1. R207: from the moment a reset begins the link pin, every seize and select are released, sender outputs
are 512, and line outputs, READY and ALARM are off. That the rest, the crosspoint port's shift and levels among it,
stands until the reset ends, but for the frame or reply in flight, is the model's (log entry 23). -/
def Obligations.ResetBeginReleasesEveryOutput : Prop :=
  ∀ s : State, ∃ t, exec .resetBegin s = .next t ∧ t.inReset = true ∧ t.linkPin = false ∧
    (∀ u : Trunk, t.sup.seize[u] = false) ∧
    (∀ i, t.sender i = { s.sender i with output := 512, select := none }) ∧
    (∀ l : Line, t.ldt[l] = false ∧ t.lko[l] = false) ∧ t.ctl.ready = false ∧ t.ctl.alarm = false ∧
    t.ctl = { s.ctl with ready := false, alarm := false } ∧ t.now = s.now ∧ t.iso = s.iso ∧
    t.scan = s.scan ∧ t.dec = s.dec ∧ t.calls = s.calls ∧ t.view = s.view ∧ t.hunt = s.hunt ∧ t.arb = s.arb ∧
    t.sup = { s.sup with seize := t.sup.seize } ∧ t.link = { s.link with own := none, reply := none } ∧
    t.tx = { s.tx with flight := none, waiting := none } ∧ t.freeIndex = s.freeIndex ∧ t.wire = s.wire ∧
    t.pending = s.pending

/-- Tier 2. R200, R201, R215: at the end of a reset the six straps are read from the fifteen pins, TRUNKS giving N
one higher; a SHELF of 10..15 is STRAP FAULT at once, with ALARM on and the link OFF, any other leads to SELF TEST
with the link in LOOPBACK and both outputs off. R14, R40, R66, R90, R107, R129, R149, R170, R186, R188: what it
leaves in every block, whatever stood before (the order of the pins in the command is that of the lead list, TABLE
12-7; log entry 1). -/
def Obligations.ResetEndReadsTheStrapsAndClearsEveryBlock : Prop :=
  (∀ (s : State) (pins : BitVec 15), ∃ t, exec (.resetEnd pins) s = .next t ∧
     t.ctl.straps.slot.val = pins.toNat % 8 ∧ t.ctl.straps.shelf.val = pins.toNat / 8 % 16 ∧
     t.n = pins.toNat / 128 % 8 + 1 ∧
     t.ctl.straps.mode = (if pins.toNat / 1024 % 2 = 1 then .enBloc else .overlap) ∧
     t.ctl.straps.threshold = pins.toNat / 2048 % 4 + 1 ∧ t.ctl.straps.profile.val = pins.toNat / 8192 ∧
     (if 10 ≤ pins.toNat / 8 % 16 then
       t.ctl.station = .strapFault ∧ t.ctl.alarm = true ∧ t.link.mode = .off
     else t.ctl.station = .selfTest ∧ t.ctl.alarm = false ∧ t.link.mode = .loopback) ∧
     t.ctl.ready = false ∧ t.now = 0 ∧ t.inReset = false ∧
     t.pending = s.pending ∧ t.wire = s.wire) ∧
  (∀ (s : State) (pins : BitVec 15), ∃ t, exec (.resetEnd pins) s = .next t ∧
     (∀ l, t.scanLine l =
       { integ := 0, loop := .opened, lastEdge := 0, guard := .off, glitches := 0, lastSample := 0 }) ∧
     (∀ l, (t.decoder l).p = 100 ∧ (t.decoder l).lastM = none ∧ (t.decoder l).lastR = none ∧
       (t.decoder l).count = 0 ∧ (t.decoder l).pulses = [] ∧ (t.decoder l).interval = none ∧
       (t.decoder l).digits = 0 ∧ (t.decoder l).noise = 0 ∧ (t.decoder l).mutilated = 0) ∧
     (∀ l, (t.call l).state = .idle ∧ (t.call l).queue = [] ∧ (t.call l).trunk = none ∧
       (t.call l).pendingBlock = false ∧ (t.call l).failures = 0 ∧ (t.call l).overflows = 0 ∧
       (t.call l).lockouts = 0) ∧
     (∀ l : Line, t.ldt[l] = false ∧ t.lko[l] = false) ∧
     t.link.health = .good ∧ t.link.errorRun = 0 ∧ t.link.rx = .waitEof ∧ t.link.rxErrors = 0 ∧
     t.link.txErrors = 0 ∧ t.link.arbLosses = 0 ∧ t.link.failures = 0 ∧ t.linkPin = false ∧
     t.tx.frames = [] ∧ t.tx.flight = none ∧ t.tx.waiting = none ∧
     (∀ u, (t.entry u).holding = .free ∧ (t.entry u).retiredBy = none ∧ (t.entry u).seizures = 0 ∧
       (t.entry u).failures = 0 ∧ (t.entry u).freeSince = 0 ∧ (t.entry u).busyMismatch = false) ∧
     (∀ p, t.peer p = { heard := none, trunkCount := none, mismatch := false }) ∧ t.view.reportInterval = none ∧
     t.view.staleReleases = 0 ∧ t.view.dualHolds = 0 ∧ t.view.probeReports = 0 ∧
     t.hunt = { queue := [], claim := none, probe := none, idleSince := none } ∧
     (∀ u, t.session u = none ∧ (t.input u).busy = false) ∧
     (∀ u : Trunk, t.sup.seize[u] = false ∧ t.sup.probeIntervals[u] = none) ∧ (∀ l u, t.closed l u = false) ∧
     (∃ sh, t.sup.shift = some sh ∧ sh.start = 0 ∧ ∀ i : Fin 64, sh.copy[i] = false) ∧
     (∀ i, (t.sender i).state = .free ∧ (t.sender i).output = 512 ∧ (t.sender i).select = none ∧
       (t.sender i).lowPhase = 0 ∧ (t.sender i).highPhase = 0) ∧
     t.arb = { requests := [], pointer := 7 } ∧
     t.iso = { entryTime := none, grace := none, probeTimer := none, rejoinTimer := none })

/-! ## Self-test and the entries to LISTEN and ACTIVE -/

/-- Tier 2. R88, R202, R203, R205: frame 1 or 2 handed whole at its EOD, 6 cells after its start mark and 8 for
each byte, hands over the next test frame, which may begin 5 cells after the end of the last data cell; the check
failure of frame 3 leads to LISTEN, with the link in WIRE mode, everything measured afresh, and the listen timer at
the first scan time at or after 4.5 s. No counter changes. Any other outcome, at the EOD of what was looped, be it
fewer bytes or more, an error at any moment, and no outcome 8 cells after the EOD of the whole frame was due, is
TEST FAULT: ALARM on, READY off, the link OFF, every session, seize, connect state, sender, select and line output
released. Where the receiver has read the looped cells, the outcome is that of the bytes read; where no edge was
given, START MARK stands for its cells, and nothing is handed before the time for its bytes. That bound, those of
recessive time and last edge, and that frame 3 refused at a shorter frame's EOD fails are the model's (log entry
9). The recessive wire with its edges at the entry to LISTEN is log entry 4. -/
def Obligations.TestFramesPassOrHalt : Prop :=
  (∀ (s : State) (w start : Nat), s.running = true → s.ctl.station = .selfTest → s.ctl.testStart = some start →
     s.link.dominant = false → s.link.recessiveFrom + 2 * 8 ≤ max s.now w →
     let handed : List Byte → Control → State := fun bytes c => { s.advance w with
       ctl := c
       link := { s.link.recessive (max s.now w - 2 * 8) with
         rx := .afterData, mayReply := false, frameBuf := bytes, replyBuf := [], bits := [] } }
     let looped : List Byte → Prop := fun bytes =>
       (s.link.rx = .startMark ∧ start + (6 + 8 * bytes.length) * 8 ≤ max s.now w) ∨
         (s.link.rx = .data ∧ s.link.frameBuf = bytes ∧ s.link.bits = [])
     (s.ctl.testFrame = 1 → looped [85, 170, 51, 204, 1] →
       exec (.testFrameOutcome w (.handed [85, 170, 51, 204, 1])) s =
         .next (handed [85, 170, 51, 204, 1] { s.ctl with testFrame := 2, testStart := none })) ∧
     (s.ctl.testFrame = 2 → looped [0, 1, 2, 3, 4, 5, 6, 7, 8, 9, 10, 11, 12, 13, 14, 150] →
       exec (.testFrameOutcome w (.handed [0, 1, 2, 3, 4, 5, 6, 7, 8, 9, 10, 11, 12, 13, 14, 150])) s =
         .next (handed [0, 1, 2, 3, 4, 5, 6, 7, 8, 9, 10, 11, 12, 13, 14, 150]
           { s.ctl with testFrame := 3, testStart := none })) ∧
     (s.ctl.testFrame = 3 →
       (s.link.rx = .startMark ∧ start + (6 + 8 * 3) * 8 ≤ max s.now w) ∨
         (s.link.rx = .data ∧ s.link.bits = [] ∧ s.link.frameBuf.length = 3 ∧ checkGood s.link.frameBuf = false) →
       ∃ expiry, exec (.testFrameOutcome w .checkFailure) s = .next { s.advance w with
           ctl := { s.ctl with
             station := .listen, ready := false, alarm := false, testStart := none, listenTimer := some expiry }
           link := { s.link with
             mode := .wire, rx := .waitEof, mayReply := false, frameBuf := [], replyBuf := [], bits := []
             dominant := false, fallAt := max s.now w, fallCell := 0, edgeAt := max s.now w
             recessiveFrom := max s.now w, wireFrom := max s.now w } } ∧
         max s.now w + 4500 * 64 ≤ expiry * 64 ∧ expiry * 64 < max s.now w + 4501 * 64)) ∧
  (∀ (s : State) (w start : Nat), s.running = true → s.ctl.station = .selfTest → s.ctl.testStart = some start →
     s.ctl.testFrame = 1 ∨ s.ctl.testFrame = 2 ∨ s.ctl.testFrame = 3 →
     let eod := start + (6 + 8 * (if s.ctl.testFrame = 1 then 5 else if s.ctl.testFrame = 2 then 16 else 3)) * 8
     ∀ c : Instr,
       (c = .testFrameOutcome w .signalError ∨
         (s.link.dominant = false ∧ s.link.recessiveFrom + 2 * 8 ≤ max s.now w ∧
           ((∃ b, c = .testFrameOutcome w (.handed b) ∧
               ((s.link.rx = .startMark ∧ start + (6 + 8 * b.length) * 8 ≤ max s.now w) ∨
                 (s.link.rx = .data ∧ s.link.frameBuf = b ∧ s.link.bits = [])) ∧
               (s.ctl.testFrame = 1 → b ≠ [85, 170, 51, 204, 1]) ∧
               (s.ctl.testFrame = 2 → b ≠ [0, 1, 2, 3, 4, 5, 6, 7, 8, 9, 10, 11, 12, 13, 14, 150])) ∨
             (c = .testFrameOutcome w .checkFailure ∧
               ((s.link.rx = .startMark ∧ start + (6 + 8) * 8 ≤ max s.now w ∧
                   (s.ctl.testFrame = 3 → max s.now w < eod)) ∨
                 (s.link.rx = .data ∧ s.link.bits = [] ∧ checkGood s.link.frameBuf = false ∧
                   (s.ctl.testFrame = 3 → s.link.frameBuf.length ≠ 3)))))) ∨
         (c = .testFrameTimeout w ∧ eod + 8 * 8 ≤ max s.now w)) →
       ∃ t, exec c s = .next t ∧ t.ctl.station = .testFault ∧ t.ctl.ready = false ∧ t.ctl.alarm = true ∧
         t.link.mode = .off ∧ t.linkPin = false ∧ t.tx = { frames := [], flight := none, waiting := none } ∧
         (∀ v, t.session v = none ∧ ∀ l, t.closed l v = false) ∧ (∀ u : Trunk, t.sup.seize[u] = false) ∧
         (∀ i, (t.sender i).state = .free ∧ (t.sender i).trunk = none ∧ (t.sender i).output = 512 ∧
           (t.sender i).select = none) ∧ t.arb.requests = [] ∧
         (∀ l : Line, t.ldt[l] = false ∧ t.lko[l] = false) ∧ t.scan = s.scan ∧ t.dec = s.dec ∧ t.calls = s.calls ∧
         t.view = { s.view with reportInterval := none } ∧ t.iso = s.iso ∧ t.link.rxErrors = s.link.rxErrors ∧
         t.link.health = s.link.health) ∧
  (∀ (s : State) (w start : Nat) (b : List Byte), s.running = true → s.ctl.testStart = some start →
     s.link.dominant = true ∨ max s.now w < s.link.recessiveFrom + 2 * 8 ∨
       (s.link.rx = .startMark ∧ max s.now w < start + (6 + 8 * b.length) * 8) ∨
       (s.link.rx = .data ∧ (s.link.frameBuf ≠ b ∨ s.link.bits ≠ [])) →
     exec (.testFrameOutcome w (.handed b)) s = .next (s.advance w))

/-- Tier 2. R8, R196, R204: at the expiry of the listen timer in LISTEN, and of the rejoin timer in REJOIN, the
station enters ACTIVE: READY on, ALARM off, the timer stopped, a normal REPORT in the queue and the report interval
at 2 s. R105: the queue then offers that REPORT exactly when it holds no frame of another kind, so that from
LISTEN, with nothing sent since the reset, the REPORT is the frame it offers first, as R204 says, where no line
hunts at once: in EN-BLOC, or with no line off-hook and past its guard. A CLAIM placed at once goes before it:
R105's order, where the two rules differ, is the model's reading (DEDUCED, log entry 22). A call starts at once on
each line that is IDLE, CLOSED and past its guard mark, and no other IDLE line changes. The lines' filters, lockout
outputs, presence and trunk inputs are left alone. -/
def Obligations.ListenAndRejoinEndInActive : Prop :=
  ∀ (s : State) (w e : Nat), s.running = true → s.tx.flight = none → e ≤ max s.now w / 64 →
    ∀ c : Instr,
      (c = .listenTimer w ∧ s.ctl.station = .listen ∧ s.ctl.listenTimer = some e) ∨
        (c = .rejoinTimer w ∧ s.ctl.station = .rejoin ∧ s.iso.rejoinTimer = some e) →
      ∃ t, exec c s = .next t ∧ t.ctl = { s.ctl with
          station := .active, ready := true, alarm := false, listenTimer := none } ∧
        t.iso = { s.iso with rejoinTimer := none } ∧
        (∃ f ∈ t.tx.frames, f.frame = .report false) ∧
        (t.offered = some (.report false) ↔ ∀ f ∈ t.tx.frames, f.frame.key = .report) ∧
        (s.ctl.station = .listen → s.Unserved →
          s.ctl.straps.mode = .enBloc ∨ (∀ l, (s.scanLine l).loop = .opened ∨ (s.scanLine l).guard = .off ∨
            ∃ x, (s.scanLine l).guard = .running x ∧ max s.now w / 64 < x + 60) →
          t.offered = some (.report false)) ∧
        t.view.reportInterval = some (max s.now w / 64 + 2000) ∧
        s.Reoffers t (max s.now w / 64) ∧ t.link = s.link ∧ t.lko = s.lko ∧
        t.view.presence = s.view.presence ∧ t.sup.inputs = s.sup.inputs ∧
        (∀ l, (t.scanLine l).integ = (s.scanLine l).integ ∧ (t.scanLine l).loop = (s.scanLine l).loop ∧
          (t.scanLine l).glitches = (s.scanLine l).glitches)

/-! ## The Line Scanner -/

/-- Tier 2. R1 to R3: at a line's one sample of a millisecond, in that line's tick of it, the integrator moves one
step, held at 7 and at 0. The filtered state turns CLOSED when it reaches 7 and OPEN when it reaches 0, at the
sample's time. Samples of a line touch no other line's filter or decoder, and neither the link nor the station
state. That the last sample's time is kept, so that a second sample of the millisecond is none, is the model's (log
entry 5). -/
def Obligations.LoopSampleMovesTheIntegrator : Prop :=
  ∀ (s : State) (w : Nat) (l : Line) (present : Bool), s.running = true →
    (s.scanLine l).lastSample < max s.now w / 64 → max s.now w / 8 % 8 = l.val →
    ∃ t, exec (.loopSample w l present) s = .next t ∧
      (t.scanLine l).integ.val =
        (if present then min 7 ((s.scanLine l).integ.val + 1) else (s.scanLine l).integ.val - 1) ∧
      (t.scanLine l).loop =
        (if (s.scanLine l).loop = .opened ∧ present = true ∧ (s.scanLine l).integ = 6 then .closed
        else if (s.scanLine l).loop = .closed ∧ present = false ∧ (s.scanLine l).integ = 1 then .opened
        else (s.scanLine l).loop) ∧
      (t.scanLine l).lastEdge =
        (if (t.scanLine l).loop = (s.scanLine l).loop then (s.scanLine l).lastEdge else max s.now w / 64) ∧
      (t.scanLine l).lastSample = max s.now w / 64 ∧
      (∀ m, m ≠ l → t.scanLine m = s.scanLine m ∧ t.decoder m = s.decoder m ∧ t.lko[m] = s.lko[m]) ∧
      t.link = s.link ∧ t.ctl = s.ctl ∧ t.iso = s.iso ∧ t.view.presence = s.view.presence

/-- Tier 2. R7, R9, R11: on an IDLE line whose guard mark is not due, a CLOSED edge starts the off-hook guard, and
an OPEN edge ends it and counts an idle glitch if it was running. The lockout output of a BLOCKED line goes on at a
CLOSED edge and off at an OPEN edge, and no guard runs; in LOCKOUT the edge goes nowhere. R5, R19, R22, R36, R63:
in COLLECTING, HUNTING, SEIZING and DIALLING, with no mark due, an OPEN edge is the decoder's open edge and a
CLOSED edge its closed edge, at the sample's time: its record is taken over, a pulse's notice turns local dial tone
off, and its entry is handed to the call, EARLY while audio-connected is clear. Nothing else changes. -/
def Obligations.LoopEdgesActAsTheCallStateSays : Prop :=
  (∀ (s : State) (w : Nat) (l : Line), s.running = true → (s.call l).state = .idle →
     (s.scanLine l).lastSample < max s.now w / 64 → max s.now w / 8 % 8 = l.val →
     (∀ start, (s.scanLine l).guard = .running start → max s.now w / 64 < start + 60) →
     ((s.scanLine l).loop = .opened → (s.scanLine l).integ = 6 →
       exec (.loopSample w l true) s = .next ((s.advance w).setScan l
         { s.scanLine l with
           integ := 7, loop := .closed, lastEdge := max s.now w / 64, lastSample := max s.now w / 64,
           guard := .running (max s.now w / 64) })) ∧
     ((s.scanLine l).loop = .closed → (s.scanLine l).integ = 1 →
       exec (.loopSample w l false) s = .next ((s.advance w).setScan l
         { s.scanLine l with
           integ := 0, loop := .opened, lastEdge := max s.now w / 64, lastSample := max s.now w / 64, guard := .off,
           glitches :=
             match (s.scanLine l).guard with
             | .running _ =>
               if (s.scanLine l).glitches = 255 then 255 else (s.scanLine l).glitches + 1
             | _ => (s.scanLine l).glitches }))) ∧
  (∀ (s : State) (w : Nat) (l : Line) (present : Bool), s.running = true → (s.call l).state = .blocked →
     (s.scanLine l).lastSample < max s.now w / 64 → max s.now w / 8 % 8 = l.val →
     (s.scanLine l).loop = (if present then .opened else .closed) →
     (s.scanLine l).integ = (if present then 6 else 1) →
     exec (.loopSample w l present) s = .next (((s.advance w).setScan l
       { s.scanLine l with
         integ := if present then 7 else 0, loop := if present then .closed else .opened,
         lastEdge := max s.now w / 64, lastSample := max s.now w / 64 }).setLko l present)) ∧
  (∀ (s : State) (w : Nat) (l : Line) (present : Bool), s.running = true →
     (s.scanLine l).lastSample < max s.now w / 64 → max s.now w / 8 % 8 = l.val →
     (s.scanLine l).loop = (if present then .opened else .closed) →
     (s.scanLine l).integ = (if present then 6 else 1) →
     let time := max s.now w / 64
     let moved := (s.advance w).setScan l { s.scanLine l with
       integ := if present then 7 else 0, loop := if present then .closed else .opened,
       lastEdge := time, lastSample := time }
     ((s.call l).state = .lockout → (present = true → time < (s.scanLine l).lastEdge + 900) →
       exec (.loopSample w l present) s = .next moved) ∧
     ((s.call l).state = .collecting ∨ (s.call l).state = .hunting ∨ (s.call l).state = .seizing ∨
         (s.call l).state = .dialling →
       (present = true → time < (s.scanLine l).lastEdge + 900) →
       (∀ start threshold, (s.decoder l).count ≠ 0 → (s.decoder l).interval = some (.make start) →
         (s.decoder l).threshold = some threshold → time < start + threshold) →
       (present = false → exec (.loopSample w l present) s = .next (moved.setDec l ((s.decoder l).openEdge time))) ∧
       (present = true →
         let r := (s.decoder l).closedEdge time (!(s.call l).audio)
         let judged := moved.setDec l r.dec
         let told := if r.notice then
           (judged.setCall l { s.call l with localTone := false }).setLdt l false else judged
         exec (.loopSample w l present) s = .next
           (match r.entry with | some e => told.handEntry l e | none => told))))

/-- Tier 2. R44, R18: at the off-hook mark in ACTIVE or ISOLATED a call starts: flags and queue clear, failure
count 0, local dial tone on; the decoder takes the line over with an empty record and a make begun at the last
edge, whose threshold is the larger of 150 and twice P. In EN-BLOC the call is COLLECTING with 20 s to its first
entry; in OVERLAP it is HUNTING with a hunt timer of 10 s, or, in ISOLATED, already seized on the home trunk. In
any other state the mark is taken and nothing else changes (R7, R45). -/
def Obligations.OffHookStartsTheCallWhereCallsStart : Prop :=
  (∀ (s : State) (w start : Nat) (l : Line), s.running = true →
     s.ctl.station = .active ∨ s.ctl.station = .isolated → (s.call l).state = .idle →
     (s.scanLine l).loop = .closed → (s.scanLine l).guard = .running start → start + 60 ≤ max s.now w / 64 →
     ∃ t, exec (.offHook w l) s = .next t ∧
       (t.call l).queue = [] ∧ (t.call l).identitySent = false ∧ (t.call l).firstDigitSent = false ∧
       (t.call l).spoiled = false ∧ (t.call l).overflow = false ∧ (t.call l).audio = false ∧
       (t.call l).pendingBlock = false ∧ (t.call l).failures = 0 ∧ (t.call l).localTone = true ∧
       t.ldt[l] = true ∧ (t.call l).dialTimer = .stopped ∧
       t.decoder l = { s.decoder l with
         count := 0, overCount := false, pulses := [], pulse := none, resume := none,
         interval := some (.make (s.scanLine l).lastEdge), threshold := some (max 150 (2 * (s.decoder l).p)) } ∧
       (s.ctl.straps.mode = .enBloc → (t.call l).state = .collecting ∧
         (t.call l).firstTimer = some (max s.now w / 64 + 20000) ∧ (t.call l).trunk = none) ∧
       (s.ctl.straps.mode = .overlap →
         ((t.call l).state = .hunting ∧ (t.call l).huntTimer = some (max s.now w / 64 + 10000) ∧
           (t.call l).trunk = none) ∨
         (s.ctl.station = .isolated ∧ (t.call l).state = .seizing ∧ (t.call l).trunk = some s.slot)) ∧
       (∀ m, m ≠ l → t.decoder m = s.decoder m ∧ t.scanLine m = s.scanLine m) ∧ t.lko = s.lko ∧
       t.link = s.link ∧ t.ctl = s.ctl ∧ t.iso = s.iso) ∧
  (∀ (s : State) (w start : Nat) (l : Line), s.running = true →
     s.ctl.station ≠ .active → s.ctl.station ≠ .isolated → (s.call l).state = .idle →
     (s.scanLine l).loop = .closed → (s.scanLine l).guard = .running start → start + 60 ≤ max s.now w / 64 →
     exec (.offHook w l) s = .next ((s.advance w).setScan l { s.scanLine l with guard := .marked }))

/-! ## The Pulse Decoder -/

/-- Tier 2. R21: a noise break, below 20 ms, gives back the digit record as it stood before the make that preceded
the break was judged: the OPEN edge and the CLOSED edge together only count the noise breaks counter. The make must
not have been short enough to withdraw its pulse (R27), nor be past its threshold with a digit in progress (R30).
R26 to R28: a make of 15 ms or more completes the pending pulse's period; a shorter one withdraws the pulse,
lowering the count and moving the break's start back to the withdrawn break's; with no pending pulse, or with
over-count set, the make changes nothing but the interval and the resume point. -/
def Obligations.MakesAndNoiseBreaksKeepTheRecord : Prop :=
  (∀ (d : Decoder) (start threshold opened closed : Nat) (early : Bool),
     d.interval = some (.make start) → d.threshold = some threshold → d.resume = none → closed - opened < 20 →
     (d.overCount = false → d.pulse ≠ none → 15 ≤ opened - start) →
     (d.count = 0 ∨ closed < start + threshold) →
     (d.openEdge opened).closedEdge closed early =
       { dec := { d with noise := if d.noise = 255 then 255 else d.noise + 1 }, entry := none, notice := false }) ∧
  (∀ (d : Decoder) (start time threshold : Nat), d.interval = some (.make start) → d.threshold = some threshold →
     (∀ p, d.overCount = false → d.pulse = some p → 15 ≤ time - start →
       d.openEdge time = { d with
         pulses := d.pulses ++ [(p.brk, time - start)], pulse := none, interval := some (.brk time),
         resume := some { start, threshold, completed := some p } }) ∧
     (∀ p, d.overCount = false → d.pulse = some p → time - start < 15 →
       d.openEdge time = { d with
         count := d.count - 1, pulse := none, interval := some (.brk p.start), resume := none,
         merged := if d.merged = 255 then 255 else d.merged + 1 }) ∧
     (d.overCount = true ∨ d.pulse = none →
       d.openEdge time = { d with
         interval := some (.brk time), resume := some { start, threshold, completed := none } }))

/-- Tier 2. R20, R22 to R24: a break of 20 ms or more, measured from the start in the record, is judged by its
length: up to the larger of 120 and P - 10 it is a dial pulse, counted up to 15 with a notice; below 250 a doubtful
break; from 250 a flash. A doubtful break or a flash ends a digit in progress MUTILATED with its count; a flash
alone is a RECALL. In every case a make begins at the edge with the threshold of the P of that moment. -/
def Obligations.BreaksAreJudgedByTheirLength : Prop :=
  ∀ (d : Decoder) (start time : Nat) (early : Bool), d.interval = some (.brk start) → start + 20 ≤ time →
    let r := d.closedEdge time early
    r.dec.interval = some (.make time) ∧ r.dec.threshold = some (max 150 (2 * d.p)) ∧ r.dec.resume = none ∧
    r.dec.p = d.p ∧ r.dec.lastM = d.lastM ∧ r.dec.lastR = d.lastR ∧ r.dec.noise = d.noise ∧
    (time - start ≤ max 120 (d.p - 10) →
      r.entry = none ∧ r.notice = decide (d.count < 15) ∧
      r.dec.count = (if d.count < 15 then d.count + 1 else d.count) ∧
      (d.count < 15 → r.dec.pulse = some { brk := time - start, start } ∧ r.dec.overCount = d.overCount) ∧
      (15 ≤ d.count → r.dec.pulse = d.pulse ∧ r.dec.overCount = true) ∧ r.dec.pulses = d.pulses ∧
      r.dec.doubtful = d.doubtful ∧ r.dec.recalls = d.recalls ∧ r.dec.mutilated = d.mutilated) ∧
    (max 120 (d.p - 10) < time - start →
      r.notice = false ∧ (d.count ≠ 0 → r.dec.count = 0 ∧ r.dec.pulses = [] ∧ r.dec.pulse = none ∧
        r.dec.mutilated = counted d.mutilated ∧ r.dec.recalls = d.recalls ∧
        ∃ e, r.entry = some e ∧ e.kind = .mutilated ∧ e.pulses = some d.count ∧ e.speed = false ∧
          e.early = early) ∧
      (time - start < 250 → r.dec.doubtful = counted d.doubtful ∧ (d.count = 0 → r.entry = none)) ∧
      (250 ≤ time - start → r.dec.doubtful = d.doubtful ∧
        (d.count = 0 → r.dec.recalls = counted d.recalls ∧ r.dec.mutilated = d.mutilated ∧
          ∃ e, r.entry = some e ∧ e.kind = .recall ∧ e.pulses = none ∧ e.early = early)))

/-- Tier 2. R30 to R32, R35, R46: at the make threshold a digit of 1 to 10 pulses completes: a DIGIT (10 pulses the
digit 0) joins the tail of the queue of a HUNTING or SEIZING call with room; from 2 pulses on with M and R over the
first n - 1 items, SPEED when M lies outside 60..150, and P moves a quarter of the way to the clamped M, rounded
down; a single pulse has neither M nor R and leaves the profile. A digit of 11 to 15 pulses, or with over-count
set, completes MUTILATED with its count, M and R, counted in its own counter; the profile stands. The record is
empty and the make goes on. -/
def Obligations.DigitCompletesAndTeachesTheProfile : Prop :=
  ∀ (s : State) (w t0 threshold : Nat) (l : Line), s.running = true →
    (s.call l).state = .hunting ∨ (s.call l).state = .seizing → (s.call l).spoiled = false →
    (s.call l).queue.length < 24 → (s.decoder l).interval = some (.make t0) →
    (s.decoder l).threshold = some threshold → t0 + threshold ≤ max s.now w / 64 →
    let n := (s.decoder l).count
    let items := (s.decoder l).pulses.take (n - 1)
    let periods := (items.map fun i => i.1 + i.2).sum
    let m := periods / (n - 1)
    let r := 100 * (items.map fun i => i.1).sum / periods
    let fast := decide (m < 60 ∨ 150 < m)
    let emptied := { s.decoder l with count := 0, overCount := false, pulses := [], pulse := none, resume := none }
    let teaches : Decoder → Entry → Prop := fun d e => ∃ t, exec (.digitComplete w l) s = .next t ∧
      t.decoder l = d ∧ (t.call l).queue = (s.call l).queue ++ [e] ∧
      (t.call l).state = (s.call l).state ∧ (t.call l).trunk = (s.call l).trunk ∧ t.ldt[l] = s.ldt[l] ∧
      (∀ k, k ≠ l → t.decoder k = s.decoder k) ∧ t.scan = s.scan ∧ t.lko = s.lko ∧ t.link = s.link ∧ t.ctl = s.ctl
    (2 ≤ n → n ≤ 10 → (s.decoder l).overCount = false → teaches
      { emptied with
        p := ((s.decoder l).p + ((max 60 (min 150 m) : Int) - (s.decoder l).p).fdiv 4 : Int).toNat
        lastM := some m, lastR := some r, digits := counted (s.decoder l).digits
        speed := if fast then counted (s.decoder l).speed else (s.decoder l).speed }
      { kind := .digit (Fin.ofNat 10 n), pulses := some n, period := some m, ratio := some r, speed := fast,
        early := !(s.call l).audio }) ∧
    (n = 1 → (s.decoder l).overCount = false → teaches { emptied with digits := counted (s.decoder l).digits }
      { kind := .digit 1, pulses := some 1, period := none, ratio := none, speed := false
        early := !(s.call l).audio }) ∧
    (1 ≤ n → 11 ≤ n ∨ (s.decoder l).overCount = true → teaches
      { emptied with mutilated := counted (s.decoder l).mutilated }
      { kind := .mutilated, pulses := some n, period := if n = 1 then none else some m
        ratio := if n = 1 then none else some r, speed := false, early := !(s.call l).audio })

/-- Tier 2. R46, R48, R49, R53, TABLE 3-3: an entry of any kind that reaches a HUNTING, SEIZING or DIALLING call
with fewer than 24 entries queued joins the tail, and in OVERLAP starts the end-of-dialling timer afresh at 4 s
while no first digit was sent and the timer has not expired; in DIALLING a MUTILATED entry that this brings to the
head at a sender's code boundary spoils the call at once. With 24 queued the entry is discarded, the overflow flag
set and the overflow counter counted; a spoiled call refuses every entry. In COLLECTING a DIGIT joins the tail,
stops the first-entry timer and starts the end-of-dialling timer afresh at 4 s; the sixteenth moves the call to
HUNTING with its timers stopped and a hunt timer of 10 s, or, in ISOLATED, on to the home trunk. A RECALL changes
nothing. A MUTILATED entry flushes the queue and ends in LOCKOUT. -/
def Obligations.EntriesJoinTheQueueAsTheCallStateSays : Prop :=
  (∀ (s : State) (l : Line) (e : Entry),
     (s.call l).state = .hunting ∨ (s.call l).state = .seizing ∨ (s.call l).state = .dialling →
     ((s.call l).spoiled = false → (s.call l).queue.length = 24 →
       s.handEntry l e = s.setCall l
         { s.call l with
           overflow := true
           overflows := if (s.call l).overflows = 255 then 255 else (s.call l).overflows + 1 }) ∧
     ((s.call l).spoiled = true → s.handEntry l e = s) ∧
     ((s.call l).spoiled = false → (s.call l).queue.length < 24 →
       let t := s.handEntry l e
       let timer : DialTimer :=
         if s.ctl.straps.mode = .overlap ∧ (s.call l).firstDigitSent = false ∧ (s.call l).dialTimer ≠ .expired then
           .running (s.now / 64 + 4000)
         else (s.call l).dialTimer
       ((s.call l).state ≠ .dialling →
         t.call l = { s.call l with queue := (s.call l).queue ++ [e], dialTimer := timer }) ∧
       ((s.call l).state = .dialling → (t.call l).state = .dialling ∧
         (((t.call l).spoiled = false ∧ (t.call l).queue = (s.call l).queue ++ [e] ∧ (t.call l).dialTimer = timer) ∨
           ((t.call l).spoiled = true ∧ (t.call l).queue = [] ∧ (s.call l).identitySent = true ∧
             ∃ x, ((s.call l).queue ++ [e]).head? = some x ∧ x.kind = .mutilated))) ∧
       t.hunt = s.hunt ∧ t.view = s.view ∧ t.tx = s.tx ∧ t.dec = s.dec ∧ t.scan = s.scan ∧ t.lko = s.lko ∧
       t.link = s.link)) ∧
  (∀ (s : State) (l : Line) (e : Entry), (s.call l).state = .collecting →
     (e.kind = .recall → s.handEntry l e = s) ∧
     (e.kind = .mutilated → ((s.handEntry l e).call l).state = .lockout ∧ ((s.handEntry l e).call l).queue = [] ∧
       (s.handEntry l e).lko[l] = true ∧ (s.handEntry l e).ldt[l] = false) ∧
     (∀ d, e.kind = .digit d → (s.call l).queue.length + 1 ≠ 16 →
       s.handEntry l e = s.setCall l { s.call l with
         queue := (s.call l).queue ++ [e], firstTimer := none, dialTimer := .running (s.now / 64 + 4000) }) ∧
     (∀ d, e.kind = .digit d → (s.call l).queue.length + 1 = 16 →
       ((s.handEntry l e).call l).queue = (s.call l).queue ++ [e] ∧
       ((s.handEntry l e).call l).dialTimer = .stopped ∧ ((s.handEntry l e).call l).firstTimer = none ∧
       ((((s.handEntry l e).call l).state = .hunting ∧
         ((s.handEntry l e).call l).huntTimer = some (s.now / 64 + 10000)) ∨
         (s.ctl.station = .isolated ∧ ((s.handEntry l e).call l).state = .seizing))))

/-! ## Ends of a call, and its timers -/

/-- Tier 2. R61, with R37 and R160: at the clear mark of a call its record returns to rest, its line's outputs,
guard, digit record and hunt entry go, and its trunk is released with cause line-clear, retired if a RETIRE TRUNK
waits (R163). In ISOLATED the home trunk may be taken for another line in the same act. -/
def Obligations.ClearEndsTheCall : Prop :=
  ∀ (s : State) (w : Nat) (l : Line), s.running = true → (s.call l).state.inCall = true →
    (s.scanLine l).loop = .opened → (s.scanLine l).lastEdge + 900 ≤ max s.now w / 64 →
    ∃ t, exec (.clear w l) s = .next t ∧
      t.call l = { CallRecord.reset with
        state := if (s.call l).pendingBlock then .blocked else .idle
        overflows := (s.call l).overflows
        lockouts := (s.call l).lockouts } ∧
      t.ldt[l] = false ∧ t.lko[l] = false ∧ t.scanLine l = { s.scanLine l with guard := .off } ∧ l ∉ t.hunt.queue ∧
      t.decoder l = { s.decoder l with count := 0, overCount := false, pulses := [], pulse := none, resume := none } ∧
      (∀ u, (s.call l).trunk = some u → s.ctl.station ≠ .isolated ∨ u ≠ s.slot →
        s.LetsGo t u .lineClear ∧
        (t.entry u).retiredBy = (if s.retireWaits u then some s.slot else (s.entry u).retiredBy) ∧
        (s.retireWaits u = true → t.tx.Holds (.retire u .maintenance)) ∧
        (t.entry u).failures = (s.entry u).failures) ∧
      (∀ m, m ≠ l → t.scanLine m = s.scanLine m ∧ t.decoder m = s.decoder m ∧ t.lko[m] = s.lko[m]) ∧
      t.link = s.link ∧ t.ctl = s.ctl ∧ t.iso = s.iso ∧ t.view.presence = s.view.presence ∧
      t.sup.inputs = s.sup.inputs

/-- Tier 2. R47, R51, R60: at the expiry of the first-entry timer with an empty queue, and of the hunt timer, the
call is in LOCKOUT with its queue flushed and its timers stopped, local dial tone off and the lockout output on,
the lockouts counter counted, the digit record empty and the line out of the hunt queue; a claim in flight for it
lapses (R138). R48, R53: at the expiry of the end-of-dialling timer an EN-BLOC call leaves COLLECTING for HUNTING
with its queue kept and a hunt timer of 10 s, or in ISOLATED takes the home trunk at once; a HUNTING, SEIZING or
DIALLING call keeps its place, and the expired timer releases its sending in OVERLAP. -/
def Obligations.CallTimersEndOrReleaseTheCall : Prop :=
  (∀ (s : State) (w e : Nat) (l : Line), s.running = true → e ≤ max s.now w / 64 →
     ∀ c : Instr,
       (c = .firstEntryTimer w l ∧ (s.call l).state = .collecting ∧ (s.call l).queue = [] ∧
           (s.call l).firstTimer = some e) ∨
         (c = .huntTimer w l ∧ (s.call l).state = .hunting ∧ (s.call l).huntTimer = some e) →
       ∃ t, exec c s = .next t ∧
         t.call l = { s.call l with
           state := .lockout, trunk := none, queue := [], audio := false, localTone := false
           huntTimer := none, dialTimer := .stopped, firstTimer := none
           lockouts := if (s.call l).lockouts = 255 then 255 else (s.call l).lockouts + 1 } ∧
         t.ldt[l] = false ∧ t.lko[l] = true ∧ l ∉ t.hunt.queue ∧
         t.decoder l =
           { s.decoder l with count := 0, overCount := false, pulses := [], pulse := none, resume := none } ∧
         (∀ k, s.hunt.claim = some k → k.owner = .line l →
           (k.stage = .inFlight → t.hunt.claim = some { k with owner := .lapsed }) ∧
           (k.stage = .queued → ∀ k', t.hunt.claim = some k' → k'.owner ≠ .line l)) ∧
         (∀ m, m ≠ l → t.decoder m = s.decoder m ∧ t.lko[m] = s.lko[m]) ∧ t.scan = s.scan ∧ t.link = s.link ∧
         t.ctl = s.ctl ∧ t.iso = s.iso ∧ t.view.presence = s.view.presence ∧ t.sup.inputs = s.sup.inputs) ∧
  (∀ (s : State) (w e : Nat) (l : Line), s.running = true → (s.call l).dialTimer = .running e →
     e ≤ max s.now w / 64 →
     ∃ t, exec (.endOfDiallingTimer w l) s = .next t ∧
       ((s.call l).state = .collecting →
         (t.call l).queue = (s.call l).queue ∧ (t.call l).dialTimer = .stopped ∧ (t.call l).firstTimer = none ∧
         (((t.call l).state = .hunting ∧ (t.call l).huntTimer = some (max s.now w / 64 + 10000) ∧
             l ∈ t.hunt.queue) ∨
           (s.ctl.station = .isolated ∧ (t.call l).state = .seizing ∧ (t.call l).trunk = some s.slot))) ∧
       ((s.call l).state = .hunting ∨ (s.call l).state = .seizing →
         t.call l = { s.call l with dialTimer := .expired } ∧ t.hunt = s.hunt ∧ t.view = s.view) ∧
       ((s.call l).state = .dialling → (t.call l).state = .dialling ∧ (t.call l).dialTimer = .expired ∧
         t.hunt = s.hunt ∧ t.view = s.view) ∧
       ((s.call l).state = .hunting ∨ (s.call l).state = .seizing ∨ (s.call l).state = .dialling →
         t.released (t.call l) = true) ∧
       t.scan = s.scan ∧ t.dec = s.dec ∧ t.lko = s.lko ∧ t.link = s.link ∧ t.ctl = s.ctl ∧ t.iso = s.iso)

/-! ## Trunks -/

/-- Tier 2. R151, R126, R148, R170: a trunk's sample sets its busy input, begins, extends or ends the two runs, and
is the trunk's one sample of the millisecond. A change of busy to idle clears busy-mismatch; the home trunk's
idle-since follows its first value and its changes. -/
def Obligations.TrunkSampleFollowsTheInputs : Prop :=
  ∀ (s : State) (w : Nat) (u : Trunk) (pts clr busy : Bool), s.running = true → s.fitted u = true →
    (s.input u).lastSample < max s.now w / 64 →
    ∃ t, exec (.trunkInputSample w u pts clr busy) s = .next t ∧
      t.input u =
        { busy := busy, lastSample := max s.now w / 64,
          ptsRun := if pts then some ((s.input u).ptsRun.getD (max s.now w / 64)) else none,
          clrRun := if clr then some ((s.input u).clrRun.getD (max s.now w / 64)) else none } ∧
      (∀ v, v ≠ u → t.input v = s.input v ∧ (t.entry v).busyMismatch = (s.entry v).busyMismatch) ∧
      t.hunt.idleSince =
        (if u = s.slot ∧ ((s.input u).lastSample = 0 ∨ busy ≠ (s.input u).busy) then
          (if busy then none else some (max s.now w / 64))
        else s.hunt.idleSince) ∧
      (t.entry u).busyMismatch =
        (if (s.input u).lastSample ≠ 0 ∧ (s.input u).busy = true ∧ busy = false then false
        else (s.entry u).busyMismatch) ∧
      ((s.input u).busy = busy → t.calls = s.calls ∧ t.tx = s.tx ∧ t.senders = s.senders) ∧
      t.scan = s.scan ∧ t.dec = s.dec ∧ t.lko = s.lko ∧ t.link = s.link ∧ t.ctl = s.ctl ∧ t.iso = s.iso

/-- Tier 2. R155: a proceed-to-send run of 20 ms in WAIT PTS, counted from the session's opening at the earliest,
makes the session ESTABLISHED with its answer timer stopped, the trunk's own failure count 0 and the call DIALLING.
Seize stays asserted. R158, R163: a switch-clear run of 20 ms in ESTABLISHED or RECALL BREAK releases the trunk
with cause switch-clear, retired with cause maintenance if a RETIRE TRUNK waits, and ends the call in LOCKOUT; the
trunk's own failure count stays. In ISOLATED a released home trunk may be taken for another line in the same act
(R147; that idle-since alone is judged is log entry 25). -/
def Obligations.InputRunsEstablishOrEndTheCall : Prop :=
  (∀ (s : State) (w first : Nat) (u : Trunk) (l : Line) (ses : Session), s.running = true →
     s.session u = some ses → ses.state = .waitPts → ses.purpose = .line l → (s.call l).state = .seizing →
     (s.call l).identitySent = false → (s.input u).ptsRun = some first →
     max first ses.opened + 20 ≤ (s.input u).lastSample →
     ∃ t, exec (.proceedToSend w u) s = .next t ∧
       t.session u = some { ses with state := .established, answer := none } ∧ t.sup.seize[u] = s.sup.seize[u] ∧
       t.entry u = { s.entry u with failures := 0 } ∧ (∀ v, v ≠ u → t.entry v = s.entry v) ∧
       t.call l = { s.call l with state := .dialling } ∧ t.ldt[l] = s.ldt[l] ∧
       ((s.call l).trunk = some u → (s.call l).spoiled = false →
         t.attached u = true ∨ ∀ i, (t.sender i).state ≠ .free) ∧
       t.scan = s.scan ∧ t.dec = s.dec ∧ t.lko = s.lko ∧ t.link = s.link ∧ t.tx = s.tx ∧ t.hunt = s.hunt ∧
       t.ctl = s.ctl ∧ t.iso = s.iso ∧ t.sup.inputs = s.sup.inputs ∧ t.sup.probeIntervals = s.sup.probeIntervals) ∧
  (∀ (s : State) (w first : Nat) (u : Trunk) (l : Line) (ses : Session), s.running = true → s.session u = some ses →
     ses.state = .established ∨ ses.state = .recallBreak → ses.purpose = .line l →
     (s.input u).clrRun = some first → max first ses.opened + 20 ≤ (s.input u).lastSample →
     ∃ t, exec (.switchClear w u) s = .next t ∧
       (s.LetsGo t u .switchClear ∨ (s.ctl.station = .isolated ∧ u = s.slot ∧ ses.retireAtRelease = false ∧
         s.Retakes t .switchClear (max s.now w / 64))) ∧
       (t.entry u).failures = (s.entry u).failures ∧
       (ses.retireAtRelease = false → (t.entry u).retiredBy = (s.entry u).retiredBy) ∧
       (ses.retireAtRelease = true → (t.entry u).retiredBy = some s.slot ∧ t.tx.Holds (.retire u .maintenance) ∧
         t.sup.probeIntervals[u] = some (max s.now w / 64 + 120000)) ∧
       (t.call l).state = .lockout ∧ (t.call l).queue = [] ∧ (t.call l).trunk = none ∧ (t.call l).audio = false ∧
       t.lko[l] = true ∧ t.ldt[l] = false ∧ l ∉ t.hunt.queue ∧
       t.scan = s.scan ∧ t.link = s.link ∧ t.ctl = s.ctl ∧ t.iso = s.iso ∧ t.sup.inputs = s.sup.inputs)

/-- Tier 2. R166: a proceed-to-send run in PROBE WAIT releases the trunk with cause probe-done and restores it if
this station still retires it; the probe timer or a switch-clear run releases it with cause PTS-fail and starts the
probe interval afresh while the retirement stands. No failure is counted. A RETIRE TRUNK that waits, the retirement
having been removed, retires the trunk again at this release, with cause maintenance and its probe interval (R163;
how the two rules meet in a probe is the model's, log entries 12 and 13). -/
def Obligations.ProbeEndsAnsweredOrUnanswered : Prop :=
  ∀ (s : State) (w : Nat) (u : Trunk) (ses : Session), s.running = true → s.session u = some ses →
    ses.state = .probeWait → s.ctl.station ≠ .isolated ∨ u ≠ s.slot →
    (∀ first, (s.input u).ptsRun = some first → max first ses.opened + 20 ≤ (s.input u).lastSample →
      ∃ t, exec (.proceedToSend w u) s = .next t ∧ s.LetsGo t u .probeDone ∧
        (t.entry u).failures = (s.entry u).failures ∧
        ((s.entry u).retiredBy = some s.slot →
          (t.entry u).retiredBy = none ∧ t.tx.Holds (.restore u) ∧ t.sup.probeIntervals[u] = none) ∧
        ((s.entry u).retiredBy ≠ some s.slot → ses.retireAtRelease = false →
          (t.entry u).retiredBy = (s.entry u).retiredBy ∧ t.sup.probeIntervals[u] = s.sup.probeIntervals[u]) ∧
        ((s.entry u).retiredBy ≠ some s.slot → ses.retireAtRelease = true → (t.entry u).retiredBy = some s.slot ∧
          t.tx.Holds (.retire u .maintenance) ∧ t.sup.probeIntervals[u] = some (max s.now w / 64 + 120000))) ∧
    (∀ c : Instr,
      (c = .probeTimer w u ∧ ∃ e, ses.answer = some e ∧ e ≤ max s.now w / 64) ∨
        (c = .switchClear w u ∧ ∃ first, (s.input u).clrRun = some first ∧
          max first ses.opened + 20 ≤ (s.input u).lastSample) →
      ∃ t, exec c s = .next t ∧ s.LetsGo t u .ptsFail ∧ (t.entry u).failures = (s.entry u).failures ∧
        ((s.entry u).retiredBy = some s.slot → (t.entry u).retiredBy = some s.slot ∧
          t.sup.probeIntervals[u] = some (max s.now w / 64 + 120000)) ∧
        ((s.entry u).retiredBy ≠ some s.slot → ses.retireAtRelease = false →
          (t.entry u).retiredBy = (s.entry u).retiredBy ∧ t.sup.probeIntervals[u] = s.sup.probeIntervals[u]) ∧
        ((s.entry u).retiredBy ≠ some s.slot → ses.retireAtRelease = true → (t.entry u).retiredBy = some s.slot ∧
          t.tx.Holds (.retire u .maintenance) ∧ t.sup.probeIntervals[u] = some (max s.now w / 64 + 120000)))

/-- Tier 2. R156, R52: the PTS timer or a switch-clear run in WAIT PTS releases the trunk with cause PTS-fail and
counts its own failure; the third retires it by self, sets the count to 0 and starts the probe interval. A RETIRE
TRUNK that waits retires it at this release, its RETIRE of cause maintenance in place of the one of cause PTS-fail
(R163). The call goes back to HUNTING at the head of the hunt queue with its failure count raised, or at its third
failure into LOCKOUT. In ISOLATED the home trunk may be taken for the head line in the same act (R147; for the
released trunk itself see log entry 25). -/
def Obligations.SeizureFailureCountsForTrunkAndCall : Prop :=
  ∀ (s : State) (w : Nat) (u : Trunk) (l : Line) (ses : Session), s.running = true → s.session u = some ses →
    ses.state = .waitPts → ses.purpose = .line l → (s.call l).state = .seizing →
    ∀ c : Instr,
      (c = .ptsTimer w u ∧ ∃ e, ses.answer = some e ∧ e ≤ max s.now w / 64) ∨
        (c = .switchClear w u ∧ ∃ first, (s.input u).clrRun = some first ∧
          max first ses.opened + 20 ≤ (s.input u).lastSample) →
      let retired := ses.retireAtRelease = true ∨ 2 ≤ (s.entry u).failures
      ∃ t, exec c s = .next t ∧
        (s.LetsGo t u .ptsFail ∨ (s.ctl.station = .isolated ∧ u = s.slot ∧ ¬ retired ∧
          s.Retakes t .ptsFail (max s.now w / 64))) ∧
        (t.entry u).failures = (if 2 ≤ (s.entry u).failures then 0 else (s.entry u).failures + 1) ∧
        (¬ retired → (t.entry u).retiredBy = (s.entry u).retiredBy) ∧
        (retired → (t.entry u).retiredBy = some s.slot ∧
          t.tx.Holds (.retire u (if ses.retireAtRelease then .maintenance else .ptsFail)) ∧
          t.sup.probeIntervals[u] = some (max s.now w / 64 + 120000)) ∧
        ((s.call l).failures < 2 →
          let back := { s.call l with
            state := .hunting, trunk := none, failures := (s.call l).failures + 1
            huntTimer := some (max s.now w / 64 + 10000) }
          (t.hunt.queue = l :: s.hunt.queue ∧ t.call l = back) ∨
            (s.ctl.station = .isolated ∧ t.hunt.queue = s.hunt.queue.filter (· ≠ l) ∧
              t.call l = { back with state := .seizing, trunk := some s.slot, huntTimer := none } ∧
              (t.entry s.slot).holding = .own (some l))) ∧
        (2 ≤ (s.call l).failures → (t.call l).state = .lockout ∧ (t.call l).queue = [] ∧ t.lko[l] = true ∧
          t.ldt[l] = false ∧ l ∉ t.hunt.queue) ∧
        t.scan = s.scan ∧ t.link = s.link ∧ t.ctl = s.ctl ∧ t.iso = s.iso ∧ t.sup.inputs = s.sup.inputs

/-- Tier 2. R159, R180: a code boundary that finds a RECALL at the head of the queue on an ESTABLISHED trunk
releases seize, starts the break timer of 100 ms and puts the sender in RECALL WAIT, its output 512 and its select
kept, the RECALL still queued and every crosspoint as it was. At the end of a recall break seize is asserted again,
the session is ESTABLISHED and the waiting sender begins its 300 ms of silence. -/
def Obligations.RecallBreaksAreMadeAndEnd : Prop :=
  (∀ (s : State) (w : Nat) (i : Fin 2) (l : Line) (u : Trunk) (ses : Session) (e d : Entry) (rest : List Entry),
     s.running = true → (s.sender i).state = .gap → (s.sender i).endsAt ≤ max s.now w →
     (s.sender i).line = some l → (s.sender i).trunk = some u → (s.sender i).source = some .entry →
     (s.call l).state = .dialling → (s.call l).spoiled = false → (s.call l).identitySent = true →
     (s.call l).queue = e :: d :: rest → d.kind = .recall → s.session u = some ses → ses.state = .established →
     ∃ t, exec (.gapEnd w i) s = .next t ∧ (t.call l).queue = d :: rest ∧ (t.call l).firstDigitSent = true ∧
       t.session u = some { ses with state := .recallBreak, breakTimer := some (max s.now w / 64 + 100) } ∧
       t.sup.seize[u] = false ∧ t.sender i = { s.sender i with
         state := .recallWait, source := none, code := none, endsAt := 0, output := 512 } ∧
       (∀ m, t.closed m u = s.closed m u) ∧ t.view = s.view ∧ t.link = s.link ∧ t.tx = s.tx) ∧
  (∀ (s : State) (w e : Nat) (u : Trunk) (ses : Session) (i : Fin 2), s.running = true → s.session u = some ses →
     ses.state = .recallBreak → ses.breakTimer = some e → e ≤ max s.now w / 64 → (s.sender i).trunk = some u →
     (s.sender i).state = .recallWait → (∀ j, j ≠ i → (s.sender j).trunk ≠ some u) →
     ∃ t, exec (.breakTimer w u) s = .next t ∧
       t.session u = some { ses with state := .established, breakTimer := none } ∧ t.sup.seize[u] = true ∧
       t.sender i = { s.sender i with
         state := .recallSilence, source := none, code := none, endsAt := max s.now w + 300 * 64, output := 512 } ∧
       t.scan = s.scan ∧ t.dec = s.dec ∧ t.lko = s.lko ∧ t.link = s.link ∧ t.tx = s.tx ∧ t.view = s.view ∧
       t.hunt = s.hunt ∧ t.ctl = s.ctl ∧ t.iso = s.iso ∧ t.sup.inputs = s.sup.inputs)

/-- Tier 1. R164, R146: a probe interval that ends in ACTIVE asks the Hunt Unit for a probe and stops; while
another probe is asked for or under way, and in any other state, it starts again at 120 s. A probe request held in
ACTIVE while no claim is pending and no line waits is judged: its CLAIM without a line is placed if the conditions
of R133, the retirement set aside, hold of a trunk this station retires; else it is reported not made, and its
interval starts again at 120 s if this station retires the trunk (R164). -/
def Obligations.ProbesAreAskedForAndClaimed : Prop :=
  (∀ (s : State) (w e : Nat) (u : Trunk), s.running = true → s.sup.probeIntervals[u] = some e →
     e ≤ max s.now w / 64 → (s.entry u).retiredBy = some s.slot →
     (s.ctl.station = .active → s.hunt.probe = none → (∀ k, s.hunt.claim = some k → k.owner ≠ .probe) →
       (∀ v ses, s.session v = some ses → ses.purpose ≠ .probe) →
       exec (.probeInterval w u) s = .next { s.advance w with
         sup := { s.sup with probeIntervals := s.sup.probeIntervals.set u none }
         hunt := { s.hunt with probe := some u } }) ∧
     (s.ctl.station ≠ .active ∨ s.hunt.probe ≠ none ∨ (∃ k, s.hunt.claim = some k ∧ k.owner = .probe) ∨
         (∃ v ses, s.session v = some ses ∧ ses.purpose = .probe) →
       exec (.probeInterval w u) s = .next { s.advance w with
         sup := { s.sup with probeIntervals := s.sup.probeIntervals.set u (some (max s.now w / 64 + 120000)) } })) ∧
  (∀ (s : State) (w : Nat) (u : Trunk), s.running = true → s.hunt.probe = some u → s.ctl.station = .active →
     s.hunt.claim = none → s.hunt.queue = [] →
     let good := s.fitted u = true ∧ (s.entry u).holding = .free ∧
       (s.entry u).freeSince + 300 ≤ max s.now w / 64 ∧ (s.input u).busy = false ∧
       (s.entry u).busyMismatch = false ∧ (u = s.slot ∨ (s.peer u).heard ≠ none) ∧
       (s.entry u).retiredBy = some s.slot
     (good → exec (.probeRequest w) s = .next { s.advance w with
       tx := s.tx.place { frame := .claim u none, age := max s.now w }
       hunt := { s.hunt with probe := none, claim := some { trunk := u, owner := .probe, stage := .queued } } }) ∧
     (¬ good → exec (.probeRequest w) s = .next { s.advance w with
       hunt := { s.hunt with probe := none }
       sup := { s.sup with
         probeIntervals :=
           if (s.entry u).retiredBy = some s.slot then
             s.sup.probeIntervals.set u (some (max s.now w / 64 + 120000))
           else s.sup.probeIntervals } }))

/-- Tier 2. R168, R215: in tick 8 l + t + 1 of a shift the data output is the copy's state of line l and trunk t,
high for a closed pair, set when the tick begins and before the clock's rising edge; in tick 65 the latch is
pulsed; the data output keeps the last state it sent, and clock and latch rest low between shifts. That a pulse
fills the second half of its tick is the model's (log entry 10). 65 ticks after a shift began its copy is latched,
and a further shift, with the states as they now stand, begins exactly if a change called for one meanwhile. -/
def Obligations.CrosspointShiftEndsInALatch : Prop :=
  (∀ s : State,
     (s.sup.shift = none → s.portDataNow = s.sup.portData ∧ s.portClocks = false ∧ s.portLatches = false) ∧
     (∀ (sh : Shift) (d : Nat), s.sup.shift = some sh → s.now = sh.start + d →
       (∀ (l : Line) (u : Trunk), d / 8 = 8 * l.val + u.val →
         s.portDataNow = sh.copy[pairIndex l u] ∧ s.portClocks = decide (4 ≤ d % 8) ∧ s.portLatches = false) ∧
       (64 ≤ d / 8 → s.portDataNow = sh.copy[63] ∧ s.portClocks = false ∧
         s.portLatches = (decide (d / 8 = 64) && decide (4 ≤ d % 8))))) ∧
  (∀ (s : State) (w : Nat) (sh : Shift), s.inReset = false → s.sup.shift = some sh →
     sh.start + 65 * 8 ≤ max s.now w →
     exec (.crosspointShiftEnd w) s = .next { s.advance w with
       sup := { s.sup with
         latched := some sh.copy
         portData := sh.copy[63]
         shift := if sh.again then some { start := max s.now w, copy := s.sup.points, again := false } else none } })

/-! ## Senders -/

/-- Tier 2. R178, R184, R185: a burst has 8 samples for each ms of its profile, sample j at j ticks of 8 kHz after
the moment its sender entered TONE. Sample 0 uses the phases as they stand; each sample after the last one formed
adds the code's increments, so that a burst begun from phase 0 has j times the increments at sample j. The output
code is 3 times the low sine value plus 4 times the high one, halved toward minus infinity, plus 512, with no wrap.
Nothing but the sender changes, and at a moment that is none of the burst's samples to come nothing does. That a
sample whose row did not come adds its increments at the next one is the model's (log entry 7). R176, R178: at the
end of a burst the sender is in GAP for the profile's silence, its output 512. R180, R56: at the end of a recall
silence the RECALL is removed, first-digit-sent is set and, the digit behind it being next, its burst begins. -/
def Obligations.BurstsSoundAndEnd : Prop :=
  (∀ (s : State) (w : Nat) (i : Fin 2) (code : Code), s.running = true → (s.sender i).state = .tone →
     (s.sender i).code = some code →
     let n := 8 * (match s.ctl.straps.profile with | 0 => 80 | 1 => 60 | 2 => 100 | 3 => 50)
     let x := s.sender i
     let here : Nat → Prop := fun j => x.samples ≤ j ∧ j < n ∧ x.endsAt + 8 * j = max s.now w + 8 * n
     (∀ j, here j →
       let raised : BitVec 16 → BitVec 16 → Nat := fun phase inc =>
         (phase.toNat + (j - (x.samples - 1)) * inc.toNat) % 65536
       let low := raised x.lowPhase (lowIncrement code.row)
       let high := raised x.highPhase (highIncrement code.column)
       (x.lowPhase.toNat = (x.samples - 1) * (lowIncrement code.row).toNat % 65536 →
         low = j * (lowIncrement code.row).toNat % 65536) ∧
       (x.highPhase.toNat = (x.samples - 1) * (highIncrement code.column).toNat % 65536 →
         high = j * (highIncrement code.column).toNat % 65536) ∧
       ∃ out : BitVec 10, (out.toNat : Int) = (3 * sine (low / 256) + 4 * sine (high / 256)).fdiv 2 + 512 ∧
         exec (.toneSample w i) s = .next ((s.advance w).setSender i { x with
           lowPhase := BitVec.ofNat 16 low, highPhase := BitVec.ofNat 16 high, samples := j + 1, output := out })) ∧
     ((∀ j, ¬ here j) → exec (.toneSample w i) s = .next (s.advance w))) ∧
  (∀ (s : State) (w : Nat) (i : Fin 2), s.running = true → (s.sender i).endsAt ≤ max s.now w →
     ((s.sender i).state = .tone → exec (.burstEnd w i) s = .next ((s.advance w).setSender i { s.sender i with
         state := .gap
         endsAt := max s.now w + 64 * (match s.ctl.straps.profile with | 0 => 80 | 1 => 60 | 2 => 100 | 3 => 50)
         output := 512 })) ∧
     (∀ l u e d rest, (s.sender i).state = .recallSilence → (s.sender i).line = some l → (s.sender i).trunk = some u →
       (s.sender i).source = none → (s.call l).state = .dialling → (s.call l).trunk = some u →
       (s.call l).spoiled = false → (s.call l).identitySent = true → (s.call l).queue = e :: d :: rest →
       ∀ x, d.kind = .digit x →
       ∃ t, exec (.recallSilenceEnd w i) s = .next t ∧ (t.call l).queue = d :: rest ∧
         (t.call l).firstDigitSent = true ∧ (t.sender i).state = .tone ∧ (t.sender i).source = some .entry ∧
         (t.sender i).code = some (.digit x) ∧ (t.sender i).trunk = some u ∧ t.view = s.view ∧ t.tx = s.tx ∧
         t.link = s.link ∧ t.session u = s.session u))

/-- Tier 2. R176, R177, R56, R57, R59, R181, R182: at a gap's end, places 2 to 5 of the identity block are the
shelf, slot and line digits and B; at its end identity-sent is set and in OVERLAP the audio connection made, local
dial tone off and the pair of line and trunk closed (R167); a sent entry leaves the queue and the digit behind it
is played. Where a MUTILATED entry is next the call is spoiled: queue flushed, timer stopped, the audio connection
made if it was not, the sender detached. The removal that empties the queue detaches the sender, and in EN-BLOC
makes the audio connection. -/
def Obligations.GapEndPlaysTheNextCode : Prop :=
  ∀ (s : State) (w : Nat) (i : Fin 2) (l : Line) (u : Trunk), s.running = true → (s.sender i).state = .gap →
    (s.sender i).endsAt ≤ max s.now w → (s.sender i).line = some l → (s.sender i).trunk = some u →
    (s.call l).state = .dialling → (s.call l).trunk = some u → (s.call l).spoiled = false →
    let connected : State → Prop := fun t => (t.call l).audio = true ∧ ((s.call l).audio = false → t.ldt[l] = false ∧
      ∀ ses, s.session u = some ses → ses.purpose = .line l → ses.state = .established ∨ ses.state = .recallBreak →
        t.closed l u = true)
    let parted : State → Prop := fun t => (t.sender i).line ≠ some l ∧ t.view = s.view ∧ t.link = s.link ∧ t.tx = s.tx
    (∀ p, 1 ≤ p → p ≤ 4 → (s.sender i).source = some (.identity p) → (s.call l).identitySent = false →
      ∃ t, exec (.gapEnd w i) s = .next t ∧ t.call l = s.call l ∧ t.sender i = { s.sender i with
          state := .tone
          source := some (.identity (p + 1))
          code := some (if p = 4 then .b else .digit (Fin.ofNat 10
            (if p = 1 then s.ctl.straps.shelf.val else if p = 2 then s.slot.val else l.val)))
          lowPhase := 0
          highPhase := 0
          samples := 0
          endsAt := max s.now w + 64 * (match s.ctl.straps.profile with | 0 => 80 | 1 => 60 | 2 => 100 | 3 => 50)
          output := 512 }) ∧
    ((s.sender i).source = some (.identity 5) →
      ∃ t, exec (.gapEnd w i) s = .next t ∧ (t.call l).identitySent = true ∧
        (s.ctl.straps.mode = .overlap → connected t) ∧
        t.view = s.view ∧ t.link = s.link ∧ t.tx = s.tx) ∧
    (∀ e d rest x, (s.sender i).source = some .entry → (s.call l).identitySent = true →
      (s.call l).queue = e :: d :: rest → d.kind = .digit x →
      ∃ t, exec (.gapEnd w i) s = .next t ∧ (t.call l).queue = d :: rest ∧ (t.call l).firstDigitSent = true ∧
        (t.sender i).state = .tone ∧ (t.sender i).source = some .entry ∧ (t.sender i).code = some (.digit x) ∧
        t.view = s.view ∧ t.link = s.link ∧ t.tx = s.tx) ∧
    (∀ e d rest, (s.sender i).source = some .entry → (s.call l).identitySent = true →
      (s.call l).queue = e :: d :: rest → d.kind = .mutilated →
      ∃ t, exec (.gapEnd w i) s = .next t ∧ (t.call l).spoiled = true ∧ (t.call l).queue = [] ∧
        (t.call l).dialTimer = (if (s.call l).dialTimer = .expired then .expired else .stopped) ∧ connected t ∧
        parted t) ∧
    (∀ e, (s.sender i).source = some .entry → (s.call l).identitySent = true → (s.call l).queue = [e] →
      ∃ t, exec (.gapEnd w i) s = .next t ∧ (t.call l).queue = [] ∧ (t.call l).firstDigitSent = true ∧
        (t.call l).spoiled = false ∧ (s.ctl.straps.mode = .enBloc → connected t) ∧
        (s.ctl.straps.mode = .overlap → (t.call l).audio = (s.call l).audio ∧ t.ldt[l] = s.ldt[l]) ∧ parted t)

/-- Tier 2. R173 to R175: when the arbiter has settled, the request set holds exactly the lines that want a sender,
and it is empty or no sender is free. A sender that was not free is left alone. The first grant goes to the line
that comes first in the cyclic order behind the line last granted, at sender 0 if that is free; a second, where
both were free, to the next such line on another trunk, at sender 1; the pointer moves with each grant. A grant
attaches the sender and asserts its select, and a call whose identity has not been sent begins it with code A, any
other plays the digit at its head. A grant that finds a MUTILATED entry at the head spoils its call and leaves the
sender free. That a FREE sender has no trunk, which the grants suppose, every step keeps
(EveryStepKeepsSendersAndCrosspointsExact). -/
def Obligations.ArbiterGrantsWhileASenderIsFree : Prop :=
  (∀ s : State, (∀ l, l ∈ s.settleSenders.arb.requests ↔ s.settleSenders.wantsSender l = true) ∧
     (s.settleSenders.arb.requests = [] ∨ ∀ i, (s.settleSenders.sender i).state ≠ .free) ∧
     ∀ i, (s.sender i).state ≠ .free → s.settleSenders.sender i = s.sender i) ∧
  (∀ (s : State) (l : Line) (u : Trunk), let t := s.settleSenders
     let before : Line → Line → Prop := fun a b =>
       (a.val + 7 - s.arb.pointer.val) % 8 ≤ (b.val + 7 - s.arb.pointer.val) % 8
     let plays : Line → Prop := fun m => (s.call m).identitySent = false ∨
       ∃ e rest, (s.call m).queue = e :: rest ∧ e.kind ≠ .mutilated
     let granted : Fin 2 → Line → Trunk → Prop := fun i m v =>
       (t.sender i).line = some m ∧ (t.sender i).trunk = some v ∧ (t.sender i).select = some v ∧
         ((s.call m).identitySent = false → (t.sender i).state = .tone ∧ (t.sender i).source = some (.identity 1) ∧
           (t.sender i).code = some .a ∧ (t.sender i).samples = 0) ∧
         ((s.call m).identitySent = true → ∀ e rest, (s.call m).queue = e :: rest → ∀ x, e.kind = .digit x →
           (t.sender i).state = .tone ∧ (t.sender i).source = some .entry ∧ (t.sender i).code = some (.digit x) ∧
             (t.sender i).samples = 0)
     (∀ i, (s.sender i).state = .free → (s.sender i).trunk = none) →
     s.wantsSender l = true → (s.call l).trunk = some u → (∀ m, s.wantsSender m = true → before l m) →
     (∀ i, (s.sender i).state = .free → (s.sender 0).state ≠ .free ∨ i = 0 →
       (plays l → granted i l u) ∧ (¬ plays l → (t.call l).spoiled = true)) ∧
     (∀ i, (s.sender i).state = .free → (s.sender (1 - i)).state ≠ .free → plays l → t.arb.pointer = l) ∧
     (∀ m v, (∀ i, (s.sender i).state = .free) → plays l → plays m → s.wantsSender m = true →
       (s.call m).trunk = some v → v ≠ u → (∀ k, s.wantsSender k = true → (s.call k).trunk ≠ some u → before m k) →
       granted 1 m v ∧ t.arb.pointer = m))

/-! ## The link -/

/-- Tier 2. R105: the queue offers one of its frames exactly when it holds one that the station state lets it
offer, any in ACTIVE, the REPORT alone in ISOLATED and REJOIN, and none elsewhere; no other such frame is of a
lower kind, or of its kind and older, or of its kind and age with a lower trunk. A CLAIM queued beside the REPORT of
the entry to ACTIVE from LISTEN goes before it too, though R204 calls that REPORT the first frame on the wire
(DEDUCED, log entry 22). -/
def Obligations.OfferedFrameIsTheLowestKindThenTheOldest : Prop :=
  ∀ s : State,
    let may : QFrame → Prop := fun q => q ∈ s.tx.frames ∧
      (s.ctl.station = .active ∨
        ((s.ctl.station = .isolated ∨ s.ctl.station = .rejoin) ∧ q.frame.key = .report))
    (s.offered = none ↔ ∀ q, ¬ may q) ∧
      ∀ f, s.offered = some f → ∃ q, may q ∧ q.frame = f ∧ ∀ r, may r →
        q.frame.kind < r.frame.kind ∨
          (q.frame.kind = r.frame.kind ∧ (q.age < r.age ∨
            (q.age = r.age ∧ q.frame.trunkNumber ≤ r.frame.trunkNumber)))

/-- Tier 1. R103, R104, TABLE 5-4: a frame placed under a key that the queue does not hold joins with its age the
moment it is placed; a RELEASE gives a queued one its cause and keeps its age; a RETIRE, RESTORE or REPORT replaces
the queued one of its key; a CLAIM is not taken where one is held. Under a key in flight it waits beside that
frame, or is combined by the same rows with the one that waits. No frame of another key changes. -/
def Obligations.PlacedFramesJoinTheQueueByTheirKey : Prop :=
  ∀ (s : State) (f : TxFrame),
    let t := (s.place f).tx
    let flying := ∃ x, s.tx.flight = some x ∧ x.frame.key = f.key
    let joined : QFrame → QFrame → Prop := fun old new =>
      new.frame = f ∧ new.age = (match f with | .release _ _ => old.age | _ => s.now)
    t.flight = s.tx.flight ∧
    (¬ flying → t.waiting = s.tx.waiting ∧
      ((∀ x ∈ s.tx.frames, x.frame.key ≠ f.key) → t.frames = s.tx.frames ++ [{ frame := f, age := s.now }]) ∧
      ((∃ x ∈ s.tx.frames, x.frame.key = f.key) → t.frames.length = s.tx.frames.length ∧
        ∀ i (h : i < s.tx.frames.length) (h' : i < t.frames.length),
          (s.tx.frames[i].frame.key ≠ f.key ∨ f.key = .claim → t.frames[i] = s.tx.frames[i]) ∧
          (s.tx.frames[i].frame.key = f.key → f.key ≠ .claim → joined s.tx.frames[i] t.frames[i]))) ∧
    (flying → t.frames = s.tx.frames ∧
      (f.key = .claim → t.waiting = s.tx.waiting) ∧
      (f.key ≠ .claim → ∃ new, t.waiting = some new ∧
        (s.tx.waiting = none → new = { frame := f, age := s.now }) ∧
        ∀ old, s.tx.waiting = some old → joined old new))

/-- Tier 1. R72, R88, R104, R136, R202: after 5 cells of recessive time, 4 7/8 to join, the wire still recessive,
or dominant from the edge of another station's start mark that is joined, a receiver between frames sees its
station put its offered frame on the wire, filled as the station stands, with the own-frame marker set and its
CLAIM's stage IN FLIGHT: the receiver is in START MARK, and the cell timer runs from this edge (R69). In LOOPBACK the
test frame begins. -/
def Obligations.FrameStartPutsTheOfferedFrameOnTheWire : Prop :=
  ∀ (s : State) (w : Nat) (joining : Bool), s.running = true →
    let begun : Option (List Byte) → Link := fun own => { s.link with
      rx := .startMark, own := own, mayReply := false, frameBuf := [], replyBuf := [], bits := []
      replyDriven := false, fallAt := max s.now w, fallCell := 0, edgeAt := max s.link.edgeAt (max s.now w) }
    let between := s.link.dominant = false ∧
      (s.link.rx = .idle ∨ s.link.rx = .waitEof ∨ (s.link.rx = .afterData ∧ s.link.mayReply = false))
    (s.link.mode = .loopback → s.ctl.station = .selfTest → s.ctl.testStart = none → between →
      s.link.recessiveFrom + 5 * 8 ≤ max s.now w →
      exec (.frameStart w joining) s = .next
        { s.advance w with ctl := { s.ctl with testStart := some (max s.now w) }, link := begun none }) ∧
    (s.link.mode = .wire → s.tx.flight = none → s.link.reply = none →
      between ∨ (joining = true ∧ s.link.dominant = true ∧ s.link.rx = .startMark ∧ s.link.own = none ∧
        s.link.fallAt = max s.now w) →
      s.link.recessiveFrom + (if joining then 39 else 40) ≤ max s.now w →
      (s.offered = none → exec (.frameStart w joining) s = .next (s.advance w)) ∧
      ∀ f, s.offered = some f → exec (.frameStart w joining) s = .next
        { s.advance w with
          tx := { s.tx with
            flight := some { frame := f, bytes := encodeFrame (s.onWire f), start := max s.now w } }
          link := begun (some (encodeFrame (s.onWire f)))
          hunt := if f.key = .claim then
              { s.hunt with claim := s.hunt.claim.map fun c => { c with stage := .inFlight } }
            else s.hunt })

/-- Tier 2. R68, R69, R72: in cell c of a frame in flight, counted from the start mark and timed from the wire's
last falling edge, the link pin is dominant throughout cells 0 to 2, released in cell 3, and in cell 4 + k dominant
for the first quarter if bit k is 1 and for the first three quarters if it is 0, the bits of each byte most
significant first; released behind the last. A reply has its cells alone, from its start. The pin is released with
nothing to send, in any other mode and in a reset. A falling edge of the wire 7/8 cell or more after the last one
is the transmitter's next cell. R88: the signal that the receiver reads in LOOPBACK is dominant exactly in the
cells of the test frame that the transmitter sends, whatever the link pin's level. -/
def Obligations.LinkPinCarriesTheCells : Prop :=
  (∀ (s : State) (c e : Nat), e < 8 → s.link.fallCell ≤ c →
     s.now = s.link.fallAt + (c - s.link.fallCell) * 8 + e →
     let wave : List Byte → Nat → Bool := fun bytes k =>
       decide (k / 8 < bytes.length ∧ e < if (bytes.getD (k / 8) 0).getLsbD (7 - k % 8) then 2 else 6)
     (s.inReset = true ∨ s.link.mode ≠ .wire ∨ (s.tx.flight = none ∧ s.link.reply = none) → s.linkPin = false) ∧
     (s.inReset = false → s.link.mode = .wire →
       (∀ f, s.tx.flight = some f → s.linkPin = (decide (c < 3) || (decide (4 ≤ c) && wave f.bytes (c - 4)))) ∧
       (∀ r, s.tx.flight = none → s.link.reply = some r → r.start ≤ s.now → s.linkPin = wave r.bytes c) ∧
       (∀ r, s.tx.flight = none → s.link.reply = some r → s.now < r.start → s.linkPin = false)) ∧
     (s.link.mode = .loopback → s.ctl.station = .selfTest → s.ctl.testStart.isSome = true → ∀ pin,
       s.levelSeen pin = (decide (c < 3) || (decide (4 ≤ c) && wave (match s.ctl.testFrame with
         | 1 => [85, 170, 51, 204, 1]
         | 2 => [0, 1, 2, 3, 4, 5, 6, 7, 8, 9, 10, 11, 12, 13, 14, 150]
         | _ => [240, 15, 1]) (c - 4))))) ∧
  (∀ (k : Link) (now : Nat), k.fallAt + 7 ≤ now → now < k.fallAt + 15 →
     (k.fell now).fallAt = now ∧ (k.fell now).fallCell = k.fallCell + 1)

/-- Tier 2. R78, R80, R106, R138, R139: a frame that loses arbitration in a cell where it sent a 1, the wire
dominant at the 1/2 of that cell, is counted, leaves the wire with the own-frame marker clear and stays queued, its
CLAIM's pending claim QUEUED again or, lapsed, gone; a reply that loses is dropped. R104, TABLE 5-4: a frame that
waited beside the one lost is combined with it: a RELEASE gives it its cause, any other replaces it. At any other
moment, and where the receiver sees the wire recessive, there is no loss. That START MARK, and a reply of which
nothing is read, stand for cells whose edges were not given is log entry 9. -/
def Obligations.ArbitrationLossKeepsTheFrameAndDropsTheReply : Prop :=
  ∀ (s : State) (w k : Nat), s.running = true → cellBit s.sentBytes k = some true →
    let half : Nat → Prop := fun c => s.link.fallCell + (max s.now w - s.link.fallAt) / 8 = c ∧
      (max s.now w - s.link.fallAt) % 8 = 4
    (∀ fl, s.tx.flight = some fl → half (4 + k) →
      (s.link.rx = .startMark ∧ s.link.dominant = false) ∨ (s.link.rx = .data ∧ s.link.dominant = true) →
      ∃ t, exec (.arbitrationLost w k) s = .next t ∧
        t.link = { s.link with own := none, reply := none, arbLosses := counted s.link.arbLosses } ∧
        t.tx.flight = none ∧ t.tx.waiting = none ∧ s.tx.Rejoins t.tx.frames ∧
        (∀ c, fl.frame.key = .claim → s.hunt.claim = some c → c.owner = .lapsed →
          ∀ c', t.hunt.claim = some c' → c'.owner ≠ .lapsed) ∧
        (∀ c, fl.frame.key = .claim → s.tx.waiting = none → s.hunt.claim = some c → c.owner ≠ .lapsed →
          s.ctl.station ≠ .active →
          t.hunt.claim = some { c with stage := .queued } ∧ t.tx.frames = s.tx.frames) ∧
        (∀ c l, fl.frame.key = .claim → s.tx.waiting = none → s.hunt.claim = some c → c.owner = .line l →
          s.ctl.station = .active →
          (s.advance w).candidate c.trunk = true →
          t.hunt.claim = some { c with stage := .queued } ∧ t.tx.frames = s.tx.frames) ∧
        t.ctl = s.ctl ∧ t.iso = s.iso ∧ t.scan = s.scan ∧ t.dec = s.dec ∧ t.lko = s.lko) ∧
    (∀ r, s.tx.flight = none → s.link.reply = some r → half k → s.link.rx = .reply →
      s.link.dominant = true ∨ (s.link.bits = [] ∧ s.link.replyBuf = []) →
      exec (.arbitrationLost w k) s = .next { s.advance w with
        link := { s.link with own := none, reply := none, arbLosses := counted s.link.arbLosses } }) ∧
    (¬ half (if s.tx.flight.isSome then 4 + k else k) ∨ (s.link.rx = .data ∧ s.link.dominant = false) →
      exec (.arbitrationLost w k) s = .next (s.advance w))

/-- Tier 2. R79, R83, R84, R189: a transmit error, here a 0 that found the wire recessive at the 1/2 of its cell,
is counted and raises the error run; the receiver waits for EOF and the frame is off the wire, queued still and
combined with one that waited beside it (R104, TABLE 5-4). At the eighth in a row the station is ISOLATED, its
queue flushed, its pending claim gone, its entry time and 7-s grace recorded, and the error run 0. At any other
moment, and on a dominant wire, there is no such error. That START MARK stands for cells whose edges were not given
is log entry 9. -/
def Obligations.TransmitErrorsRunToIsolation : Prop :=
  ∀ (s : State) (w k : Nat), s.running = true → s.tx.flight.isSome = true ∨ s.link.reply.isSome = true →
    cellBit s.sentBytes k = some false →
    let half : Nat → Prop := fun c => s.link.fallCell + (max s.now w - s.link.fallAt) / 8 = c ∧
      (max s.now w - s.link.fallAt) % 8 = 4
    (s.link.dominant = true ∨ ¬ half (if s.tx.flight.isSome then 4 + k else k) →
      exec (.transmitError w (.echo k)) s = .next (s.advance w)) ∧
    (s.link.dominant = false → half (if s.tx.flight.isSome then 4 + k else k) →
      (if s.tx.flight.isSome then s.link.rx = .startMark ∨ s.link.rx = .gap ∨ s.link.rx = .data
      else s.link.rx = .reply) →
    ∃ t, exec (.transmitError w (.echo k)) s = .next t ∧ t.link.rx = .waitEof ∧ t.link.own = none ∧
      t.link.reply = none ∧ t.link.txErrors = counted s.link.txErrors ∧ t.link.mode = s.link.mode ∧
      t.link.health = s.link.health ∧ t.link.rxErrors = s.link.rxErrors ∧ t.link.arbLosses = s.link.arbLosses ∧
      t.tx.flight = none ∧ t.scan.map ScanLine.integ = s.scan.map ScanLine.integ ∧ t.lko = s.lko ∧
      (s.link.errorRun < 7 → t.link.errorRun = s.link.errorRun + 1 ∧ t.ctl = s.ctl ∧ t.iso = s.iso ∧
        (∀ fl, s.tx.flight = some fl → s.tx.Rejoins t.tx.frames)) ∧
      (7 ≤ s.link.errorRun → t.link.errorRun = 0 ∧
        t.ctl = { s.ctl with
          station := .isolated, ready := true, alarm := true, listenTimer := none } ∧
        t.iso = { entryTime := some (max s.now w / 64), grace := some (max s.now w / 64 + 7000)
                  probeTimer := none, rejoinTimer := none } ∧
        t.tx = { frames := [], flight := none, waiting := none } ∧ t.hunt.claim = none ∧ t.hunt.probe = none ∧
        t.view.reportInterval = none ∧ t.sup.sessions = s.sup.sessions ∧ t.sup.seize = s.sup.seize ∧
        t.sup.points = s.sup.points))

/-- Tier 2. R83, R106, R104, R194: at its outcome, EOF for a CLAIM and EOD for any other, with no error in what the
receiver has read, a frame sent leaves the queue, the one that waited beside it joins, and the error run is 0. An
isolated probe sent while the health is GOOD takes the station into REJOIN: ALARM off, the probe timer stopped, the
rejoin timer at 4.5 s and no REPORT left in the queue. Before that mark, and in GAP, which no first cell has ended
(R73), nothing is sent. Where the edges were not given, the frame's cells are counted from its start by the cell
timer (R69, log entry 9). -/
def Obligations.FrameSentLeavesTheQueue : Prop :=
  ∀ (s : State) (w : Nat) (fl : Flight), s.running = true → s.tx.flight = some fl →
    let quiet : Nat → Prop := fun n => s.link.dominant = false ∧ s.link.recessiveFrom + n * 8 ≤ max s.now w
    let run : Nat → Prop := fun n =>
      (s.link.rx = .startMark ∧ fl.start + (4 + 8 * fl.bytes.length + n) * 8 ≤ max s.now w) ∨
        (s.link.rx = .data ∧ s.link.frameBuf = fl.bytes ∧ s.link.bits = [])
    let mark := if fl.frame.key = .claim then 4 else 2
    (s.link.rx = .gap ∨ (s.link.rx ≠ .reply ∧ ¬ quiet mark) ∨ (s.link.rx = .startMark ∧ ¬ run mark) →
      exec (.frameSent w) s = .next (s.advance w)) ∧
    (quiet mark → run mark ∨
        (if fl.frame.key = .claim then
          s.link.rx = .afterData ∨ s.link.rx = .afterReply ∨ s.link.rx = .idle ∨
            (s.link.rx = .reply ∧ s.link.reply = none ∧ s.link.bits = [] ∧ checkGood s.link.replyBuf = true)
        else s.link.rx = .afterData ∧ s.link.frameBuf = fl.bytes) →
    ∃ t, exec (.frameSent w) s = .next t ∧ t.link.errorRun = 0 ∧ t.tx.flight = none ∧ t.tx.waiting = none ∧
      t.link.rx = (if fl.frame.key = .claim then .idle else .afterData) ∧ t.link.frameBuf = fl.bytes ∧
      t.link.own = s.link.own ∧
      t.link.txErrors = s.link.txErrors ∧ t.link.rxErrors = s.link.rxErrors ∧ t.hunt = s.hunt ∧ t.view = s.view ∧
      t.calls = s.calls ∧ t.sup = s.sup ∧ t.scan = s.scan ∧ t.dec = s.dec ∧ t.lko = s.lko ∧
      (s.ctl.station = .isolated ∧ fl.frame = .report true ∧ s.link.health = .good →
        t.ctl = { s.ctl with station := .rejoin, ready := true, alarm := false } ∧
        t.iso = { s.iso with probeTimer := none, rejoinTimer := some (max s.now w / 64 + 4500) } ∧
        ∀ q ∈ t.tx.frames, q.frame.key ≠ .report) ∧
      (¬ (s.ctl.station = .isolated ∧ fl.frame = .report true ∧ s.link.health = .good) →
        t.ctl = s.ctl ∧ t.iso = s.iso ∧
        t.tx.frames = s.tx.frames.filter (fun q => q.frame.key ≠ fl.frame.key) ++ s.tx.waiting.toList))

/-- Tier 2. R83, R101, R209, R211, R212: a reply sent, at its own EOD with no error in what the receiver has read
of it, or, where no edge was given, with the time for its cells passed since its start, ends the error run and
leaves the receiver in AFTER REPLY. Before that it is not sent. An objection, a status reply and a REFUSED command
have no further effect; an acknowledged BLOCK LINE, UNBLOCK LINE, RESET PROFILE, CLEAR COUNTS for one line or, with
argument 8, for every line, the link and the view, or RESTART is carried out against the records as they stand.
That an UNBLOCK LINE's guard counts from the scan time last reached is the model's (log entry 8), as is what stands
for unseen edges (log entry 9). -/
def Obligations.LineCommandsAreCarriedOutWhenTheReplyIsSent : Prop :=
  ∀ (s : State) (w : Nat) (r : Reply), s.running = true → s.link.reply = some r →
    (r.bytes ≠ [] → s.link.rx ≠ .reply ∨ (s.link.replyBuf = [] ∧
        max s.now w < r.start + (8 * r.bytes.length + 2) * 8) → exec (.replySent w) s = .next (s.advance w)) ∧
    (s.link.rx = .reply → s.link.dominant = false → s.link.recessiveFrom + 2 * 8 ≤ max s.now w → s.link.bits = [] →
    s.link.replyBuf = r.bytes ∨
      (s.link.replyBuf = [] ∧ r.start + (8 * r.bytes.length + 2) * 8 ≤ max s.now w) →
    let b : State := { s.advance w with
      link := { s.link.recessive (max s.now w - 2 * 8) with
        rx := .afterReply, reply := none, replyBuf := r.bytes, bits := [], replyDriven := true, errorRun := 0 } }
    (r.kind = .objection ∨ r.kind = .status ∨ (∃ c a, r.kind = .command c a .refused) →
      exec (.replySent w) s = .next b) ∧
    (∀ (l : Line) (ack : Ack), ack ≠ .refused →
      (r.kind = .command 1 (octalByte l) ack →
        ((s.call l).state = .idle → exec (.replySent w) s = .next
          (((b.setCall l { s.call l with state := .blocked }).setLko l
            (decide ((s.scanLine l).loop = .closed))).setScan l { s.scanLine l with guard := .off })) ∧
        ((s.call l).state = .blocked → exec (.replySent w) s = .next b) ∧
        ((s.call l).state.inCall = true → exec (.replySent w) s = .next
          (b.setCall l { s.call l with pendingBlock := true }))) ∧
      (r.kind = .command 2 (octalByte l) ack →
        ((s.call l).state = .blocked → exec (.replySent w) s = .next
          (((b.setCall l { s.call l with state := .idle }).setLko l false).setScan l { s.scanLine l with
            guard := if (s.scanLine l).loop = .closed then .running (max s.now w / 64) else .off })) ∧
        ((s.call l).state = .idle → exec (.replySent w) s = .next b) ∧
        ((s.call l).state.inCall = true → exec (.replySent w) s = .next
          (b.setCall l { s.call l with pendingBlock := false }))) ∧
      (r.kind = .command 5 (octalByte l) ack → exec (.replySent w) s = .next
        (b.setDec l { s.decoder l with p := 100, lastM := none, lastR := none })) ∧
      (r.kind = .command 6 (octalByte l) ack → exec (.replySent w) s = .next
        (((b.setScan l { s.scanLine l with glitches := 0 }).setDec l { s.decoder l with
          noise := 0, merged := 0, doubtful := 0, recalls := 0, speed := 0, digits := 0, mutilated := 0 }).setCall l
            { s.call l with overflows := 0, lockouts := 0 })) ∧
      (r.kind = .command 6 8 ack → exec (.replySent w) s = .next { b with
        scan := s.scan.map fun x => { x with glitches := 0 }
        dec := s.dec.map fun d => { d with
          noise := 0, merged := 0, doubtful := 0, recalls := 0, speed := 0, digits := 0, mutilated := 0 }
        calls := s.calls.map fun c => { c with overflows := 0, lockouts := 0 }
        link := { b.link with rxErrors := 0, txErrors := 0, arbLosses := 0, failures := 0 }
        view := { s.view with staleReleases := 0, dualHolds := 0, probeReports := 0 } }) ∧
      (r.kind = .command 7 0 ack → exec (.replySent w) s = .next
        { b with ctl := { s.ctl with restartDue := true } })))

/-- Tier 2. R210, R163, R164: RETIRE TRUNK carried out retires a trunk that is not OWN by self, with a RETIRE of
cause maintenance and a probe interval of 120 s, and marks an OWN one to be retired at its release; RESTORE TRUNK
undoes either. No command touches an OWN entry's hold. -/
def Obligations.TrunkCommandsAreCarriedOutWhenTheReplyIsSent : Prop :=
  ∀ (s : State) (w : Nat) (r : Reply) (u : Trunk) (ack : Ack), s.running = true → s.link.reply = some r →
    s.link.rx = .reply → s.link.dominant = false → s.link.recessiveFrom + 2 * 8 ≤ max s.now w → s.link.bits = [] →
    s.link.replyBuf = r.bytes ∨
      (s.link.replyBuf = [] ∧ r.start + (8 * r.bytes.length + 2) * 8 ≤ max s.now w) →
    ack ≠ .refused → s.ctl.station = .active →
    (r.kind = .command 3 (octalByte u) ack →
      ∃ t, exec (.replySent w) s = .next t ∧ (t.entry u).holding = (s.entry u).holding ∧
        ((s.entry u).retiredBy = some s.slot → t.entry u = s.entry u ∧ t.tx = s.tx ∧ t.sup = s.sup) ∧
        ((s.entry u).retiredBy ≠ some s.slot → (s.entry u).isOwn = false →
          t.entry u = { s.entry u with retiredBy := some s.slot } ∧ t.tx.Holds (.retire u .maintenance) ∧
          t.sup.probeIntervals[u] = some (max s.now w / 64 + 120000)) ∧
        (∀ ses, (s.entry u).retiredBy ≠ some s.slot → (s.entry u).isOwn = true → s.session u = some ses →
          t.session u = some { ses with retireAtRelease := true } ∧ t.entry u = s.entry u ∧ t.tx = s.tx)) ∧
    (r.kind = .command 4 (octalByte u) ack →
      ∃ t, exec (.replySent w) s = .next t ∧ (t.entry u).holding = (s.entry u).holding ∧
        ((s.entry u).retiredBy = some s.slot → t.entry u = { s.entry u with retiredBy := none } ∧
          t.tx.Holds (.restore u) ∧ t.sup.probeIntervals[u] = none) ∧
        ((s.entry u).retiredBy ≠ some s.slot → t.entry u = s.entry u ∧ t.tx = s.tx ∧
          ∀ ses, s.session u = some ses → t.session u = some { ses with retireAtRelease := false }))

/-- Tier 2. R70, R71, R73 to R76, R81, R82, R94: what is a receive error, in the states in which each is found: the
widths, spacings, counts and bytes that a receiver refuses, a gap with no edge in time, an edge after the data or
the reply and before EOF outside the reply window, and bytes that no valid frame has. An error is one of what was
read: the width of the start mark, the time in GAP, and, where the cells were read, the cell in hand, the spacing,
the byte begun, or at EOD the cells and bytes counted; evidence that does not match is none. Outside WAIT EOF, and
with nothing of this station's on the wire, one is counted, its frame is given up, and nothing else changes, unless
a carried-out RESTART is due: then its reset begins (R212). What stands for unseen edges, and from when the wire is
recessive after the error, is the model's (log entries 7 and 9). -/
def Obligations.ReceiveErrorsAreCountedOnce : Prop :=
  (∀ (m : Bool) (n : Nat) (b : List Byte) (x : RxState), x = .data ∨ x = .reply →
     (faultIsError (.cellWidth n) x m = true ↔ n = 0 ∨ n = 4 ∨ 8 ≤ n) ∧
     (faultIsError (.edgeSpacing n) x m = true ↔ n < 7 ∨ (9 < n ∧ n < 24)) ∧
     (faultIsError (.byteBegun n) x m = true ↔ 17 ≤ n) ∧
     (faultIsError (.cellCount n) x m = true ↔ n = 0 ∨ ¬ 8 ∣ n) ∧
     (faultIsError (.checkSum b) x m = true ↔ b = [] ∨ byteSum b ≠ 255)) ∧
  (∀ (m : Bool) (n : Nat) (b : List Byte),
     (faultIsError (.startMarkWidth n) .startMark m = true ↔ n < 20 ∨ 32 < n) ∧
     (faultIsError (.gapEdge n) .gap m = true ↔ n < 7 ∨ 9 < n) ∧
     (faultIsError (.gapSilent n) .gap m = true ↔ 9 < n) ∧
     (faultIsError (.frameBytes b) .data m = true ↔
       checkGood b = true ∧ ∀ f : LinkFrame, f.valid = true → b ≠ encodeFrame f) ∧
     (faultIsError (.strayEdge n) .afterData false = true ↔ n < 32) ∧
     (faultIsError (.strayEdge n) .afterData true = true ↔ 24 < n ∧ n < 32) ∧
     (faultIsError (.strayEdge n) .reply m = true ↔ 16 ≤ n ∧ n < 32) ∧
     (faultIsError (.strayEdge n) .afterReply m = true ↔ n < 32)) ∧
  (∀ (f : LineFault) (m : Bool), faultIsError f .waitEof m = false ∧
     (faultIsError f .gap m = true → ∃ d, f = .gapEdge d ∨ f = .gapSilent d)) ∧
  (∀ (k : Link) (now n : Nat),
     (k.rx = .startMark → (k.shows (.startMarkWidth n) now = true ↔ n = now - k.fallAt)) ∧
     (k.rx = .gap →
       (k.shows (.gapEdge n) now = true ↔ k.dominant = false ∧ n = now - k.edgeAt) ∧
       (k.shows (.gapSilent n) now = true ↔ k.dominant = false ∧ n = now - k.edgeAt)) ∧
     (k.rx = .startMark → k.dominant = true →
       k.shows (.gapEdge n) now = false ∧ k.shows (.gapSilent n) now = false ∧ k.shows (.cellWidth n) now = false ∧
       k.shows (.edgeSpacing n) now = false ∧ k.shows (.byteBegun n) now = false ∧
       k.shows (.cellCount n) now = false)) ∧
  (∀ (k : Link) (now n : Nat) (b : List Byte),
     k.rx = .data ∨ (k.rx = .reply ∧ (k.dominant = true ∨ k.bits ≠ [] ∨ k.replyBuf ≠ [])) →
     let bytes := if k.rx = .data then k.frameBuf else k.replyBuf
     let eod := k.dominant = false ∧ k.recessiveFrom + 2 * 8 ≤ now
     (k.shows (.cellWidth n) now = true ↔ k.dominant = true ∧ n = now - k.fallAt) ∧
     (k.shows (.edgeSpacing n) now = true ↔ k.dominant = false ∧ n = now - k.fallAt) ∧
     (k.shows (.byteBegun n) now = true ↔ k.dominant = false ∧ k.bits = [] ∧ n = bytes.length + 1) ∧
     (k.shows (.cellCount n) now = true ↔ eod ∧ n = 8 * bytes.length + k.bits.length) ∧
     (k.shows (.checkSum b) now = true ↔ eod ∧ k.bits = [] ∧ b = bytes) ∧
     (k.shows (.frameBytes b) now = true ↔ eod ∧ k.bits = [] ∧ b = bytes)) ∧
  ∀ (s : State) (w : Nat) (f : LineFault), s.running = true → s.link.mode = .wire →
    s.tx.flight = none → s.link.reply = none → faultIsError f s.link.rx s.link.mayReply = true →
    (s.link.shows f (max s.now w) = false → exec (.receiveError w f) s = .next (s.advance w)) ∧
    (s.link.shows f (max s.now w) = true →
    (s.ctl.restartDue = false → ∃ since edge, s.link.recessiveFrom ≤ since ∧ s.link.edgeAt ≤ edge ∧
      exec (.receiveError w f) s = .next { s.advance w with
        link := { s.link with
          rx := .waitEof, mayReply := false, frameBuf := [], replyBuf := [], bits := [], own := none
          replyDriven := false, recessiveFrom := since, edgeAt := edge, rxErrors := counted s.link.rxErrors } }) ∧
    (s.ctl.restartDue = true → ∃ t, exec (.receiveError w f) s = .next t ∧ t.inReset = true ∧ t.linkPin = false ∧
      t.link.rxErrors = counted s.link.rxErrors ∧ t.ctl.ready = false ∧ t.ctl.alarm = false ∧
      (∀ u : Trunk, t.sup.seize[u] = false) ∧ ∀ i, (t.sender i).output = 512))

/-- Tier 2. R85: a wire dominant for 16 cells ends a frame or reply in progress, one being received with a receive
error, one being sent with a transmit error, and leaves the receiver in WAIT EOF; where none is in progress nothing
is counted. R86, R189: for 400 cells in one run it is counted once, the health FAILED and the station ISOLATED,
with calls, sessions, seizes and crosspoints kept (R191, R169), and the lines off-hook re-offered from LISTEN and
REJOIN (R8). R87: recessive for 8000 cells from its last edge while FAILED, the health is GOOD again and nothing
else changes. A mark comes once in each dominant run, 16 or 400 cells after its falling edge, where the receiver
has seen it. Where it has not, the wire can have been dominant so long since it was last recessive, or for 384
cells since the abort in the same run; with an edge seen in GAP or in cells that are read there is no such run.
Without its time a mark is none. What tells an unseen run from the next, and that an IDLE receiver meets the marks,
is the model's (log entry 9). -/
def Obligations.StuckWireFailsAndRecovers : Prop :=
  ∀ (s : State) (w : Nat), s.running = true → s.link.mode = .wire →
    let apart : Option Nat → Nat → Prop := fun last n => ∀ x, last = some x → x + n * 8 < max s.now w
    let quiet := s.link.recessiveFrom + (match s.link.rx with
      | .idle => 4 * 8
      | .afterData | .reply | .afterReply => 2 * 8
      | _ => 0)
    let since := max (max s.link.wireFrom quiet) (max s.link.edgeAt s.link.recessiveAt)
    let reads := s.link.rx = .gap ∨ s.link.rx = .data ∨
      (s.link.rx = .reply ∧ (s.link.bits ≠ [] ∨ s.link.replyBuf ≠ []))
    let fresh : Option Nat → Nat → Prop := fun last n =>
      if s.link.dominant then
        max s.link.fallAt s.link.wireFrom + n * 8 ≤ max s.now w ∧
          ∀ x, last = some x → x < max s.link.fallAt s.link.wireFrom
      else ¬ reads ∧ since + n * 8 ≤ max s.now w ∧ apart s.link.stuckAbort n ∧ apart s.link.stuckFailure n
    let goesOn := s.link.dominant = false ∧ s.link.rx = .waitEof ∧ ∃ a, s.link.stuckAbort = some a ∧ since ≤ a ∧
      a + 384 * 8 ≤ max s.now w ∧ ∀ x, s.link.stuckFailure = some x → x < a
    let waiting : Link := { s.link with
      rx := .waitEof, mayReply := false, frameBuf := [], replyBuf := [], bits := [], own := none, replyDriven := false
      recessiveFrom := max s.link.recessiveFrom (max s.now w), edgeAt := max s.link.edgeAt (max s.now w)
      stuckAbort := some (max s.now w) }
    (¬ fresh s.link.stuckAbort 16 → exec (.stuckDominantAbort w) s = .next (s.advance w)) ∧
    (fresh s.link.stuckAbort 16 →
      (s.tx.flight = none → s.link.reply = none →
        (s.link.rx = .idle ∨ s.link.rx = .waitEof →
          exec (.stuckDominantAbort w) s = .next { s.advance w with link := waiting }) ∧
        (s.link.rx ≠ .idle → s.link.rx ≠ .waitEof → s.ctl.restartDue = false →
          exec (.stuckDominantAbort w) s = .next { s.advance w with
            link := { waiting with rxErrors := counted s.link.rxErrors } })) ∧
      (s.tx.flight.isSome = true ∨ s.link.reply.isSome = true →
        ∃ t, exec (.stuckDominantAbort w) s = .next t ∧ t.link.rx = .waitEof ∧ t.link.own = none ∧
          t.link.reply = none ∧ t.tx.flight = none ∧ t.link.txErrors = counted s.link.txErrors ∧
          t.link.rxErrors = s.link.rxErrors ∧
          (s.link.errorRun < 7 → t.link.errorRun = s.link.errorRun + 1 ∧ t.ctl = s.ctl) ∧
          (7 ≤ s.link.errorRun → t.link.errorRun = 0 ∧ t.ctl.station = .isolated))) ∧
    (¬ fresh s.link.stuckFailure 400 → ¬ goesOn → exec (.linkFailure w) s = .next (s.advance w)) ∧
    (fresh s.link.stuckFailure 400 ∨ goesOn →
      ∃ t, exec (.linkFailure w) s = .next t ∧
        t.link = { s.link with
          recessiveFrom := max s.link.recessiveFrom (max s.now w), edgeAt := max s.link.edgeAt (max s.now w)
          stuckFailure := some (max s.now w)
          health := .failed, failures := counted s.link.failures, own := none, reply := none, errorRun := 0 } ∧
        t.ctl = { s.ctl with
          station := .isolated, ready := true, alarm := true, listenTimer := none } ∧
        t.iso = { entryTime := some (max s.now w / 64), grace := some (max s.now w / 64 + 7000)
                  probeTimer := none, rejoinTimer := none } ∧
        t.tx = { frames := [], flight := none, waiting := none } ∧ t.hunt.claim = none ∧ t.hunt.probe = none ∧
        t.view.reportInterval = none ∧ t.view.entries = s.view.entries ∧ t.view.presence = s.view.presence ∧
        t.sup.sessions = s.sup.sessions ∧ t.sup.seize = s.sup.seize ∧ t.sup.points = s.sup.points ∧
        t.senders = s.senders ∧ t.lko = s.lko ∧
        (s.ctl.station = .active ∨ s.ctl.station = .isolated → t.calls = s.calls ∧ t.dec = s.dec ∧ t.scan = s.scan ∧
          t.hunt.queue = s.hunt.queue) ∧
        (s.ctl.station = .listen ∨ s.ctl.station = .rejoin → s.Reoffers t (max s.now w / 64))) ∧
    (s.link.health = .failed → s.link.dominant = false → s.link.edgeAt + 8000 * 8 ≤ max s.now w →
      exec (.linkRecovery w) s = .next { s.advance w with link := { s.link with health := .good } })

/-- Tier 2. R75 to R77, R212: at 4 cells of recessive time the receiver of a frame, or of its reply, enters IDLE,
and a carried-out RESTART begins its reset there; from WAIT EOF, and behind a frame that takes no reply, it enters
IDLE likewise. Its buffers are given up, but for a CLAIM's, which is judged at this EOF (R99). A reply read in
part, or whose check fails, is a receive error instead, on the whole frame (R76, R81). A start mark of this station
comes a cell later at the earliest, since the recessive time is then 4 cells. The bound of the wire's last edge,
and of a reply not read, one byte at least, is the model's (log entry 9). -/
def Obligations.EndOfFrameReturnsTheReceiverToIdle : Prop :=
  ∀ (s : State) (w : Nat), s.running = true → s.link.mode = .wire → s.link.dominant = false →
    s.link.recessiveFrom + 4 * 8 ≤ max s.now w →
    let idle : Link := { s.link with
      rx := .idle, recessiveFrom := max s.link.recessiveFrom (max s.now w - 4 * 8)
      edgeAt := max s.link.edgeAt (max s.now w - 4 * 8 - 8) }
    let clear : Link := { idle with
      mayReply := false, frameBuf := [], replyBuf := [], bits := [], own := none, replyDriven := false }
    let claimed : Bool := match s.link.frameBuf with | h :: _ => h.toNat / 16 = 2 | [] => false
    let unread := s.link.bits = [] ∧ s.link.replyBuf = []
    (s.link.reply = none → (s.link.rx = .afterData ∧ s.link.mayReply = true) ∨ s.link.rx = .afterReply ∨
        (s.link.rx = .reply ∧ ((unread ∧ s.link.fallAt + (8 + 4) * 8 ≤ max s.now w) ∨
          (s.link.bits = [] ∧ checkGood s.link.replyBuf = true))) →
      (s.ctl.restartDue = false → exec (.frameEof w) s = .next { s.advance w with
        link := if claimed then { idle with mayReply := false } else clear }) ∧
      (s.ctl.restartDue = true → ∃ t, exec (.frameEof w) s = .next t ∧ t.inReset = true ∧ t.linkPin = false ∧
        (∀ u : Trunk, t.sup.seize[u] = false) ∧ t.ctl.ready = false ∧ t.ctl.alarm = false ∧
        ∀ i, (t.sender i).output = 512)) ∧
    (s.tx.flight = none → s.link.reply = none → s.ctl.restartDue = false → s.link.rx = .reply → ¬ unread →
      s.link.bits.length % 8 ≠ 0 ∨ checkGood s.link.replyBuf = false →
      ∃ t, exec (.frameEof w) s = .next t ∧ t.link.rx = .waitEof ∧ t.link.rxErrors = counted s.link.rxErrors ∧
        t.link.frameBuf = [] ∧ t.ctl = s.ctl ∧ t.view = s.view ∧ t.tx = s.tx ∧ t.calls = s.calls) ∧
    (s.tx.flight = none → s.link.reply = none →
      (s.link.rx = .waitEof ∨ (s.link.rx = .afterData ∧ s.link.mayReply = false) →
        exec (.receiverIdle w) s = .next { s.advance w with link := clear }) ∧
      (s.link.rx = .afterData → s.link.mayReply = false → s.ctl.restartDue = false → claimed = false →
        exec (.frameEof w) s = .next { s.advance w with link := clear }))

/-- Tier 2. R69 to R77, TABLE 4-3: what an edge of the wire does while nothing of this station's is on it, by the
receiver's state. In IDLE a falling edge begins a start mark; in START MARK the rising edge 20 to 32 eighths of a
cell later leads to GAP, and the falling edge 7 to 9 eighths after that to DATA; in DATA and REPLY a cell dominant
for 1 to 3 eighths is a 1 and for 5 to 7 a 0, the eighth cell completes a byte, and the recessive time runs from
the end of the cell; the next cell comes 7 to 9 eighths after the last. In AFTER DATA an edge 2 to 3 cells after
the data begins a reply, if the frame may take one. Any other edge there is a receive error. In WAIT EOF edges
count nothing, and the recessive time runs from a rising edge, for a cell of a frame that an error ended too (the
model's, log entry 24). The samples of the wire are the model's queue (log entry 20). -/
def Obligations.ReceiverReadsTheWire : Prop :=
  ∀ (s : State) (x : WireSample) (rest : List WireSample), s.running = true → s.pending = [] → s.wire = x :: rest →
    s.link.mode = .wire → s.tx.flight = none → s.link.reply = none → s.ctl.restartDue = false →
    s.link.dominant ≠ x.dominant →
    let n := max s.now x.when
    let k := s.link
    let next : Link → Prop := fun k' => step s = .next { { s with wire := rest }.advance x.when with link := k' }
    let fails := ∃ t, step s = .next t ∧ t.link.rx = .waitEof ∧ t.link.rxErrors = counted k.rxErrors ∧
      t.link.dominant = x.dominant ∧ t.ctl = s.ctl ∧ t.view = s.view ∧ t.tx = s.tx ∧ t.calls = s.calls
    let fell : Link := { k with
      dominant := true, edgeAt := n, fallAt := n, fallCell := k.fallCell + (n - k.fallAt + 1) / 8 }
    let rose : Nat → Link := fun since => { k with
      dominant := false, edgeAt := n, recessiveFrom := max k.recessiveFrom since }
    (x.dominant = true →
      (k.rx = .idle → next { k with
        rx := .startMark, mayReply := false, frameBuf := [], replyBuf := [], bits := [], own := none
        replyDriven := false, dominant := true, fallAt := n, fallCell := 0, edgeAt := max k.edgeAt n }) ∧
      (k.rx = .gap → if n - k.edgeAt < 7 ∨ 9 < n - k.edgeAt then fails else next { fell with rx := .data }) ∧
      (k.rx = .data → n - k.fallAt < 24 →
        if n - k.fallAt < 7 ∨ 9 < n - k.fallAt ∨ 16 ≤ k.frameBuf.length then fails else next fell) ∧
      (k.rx = .afterData → n - k.recessiveFrom < 32 →
        (k.mayReply = true → 16 ≤ n - k.recessiveFrom →
          if n - k.recessiveFrom ≤ 24 then next { fell with rx := .reply } else fails) ∧
        (k.mayReply = false → fails)) ∧
      (k.rx = .reply → k.bits ≠ [] ∨ k.replyBuf ≠ [] → n < k.recessiveFrom + 16 → n - k.fallAt < 24 →
        if n - k.fallAt < 7 ∨ 9 < n - k.fallAt ∨ 16 ≤ k.replyBuf.length then fails else next fell) ∧
      (k.rx = .afterReply → n - k.recessiveFrom < 32 → fails) ∧
      (k.rx = .waitEof → n < k.recessiveFrom + 32 → next fell)) ∧
    (x.dominant = false →
      (k.rx = .startMark → if n - k.fallAt < 20 ∨ 32 < n - k.fallAt then fails else next { rose n with rx := .gap }) ∧
      (k.rx = .data ∨ k.rx = .reply → n - k.fallAt = 0 ∨ n - k.fallAt = 4 ∨ 8 ≤ n - k.fallAt → fails) ∧
      (∀ b : Bool, (if b then 1 ≤ n - k.fallAt ∧ n - k.fallAt ≤ 3 else 5 ≤ n - k.fallAt ∧ n - k.fallAt ≤ 7) →
        let since := max n (k.fallAt + 8)
        (k.bits.length < 7 → k.rx = .data ∨ k.rx = .reply → next { rose since with bits := k.bits ++ [b] }) ∧
        (k.bits.length = 7 → ∃ byte : Byte, (∀ i, i < 8 → byte.getLsbD (7 - i) = (k.bits ++ [b]).getD i false) ∧
          (k.rx = .data → next { rose since with frameBuf := k.frameBuf ++ [byte], bits := [] }) ∧
          (k.rx = .reply → next { rose since with replyBuf := k.replyBuf ++ [byte], bits := [] }))) ∧
      (k.rx = .waitEof → next (rose n)))

/-- Tier 2. R81, R92 to R94, R213: a valid frame's bytes pass the check and are read back as that frame; and bytes
that pass the check and are read as a frame are that valid frame's bytes and no others. -/
def Obligations.FramesAndBytesAgree : Prop :=
  (∀ f : LinkFrame, f.valid = true → checkGood (encodeFrame f) = true ∧ parseFrame (encodeFrame f) = some f) ∧
    ∀ (bytes : List Byte) (f : LinkFrame), checkGood bytes = true → parseFrame bytes = some f →
      f.valid = true ∧ bytes = encodeFrame f

/-! ## Frames heard -/

/-- Tier 2. R113, R116, R117, R127: a peer's RELEASE frees the entry the peer holds and is stale otherwise; its
RETIRE sets retired-by unless this station has retired the trunk, and its RESTORE removes its own mark. Each
refreshes the peer's presence; for a trunk that is not fitted, it sets the peer's mismatch flag and no entry
changes. The bounds of recessive time and last edge, where the edges were not given, are the model's (log entry 9). -/
def Obligations.ReleaseRetireAndRestoreTeachTheView : Prop :=
  ∀ (s : State) (w : Nat) (p : Slot) (u : Trunk) (x : Cause), s.running = true → p ≠ s.slot →
    s.ctl.station ≠ .isolated ∨ u ≠ s.slot →
    let heard : State → List Byte → Prop := fun t bytes =>
      (t.peer p).heard = some (max s.now w / 64) ∧ (t.peer p).trunkCount = (s.peer p).trunkCount ∧
      (t.peer p).mismatch = (!s.fitted u || (s.peer p).mismatch) ∧ (∀ q, q ≠ p → t.peer q = s.peer q) ∧
      t.link = { s.link.recessive (max s.now w - 2 * 8) with
        rx := .afterData, mayReply := false, frameBuf := bytes, replyBuf := [], bits := [], replyDriven := false } ∧
      t.ctl = s.ctl ∧ t.iso = s.iso ∧ t.scan = s.scan ∧ t.dec = s.dec ∧ t.lko = s.lko ∧
      (t.entry u).failures = (s.entry u).failures ∧ (t.entry u).busyMismatch = (s.entry u).busyMismatch
    (x ≠ .maintenance → s.link.Follows (encodeFrame (.release p u x)) (max s.now w) →
      ∃ t, exec (.release w (headerSlot p) (octalByte u) x.code
          (checkByte [header 1 (headerSlot p), octalByte u, x.code])) s = .next t ∧
      heard t (encodeFrame (.release p u x)) ∧ (t.entry u).retiredBy = (s.entry u).retiredBy ∧
      (s.fitted u = true → (s.entry u).isHeldBy p = true →
        (t.entry u).holding = .free ∧ (t.entry u).freeSince = max s.now w / 64 ∧
          t.view.staleReleases = s.view.staleReleases) ∧
      (s.fitted u = true → (s.entry u).isHeldBy p = false → (t.entry u).holding = (s.entry u).holding ∧
        t.view.staleReleases = counted s.view.staleReleases) ∧
      (s.fitted u = false → (t.entry u).holding = (s.entry u).holding ∧
        t.view.staleReleases = s.view.staleReleases)) ∧
    (x = .ptsFail ∨ x = .maintenance → s.link.Follows (encodeFrame (.retire p u x)) (max s.now w) →
      ∃ t, exec (.retire w (headerSlot p) (octalByte u) x.code
          (checkByte [header 3 (headerSlot p), octalByte u, x.code])) s = .next t ∧
      heard t (encodeFrame (.retire p u x)) ∧ (t.entry u).holding = (s.entry u).holding ∧
      (t.entry u).retiredBy = (if s.fitted u = false ∨ (s.entry u).retiredBy = some s.slot then (s.entry u).retiredBy
        else some p)) ∧
    (s.link.Follows (encodeFrame (.restore p u)) (max s.now w) → ∃ t, exec (.restore w (headerSlot p) (octalByte u)
          (checkByte [header 4 (headerSlot p), octalByte u])) s = .next t ∧
      heard t (encodeFrame (.restore p u)) ∧ (t.entry u).holding = (s.entry u).holding ∧
      (t.entry u).retiredBy = (if s.fitted u = true ∧ (s.entry u).retiredBy = some p then none
        else (s.entry u).retiredBy))

/-- Tier 2. R118 to R120, R127, R162, R193: a peer's REPORT refreshes its presence, trunk count and mismatch. Of
each fitted trunk it holds, a FREE or otherwise HELD entry becomes its own, an OWN one stays if this station's slot
is the lower and else is yielded, a line's call on it going to LOCKOUT; one it held and no longer names is freed;
its retirements are set and removed, over what a yield's release retires (R163). An isolated probe only counts, and
no entry changes, but for a take of the home trunk in ISOLATED in the same act (R125, R147). -/
def Obligations.ReportTeachesTheViewAndResolvesDualHolds : Prop :=
  ∀ (s : State) (w : Nat) (p : Slot) (n : Nat) (hm rm : Byte) (probe mm : Bool), s.running = true →
    p ≠ s.slot → 1 ≤ n → n ≤ 8 → s.link.Follows (encodeFrame (.report p n hm rm probe mm)) (max s.now w) →
    ∃ t, exec (.report w (headerSlot p) (BitVec.ofNat 8 n) hm rm (BitVec.ofNat 8 (bit probe + 2 * bit mm))
          (checkByte [header 5 (headerSlot p), BitVec.ofNat 8 n, hm, rm, BitVec.ofNat 8 (bit probe + 2 * bit mm)])) s =
        .next t ∧
      t.ctl = s.ctl ∧ t.iso = s.iso ∧ t.scan = s.scan ∧ t.link.rx = .afterData ∧ t.link.rxErrors = s.link.rxErrors ∧
      (probe = true → t.view.probeReports = counted s.view.probeReports ∧ t.view.presence = s.view.presence ∧
        t.view.dualHolds = s.view.dualHolds ∧
        ∀ u, s.ctl.station ≠ .isolated ∨ (u ≠ s.slot ∧ (s.entry s.slot).seizures ≠ 65535) →
          t.entry u = s.entry u) ∧
      (probe = false → t.peer p =
          { heard := some (max s.now w / 64), trunkCount := some n, mismatch := mm || decide (n ≠ s.n) } ∧
        (∀ q, q ≠ p → t.peer q = s.peer q) ∧ t.view.probeReports = s.view.probeReports ∧
        ∀ u, s.fitted u = true → s.ctl.station ≠ .isolated ∨ u ≠ s.slot →
          (mapHas hm u = true → (s.entry u).isHeldBy p = false → (s.entry u).isOwn = false →
            (t.entry u).holding = .held p none) ∧
          (mapHas hm u = true → (s.entry u).isOwn = true → s.slot < p →
            (t.entry u).holding = (s.entry u).holding ∧
              (t.view.dualHolds = s.view.dualHolds → s.view.dualHolds = 255)) ∧
          (mapHas hm u = true → (s.entry u).isOwn = true → p < s.slot → (t.entry u).holding = .held p none ∧
            ∀ ses, s.session u = some ses → t.session u = none ∧ t.sup.seize[u] = false ∧
              t.tx.Holds (.release u .yield) ∧
              ∀ l, ses.purpose = .line l → (t.call l).state = .lockout ∧ t.lko[l] = true) ∧
          (mapHas hm u = true → (s.entry u).isHeldBy p = true → (t.entry u).holding = (s.entry u).holding) ∧
          (mapHas hm u = false → (s.entry u).isHeldBy p = true → (t.entry u).holding = .free ∧
            (t.entry u).freeSince = max s.now w / 64) ∧
          (mapHas hm u = false → (s.entry u).isHeldBy p = false → (t.entry u).holding = (s.entry u).holding) ∧
          (if mapHas hm u = true ∧ (s.entry u).isOwn = true ∧ p < s.slot ∧ s.retireWaits u = true then
            (t.entry u).retiredBy = some s.slot
          else (t.entry u).retiredBy =
            (if mapHas rm u then (if (s.entry u).retiredBy = some s.slot then some s.slot else some p)
            else if (s.entry u).retiredBy = some p then none else (s.entry u).retiredBy)))

/-- Tier 1. R98 whole: at the EOD of a CLAIM from another slot for a fitted trunk, a station that gives replies
drives an objection of code 1 for an OWN entry and else of code 2 for a trunk it retires, two bytes with its slot,
fixed at that EOD, its first edge at that moment, 2 cells after the end of the last data cell, whether the claim is
for a line or a probe; any other CLAIM draws none. Nothing but the link's record of the frame changes. -/
def Obligations.ObjectionIsDrivenForOwnOrRetiredTrunks : Prop :=
  ∀ (s : State) (w : Nat) (p : Slot) (u : Trunk) (line : Option Line), s.running = true →
    let f := encodeFrame (.claim p u line)
    s.link.Follows f (max s.now w) →
    let c : Instr := .objection w (headerSlot p) (octalByte u) (line.elim 8 octalByte)
      (checkByte [header 2 (headerSlot p), octalByte u, line.elim 8 octalByte])
    let able := (s.ctl.station = .active ∨ s.ctl.station = .rejoin ∨
      (s.ctl.station = .isolated ∧ s.iso.grace = none)) ∧ s.fitted u = true ∧ p ≠ s.slot
    ∃ k : Link, exec c s = .next { s.advance w with link := k } ∧
      k.mode = s.link.mode ∧ k.own = none ∧ k.mayReply = true ∧ k.frameBuf = f ∧ k.errorRun = s.link.errorRun ∧
      k.rxErrors = s.link.rxErrors ∧ k.txErrors = s.link.txErrors ∧ k.health = s.link.health ∧
      (able → (s.entry u).isOwn = true → k.rx = .reply ∧
        k.fallAt = max s.now w ∧
        k.reply = some
          { bytes := withCheck [header 1 (headerSlot s.slot)], kind := .objection, start := max s.now w }) ∧
      (able → (s.entry u).isOwn = false → (s.entry u).retiredBy = some s.slot → k.rx = .reply ∧
        k.fallAt = max s.now w ∧
        k.reply = some
          { bytes := withCheck [header 2 (headerSlot s.slot)], kind := .objection, start := max s.now w }) ∧
      (¬ able ∨ ((s.entry u).isOwn = false ∧ (s.entry u).retiredBy ≠ some s.slot) →
        k.rx = .afterData ∧ k.reply = s.link.reply)

/-- Tier 2. R99, R114, R115, R120, R125, R144, R162: a peer's CLAIM that reaches EOF with no reply is effective:
the trunk's seizure count is raised, all eight being halved first at 65535, and an entry that is not OWN is HELD by
the peer for its line; an OWN one counts a dual hold. An objection of code 1 from another peer makes it HELD by the
objector, and of an OWN one is a dual hold, counted and kept by the lower slot, the higher yielding its session
with a line's call in LOCKOUT; one of code 2 makes it retired by the objector. This station's own objection, which
it drove, voids the claim and changes no entry. A refused reply teaches nothing and is a receive error. In ISOLATED
the home trunk may be taken for a line in the same act, which touches its entry and, at 65535, every seizure count
(R125, R147). -/
def Obligations.PeerClaimTeachesTheViewAtEof : Prop :=
  ∀ (s : State) (w : Nat) (p : Slot) (u : Trunk) (line : Option Line), s.running = true →
    s.link.own = none → p ≠ s.slot → s.fitted u = true →
    let c : Option (List Byte) → Instr := fun r => .claim w (headerSlot p) (octalByte u) (line.elim 8 octalByte)
      (checkByte [header 2 (headerSlot p), octalByte u, line.elim 8 octalByte]) r
    let holds : Option (List Byte) → Prop := fun r => s.link.Holds (encodeFrame (.claim p u line)) r (max s.now w)
    let counts := s.ctl.station ≠ .isolated ∨ (s.entry s.slot).seizures ≠ 65535
    let spared : Trunk → Prop := fun v => s.ctl.station ≠ .isolated ∨ (v ≠ s.slot ∧ counts)
    (holds none → ∃ t, exec (c none) s = .next t ∧ (t.peer p).heard = some (max s.now w / 64) ∧ t.link.rx = .idle ∧
      (counts ∨ u = s.slot →
        (t.entry u).seizures = (if (s.entry u).seizures = 65535 then 32768 else (s.entry u).seizures + 1)) ∧
      (∀ v, v ≠ u → spared v → t.entry v = { s.entry v with
        seizures := if (s.entry u).seizures = 65535 then (s.entry v).seizures >>> 1 else (s.entry v).seizures }) ∧
      ((s.entry u).isOwn = false → (t.entry u).holding = .held p line ∧ t.view.dualHolds = s.view.dualHolds) ∧
      ((s.entry u).isOwn = true → (t.entry u).holding = (s.entry u).holding ∧
        t.view.dualHolds = counted s.view.dualHolds) ∧
      (t.entry u).retiredBy = (s.entry u).retiredBy ∧ t.ctl = s.ctl ∧ t.scan = s.scan ∧ t.lko = s.lko) ∧
    (∀ o : Slot, o ≠ p → o ≠ s.slot →
      (holds (some (withCheck [header 1 (headerSlot o)])) →
        ∃ t, exec (c (some (withCheck [header 1 (headerSlot o)]))) s = .next t ∧
          (t.peer p).heard = some (max s.now w / 64) ∧ (t.peer o).heard = some (max s.now w / 64) ∧
          (∀ v, v ≠ u → spared v → t.entry v = s.entry v) ∧
          ((s.entry u).isOwn = false → (t.entry u).holding =
              (if (s.entry u).isHeldBy o then (s.entry u).holding else .held o none) ∧
            (counts ∨ u = s.slot → t.entry u = { s.entry u with holding := (t.entry u).holding })) ∧
          ((s.entry u).isOwn = true → t.view.dualHolds = counted s.view.dualHolds ∧
            (s.slot < o → (t.entry u).holding = (s.entry u).holding ∧ (counts ∨ u = s.slot → t.entry u = s.entry u) ∧
              ∀ ses, s.session u = some ses → ∃ x, t.session u = some x ∧ x.purpose = ses.purpose) ∧
            (o < s.slot → (t.entry u).holding = .held o none ∧
              ∀ ses, s.session u = some ses → t.session u = none ∧ t.sup.seize[u] = false ∧
                t.tx.Holds (.release u .yield) ∧
                ∀ l, ses.purpose = .line l → (t.call l).state = .lockout ∧ t.lko[l] = true))) ∧
      (holds (some (withCheck [header 2 (headerSlot o)])) →
        ∃ t, exec (c (some (withCheck [header 2 (headerSlot o)]))) s = .next t ∧
          (t.entry u).retiredBy = (if (s.entry u).retiredBy = some s.slot then some s.slot else some o) ∧
          (spared u → t.entry u = { s.entry u with retiredBy := (t.entry u).retiredBy }) ∧
          ∀ v, v ≠ u → spared v → t.entry v = s.entry v)) ∧
    (∀ code, code = 1 ∨ code = 2 → s.link.replyDriven = true →
      holds (some (withCheck [header code (headerSlot s.slot)])) →
      ∃ t, exec (c (some (withCheck [header code (headerSlot s.slot)]))) s = .next t ∧ t.link.rx = .idle ∧
        (t.peer p).heard = some (max s.now w / 64) ∧ (∀ q, q ≠ p → t.peer q = s.peer q) ∧
        t.view.dualHolds = s.view.dualHolds ∧ t.ctl = s.ctl ∧ (∀ v, spared v → t.entry v = s.entry v) ∧
        (t.entry u).retiredBy = (s.entry u).retiredBy ∧ t.scan = s.scan ∧ t.lko = s.lko) ∧
    (s.link.reply = none → s.tx.flight = none → ∀ r, holds (some r) → checkGood r = true → judgeObjection p r = none →
      ∃ t, exec (c (some r)) s = .next t ∧ t.link.rx = .waitEof ∧ t.link.rxErrors = counted s.link.rxErrors ∧
        t.view = s.view ∧ t.hunt = s.hunt ∧ t.calls = s.calls ∧ t.sup = s.sup ∧ t.tx = s.tx)

/-- Tier 2. R106, R114, R136, R142, R143, R146, R153, R154, R165: this station's own CLAIM, effective at EOF, makes
its trunk OWN and leaves the queue, and the pending claim is gone; a claim found there afterwards was placed at
this moment. For a HUNTING line, a trunk whose busy input is idle is seized: seize asserted, a session in WAIT PTS
with 3 s to answer, the call SEIZING and out of the hunt queue; a busy one is released with cause busy-conflict and
the mismatch set, the line back at the head. A claim nobody wants any more is given up with cause line-clear. A
probe is seized likewise, in PROBE WAIT, or released with cause busy-conflict and its interval started again.
Between two scan times a session counts from the one last reached (log entry 8). -/
def Obligations.OwnClaimSeizesOrGivesUpTheTrunk : Prop :=
  ∀ (s : State) (w : Nat) (u : Trunk) (line : Option Line) (k : Claim), s.running = true →
    s.link.own = some (encodeFrame (.claim s.slot u line)) →
    s.link.Holds (encodeFrame (.claim s.slot u line)) none (max s.now w) → s.hunt.claim = some k → k.trunk = u →
    s.ctl.station ≠ .isolated →
    let c : Instr := .claim w (headerSlot s.slot) (octalByte u) (line.elim 8 octalByte)
      (checkByte [header 2 (headerSlot s.slot), octalByte u, line.elim 8 octalByte]) none
    ∃ t, exec c s = .next t ∧ t.link.rx = .idle ∧ t.link.own = none ∧ t.ctl = s.ctl ∧
      (∀ k', t.hunt.claim = some k' → k'.stage = .queued) ∧
      (∀ fl, s.tx.flight = some fl → fl.frame.key = .claim → s.tx.waiting = none → t.link.errorRun = 0 ∧
        t.tx.flight = none ∧ ∀ q ∈ t.tx.frames, q.frame.key = .claim → q.age = max s.now w) ∧
      (t.entry u).seizures = (if (s.entry u).seizures = 65535 then 32768 else (s.entry u).seizures + 1) ∧
      (∀ l, k.owner = .line l → (s.call l).state = .hunting → (s.input u).busy = false →
        (t.entry u).holding = .own line ∧ t.sup.seize[u] = true ∧
        t.session u = some
          { purpose := .line l, state := .waitPts, answer := some (max s.now w / 64 + 3000), breakTimer := none,
            retireAtRelease := false, opened := max s.now w / 64 } ∧
        t.call l = { s.call l with state := .seizing, trunk := some u, huntTimer := none } ∧ l ∉ t.hunt.queue) ∧
      (∀ l, k.owner = .line l → (s.call l).state = .hunting → (s.input u).busy = true →
        (t.entry u).holding = .free ∧ (t.entry u).freeSince = max s.now w / 64 ∧ (t.entry u).busyMismatch = true ∧
        t.tx.Holds (.release u .busyConflict) ∧ t.hunt.queue = l :: s.hunt.queue.filter (· ≠ l) ∧
        t.call l = s.call l) ∧
      (k.owner = .lapsed ∨ (∃ l, k.owner = .line l ∧ (s.call l).state ≠ .hunting) →
        (t.entry u).holding = .free ∧ (t.entry u).freeSince = max s.now w / 64 ∧
        t.tx.Holds (.release u .lineClear) ∧ t.hunt.queue = s.hunt.queue) ∧
      (k.owner = .probe → (s.input u).busy = false → (t.entry u).holding = .own line ∧ t.sup.seize[u] = true ∧
        ∃ ses, t.session u = some ses ∧ ses.purpose = .probe ∧ ses.state = .probeWait ∧
          ses.answer = some (max s.now w / 64 + 3000)) ∧
      (k.owner = .probe → (s.input u).busy = true → (t.entry u).holding = .free ∧
        (t.entry u).freeSince = max s.now w / 64 ∧ (t.entry u).busyMismatch = true ∧
        t.tx.Holds (.release u .busyConflict) ∧ (s.session u = none → t.session u = none) ∧
        ((s.entry u).retiredBy = some s.slot → t.sup.probeIntervals[u] = some (max s.now w / 64 + 120000)))

/-- Tier 2. R99, R106, R136, R141, R144, R146: this station's own CLAIM that draws an objection is voided, and one
whose reply is refused ends likewise: it was sent, so it leaves the queue and the error run is 0; the pending claim
is gone, and one found afterwards was placed at this moment; nothing is seized and no count raised; the line it was
for stays HUNTING in its place, a probe's interval starts again. An objection teaches the view what it says of the
objector; a refused reply counts one receive error and teaches nothing. -/
def Obligations.OwnClaimEndsWithoutEffect : Prop :=
  ∀ (s : State) (w : Nat) (u : Trunk) (line : Option Line) (k : Claim) (reply : List Byte), s.running = true →
    s.link.own = some (encodeFrame (.claim s.slot u line)) →
    s.link.Holds (encodeFrame (.claim s.slot u line)) (some reply) (max s.now w) → s.hunt.claim = some k → k.trunk = u →
    s.ctl.station ≠ .isolated → s.tx.waiting = none → checkGood reply = true →
    (∀ fl, s.tx.flight = some fl → fl.frame.key = .claim) → s.fitted u = true → (s.entry u).isOwn = false →
    let c : Instr := .claim w (headerSlot s.slot) (octalByte u) (line.elim 8 octalByte)
      (checkByte [header 2 (headerSlot s.slot), octalByte u, line.elim 8 octalByte]) (some reply)
    ∃ t, exec c s = .next t ∧ t.link.own = none ∧ t.ctl = s.ctl ∧ t.scan = s.scan ∧ t.dec = s.dec ∧ t.lko = s.lko ∧
      (s.session u = none → t.session u = none) ∧ (s.sup.seize[u] = false → t.sup.seize[u] = false) ∧
      (t.entry u).seizures = (s.entry u).seizures ∧
      (∀ v, v ≠ u → t.entry v = s.entry v) ∧ t.hunt.queue = s.hunt.queue ∧ t.tx.flight = none ∧
      (∀ k', t.hunt.claim = some k' → k'.stage = .queued) ∧
      (s.tx.flight.isSome = true →
        t.link.errorRun = 0 ∧ ∀ q ∈ t.tx.frames, q.frame.key = .claim → q.age = max s.now w) ∧
      (∀ l, k.owner = .line l → (s.call l).state = .hunting → t.call l = s.call l) ∧
      (k.owner = .probe → (t.entry u).retiredBy = some s.slot →
        t.sup.probeIntervals[u] = some (max s.now w / 64 + 120000)) ∧
      (∀ o : Slot, reply = withCheck [header 1 (headerSlot o)] → o ≠ s.slot → t.link.rx = .idle ∧
        t.link.rxErrors = s.link.rxErrors ∧ (t.peer o).heard = some (max s.now w / 64) ∧
        t.entry u = (if (s.entry u).isHeldBy o then s.entry u else { s.entry u with holding := .held o none })) ∧
      (∀ o : Slot, reply = withCheck [header 2 (headerSlot o)] → o ≠ s.slot → t.link.rx = .idle ∧
        t.link.rxErrors = s.link.rxErrors ∧ (t.peer o).heard = some (max s.now w / 64) ∧
        t.entry u = { s.entry u with
          retiredBy := if (s.entry u).retiredBy = some s.slot then some s.slot else some o }) ∧
      (judgeObjection s.slot reply = none → t.link.rx = .waitEof ∧ t.link.rxErrors = counted s.link.rxErrors ∧
        t.entry u = s.entry u ∧ t.view = s.view)

/-- Tier 2. R76, R96, R100 to R102, R209 to R213: a STATUS REQUEST or COMMAND aimed at this station while it gives
replies draws a reply at EOD, its first edge at that moment, 2 cells after the last data cell: the page's eight
bytes, or one byte 1 DONE, 2 DEFERRED or 3 REFUSED, each with its check. A command is REFUSED outside ACTIVE and
for an unlisted code. A frame aimed elsewhere is skipped, uncounted. The bounds of recessive time and last edge,
where the edges were not given, are the model's (log entry 9). -/
def Obligations.MaintenanceFramesAreAnsweredAtEod : Prop :=
  ∀ (s : State) (w : Nat) (k : HeaderSlot) (g : Slot) (arg : Byte), s.running = true → 8 ≤ k.toNat →
    let tail : Byte → List Byte := fun code => [header 7 k, octalByte g, code, arg]
    let row : Byte → Instr → Prop := fun code c =>
      (code = 1 ∧ c = .blockLine w k (octalByte g) arg (checkByte (tail 1))) ∨
      (code = 2 ∧ c = .unblockLine w k (octalByte g) arg (checkByte (tail 2))) ∨
      (code = 3 ∧ c = .retireTrunk w k (octalByte g) arg (checkByte (tail 3))) ∨
      (code = 4 ∧ c = .restoreTrunk w k (octalByte g) arg (checkByte (tail 4))) ∨
      (code = 5 ∧ c = .resetProfile w k (octalByte g) arg (checkByte (tail 5))) ∨
      (code = 6 ∧ c = .clearCounts w k (octalByte g) arg (checkByte (tail 6))) ∨
      (code = 7 ∧ c = .restart w k (octalByte g) arg (checkByte (tail 7))) ∨
      ((code = 0 ∨ 8 ≤ code.toNat) ∧ c = .unlistedCommand w k (octalByte g) code arg (checkByte (tail code)))
    let drive : List Byte → List Byte → ReplyKind → State := fun frame bytes kind => { s.advance w with
      link := { s.link.recessive (max s.now w - 2 * 8) with
        rx := .reply, mayReply := true, frameBuf := frame, replyBuf := [], bits := [], replyDriven := false
        fallAt := max s.now w, fallCell := 0
        reply := some { bytes := withCheck bytes, kind, start := max s.now w } } }
    let skipped : State := { s.advance w with
      link := { s.link.recessive (max s.now w - 2 * 8) with
        rx := .waitEof, mayReply := false, frameBuf := [], replyBuf := [], bits := [], own := none
        replyDriven := false } }
    let able := g = s.slot ∧ (s.ctl.station = .active ∨ s.ctl.station = .rejoin ∨
      (s.ctl.station = .isolated ∧ s.iso.grace = none))
    let statusRow : Instr := .statusRequest w k (octalByte g) arg (checkByte [header 6 k, octalByte g, arg])
    (s.link.Follows (withCheck [header 6 k, octalByte g, arg]) (max s.now w) →
      (able → exec statusRow s = .next (drive (withCheck [header 6 k, octalByte g, arg]) (s.page arg) .status)) ∧
      (¬ able → exec statusRow s = .next skipped)) ∧
    ∀ code c, row code c → s.link.Follows (withCheck (tail code)) (max s.now w) →
      (¬ able → exec c s = .next skipped) ∧
      (able → ∃ ack, exec c s = .next (drive (withCheck (tail code)) [ack.byte] (.command code arg ack)) ∧
        (s.ctl.station ≠ .active ∨ code = 0 ∨ 8 ≤ code.toNat → ack = .refused) ∧
        (s.ctl.station = .active →
          (code = 1 → ack = (if 8 ≤ arg.toNat then .refused
            else if (s.call (Fin.ofNat 8 arg.toNat)).state.inCall then .deferred else .done)) ∧
          (code = 2 → ack = (if arg.toNat < 8 ∧ ((s.call (Fin.ofNat 8 arg.toNat)).state = .blocked ∨
              ((s.call (Fin.ofNat 8 arg.toNat)).state.inCall = true ∧
                (s.call (Fin.ofNat 8 arg.toNat)).pendingBlock = true)) then .done else .refused)) ∧
          (code = 3 → ack = (if s.n ≤ arg.toNat then .refused
            else if (s.entry (Fin.ofNat 8 arg.toNat)).retiredBy ≠ some s.slot ∧
              (s.entry (Fin.ofNat 8 arg.toNat)).isOwn = true then .deferred else .done)) ∧
          (code = 4 → ack = (if arg.toNat < s.n ∧ ((s.entry (Fin.ofNat 8 arg.toNat)).retiredBy = some s.slot ∨
              ((s.entry (Fin.ofNat 8 arg.toNat)).isOwn = true ∧ s.retireWaits (Fin.ofNat 8 arg.toNat) = true)) then
            .done else .refused)) ∧
          (code = 5 → ack = (if arg.toNat < 8 then .done else .refused)) ∧
          (code = 6 → ack = (if arg.toNat ≤ 8 then .done else .refused)) ∧
          (code = 7 → ack = (if arg = 0 then .done else .refused))))

/-- Tier 2. R208, R214, TABLE 12-5, TABLE 12-6: the eight bytes of pages 0 to 25, and of a page of 26 or more.
R104, R124, R213: the bytes of a REPORT at its start mark: this station's trunk count, a held map of its OWN
trunks, a retired map of those it retires, places at or above N clear, and the isolated-probe and mismatch flags,
the latter set when any slot's is. -/
def Obligations.PagesAndReportsShowTheStation : Prop :=
  ∀ s : State,
    let b : Nat → Byte := BitVec.ofNat 8
    let one : Bool → Nat := fun x => if x then 1 else 0
    let has : Byte → (Fin 8 → Bool) → Prop := fun m f => ∀ x : Fin 8, m.getLsbD x.val = f x
    let p := s.ctl.straps
    (s.page 0 =
      [0, b ((match s.ctl.station with
        | .strapCheck => 0 | .selfTest => 1 | .listen => 2 | .active => 3 | .isolated => 4 | .rejoin => 5
        | .strapFault => 6 | .testFault => 7 | .slotConflict => 8) * 16 + p.shelf.val),
       b (p.slot.val * 32 + p.trunks.val * 4 + p.start.val),
       b (s.tx.frames.length * 8 + one (decide (p.mode = .enBloc)) * 4 + p.profile.val),
       s.link.rxErrors, s.link.txErrors, s.link.arbLosses, s.link.failures]) ∧
    (∃ m1 m2 m3 m4, s.page 1 = [1, m1, m2, m3, m4, s.view.staleReleases, s.view.dualHolds, s.view.probeReports] ∧
      has m1 (fun x => decide (x ≠ s.slot) && (s.peer x).heard.isSome) ∧
      has m2 (fun x => decide (x ≠ s.slot) && (s.peer x).mismatch) ∧
      has m3 (fun x => (s.entry x).isOwn) ∧ has m4 (fun x => decide ((s.entry x).retiredBy = some s.slot))) ∧
    (∀ l : Line, s.page (b (2 + l.val)) =
      [b (2 + l.val), b ((match (s.call l).state with
        | .idle => 0 | .collecting => 1 | .hunting => 2 | .seizing => 3 | .dialling => 4 | .lockout => 5
        | .blocked => 6) * 32 + one (decide ((s.scanLine l).loop = .closed)) * 16 + one (s.call l).spoiled * 8 +
          one (s.call l).overflow * 4 + one (s.call l).audio * 2 + one (s.call l).pendingBlock),
       b ((match (s.call l).trunk with | none => 0 | some u => u.val) * 32 + (s.call l).queue.length),
       b (s.decoder l).p, (match (s.decoder l).lastR with | none => 255 | some r => b r), (s.decoder l).digits,
       (s.decoder l).mutilated, (s.call l).lockouts]) ∧
    (∀ u : Trunk, s.page (b (10 + u.val)) =
      [b (10 + u.val), b ((match (s.entry u).holding with
        | .free => 0 | .held q _ => 64 + q.val * 8 | .own _ => 128 + s.slot.val * 8) + (s.entry u).failures * 2 +
          one (s.entry u).busyMismatch),
       b ((s.entry u).seizures.toNat / 256), b ((s.entry u).seizures.toNat % 256),
       (match (s.entry u).retiredBy with | none => 255 | some q => b q.val),
       (match s.session u with
        | none => 0
        | some ses => match ses.state with
          | .waitPts => 1 | .established => 2 | .recallBreak => 3 | .probeWait => 4),
       (if u.val < s.n then b (one (s.input u).busy) else 255),
       b (if u = s.slot then 0 else one (s.peer u).heard.isSome * 16 + (s.peer u).trunkCount.getD 0)]) ∧
    (∀ l : Line, s.page (b (18 + l.val)) =
      [b (18 + l.val), (s.decoder l).noise, (s.decoder l).merged, (s.decoder l).doubtful, (s.decoder l).recalls,
       (s.decoder l).speed, (s.call l).overflows, (s.scanLine l).glitches]) ∧
    (∀ n : Byte, 26 ≤ n.toNat → s.page n = [255, 0, 0, 0, 0, 0, 0, 0]) ∧
    ∀ probe : Bool, ∃ held retired, encodeFrame (s.onWire (.report probe)) =
        withCheck [header 5 (headerSlot s.slot), b s.n, held, retired,
          b (one probe + 2 * one (decide (∃ q, (s.peer q).mismatch = true)))] ∧
      has held (fun u => decide (u.val < s.n) && (s.entry u).isOwn) ∧
      has retired (fun u => decide (u.val < s.n) && decide ((s.entry u).retiredBy = some s.slot))

/-- Tier 2. R198, R205: a RELEASE, RETIRE, RESTORE, REPORT, isolated probes among them, or CLAIM that bears this
station's slot without its own-frame marker is a slot conflict, and so is a surviving objection in this station's
slot that it did not drive: the station halts, ALARM on and READY off, with the link OFF, every queue, session,
seize and connect state cleared, the report interval stopped (R123) and the senders freed; records, counters and
the hunt queue stay. That the halt comes before the frame teaches the view is log entry 16. -/
def Obligations.OwnSlotHeardFromAnotherHalts : Prop :=
  ∀ (s : State) (w : Nat) (u : Trunk) (x : Cause), s.running = true →
    ∀ c : Instr,
      (∃ f : LinkFrame, f.valid = true ∧ s.link.Follows (encodeFrame f) (max s.now w) ∧
        ((f = .release s.slot u x ∧ c = .release w (headerSlot s.slot) (octalByte u) x.code
            (checkByte [header 1 (headerSlot s.slot), octalByte u, x.code])) ∨
          (f = .retire s.slot u x ∧ c = .retire w (headerSlot s.slot) (octalByte u) x.code
            (checkByte [header 3 (headerSlot s.slot), octalByte u, x.code])) ∨
          (f = .restore s.slot u ∧ c = .restore w (headerSlot s.slot) (octalByte u)
            (checkByte [header 4 (headerSlot s.slot), octalByte u])) ∨
          ∃ n hm rm probe mm, f = .report s.slot n hm rm probe mm ∧
            c = .report w (headerSlot s.slot) (BitVec.ofNat 8 n) hm rm (BitVec.ofNat 8 (bit probe + 2 * bit mm))
              (checkByte [header 5 (headerSlot s.slot), BitVec.ofNat 8 n, hm, rm,
                BitVec.ofNat 8 (bit probe + 2 * bit mm)]))) ∨
        (∃ p line reply, s.link.own = none ∧ s.link.Holds (encodeFrame (.claim p u line)) reply (max s.now w) ∧
          c = .claim w (headerSlot p) (octalByte u) (line.elim 8 octalByte)
            (checkByte [header 2 (headerSlot p), octalByte u, line.elim 8 octalByte]) reply ∧
          ((p = s.slot ∧ (reply = none ∨ ∃ o code, o ≠ s.slot ∧ (code = 1 ∨ code = 2) ∧
              reply = some (withCheck [header code (headerSlot o)]))) ∨
            (p ≠ s.slot ∧ s.link.replyDriven = false ∧ ∃ code, (code = 1 ∨ code = 2) ∧
              reply = some (withCheck [header code (headerSlot s.slot)])))) →
      ∃ t, exec c s = .next t ∧ t.ctl = { s.ctl with
          station := .slotConflict, ready := false, alarm := true, restartDue := false } ∧
        t.link.mode = .off ∧ t.link.own = none ∧ t.link.reply = none ∧
        t.tx = { frames := [], flight := none, waiting := none } ∧ t.hunt = { s.hunt with claim := none } ∧
        (∀ v, t.session v = none ∧ (∀ l, t.closed l v = false)) ∧ (∀ v : Trunk, t.sup.seize[v] = false) ∧
        (∀ i, (t.sender i).state = .free ∧ (t.sender i).trunk = none ∧ (t.sender i).output = 512 ∧
          (t.sender i).select = none) ∧ t.arb.requests = [] ∧
        (∀ l : Line, t.ldt[l] = false ∧ t.lko[l] = false) ∧ t.view = { s.view with reportInterval := none } ∧
        t.calls = s.calls ∧ t.dec = s.dec ∧
        t.scan = s.scan ∧ t.iso = s.iso ∧ t.sup.inputs = s.sup.inputs ∧ (∃ sh, t.sup.shift = some sh)

/-! ## The pool view, the Hunt Unit and isolation -/

/-- Tier 2. R111: a present peer not refreshed for 6.5 s becomes absent: its presence, trunk count and mismatch go,
each fitted trunk it holds becomes FREE now and each it retires is retired no longer. Every other presence stands. -/
def Obligations.AbsenceForgetsThePeer : Prop :=
  ∀ (s : State) (w h : Nat) (p : Slot), s.running = true → p ≠ s.slot → (s.peer p).heard = some h →
    h + 6500 ≤ max s.now w / 64 →
    ∃ t, exec (.absence w p) s = .next t ∧ t.peer p = { heard := none, trunkCount := none, mismatch := false } ∧
      (∀ q, q ≠ p → t.peer q = s.peer q) ∧
      (∀ u, s.fitted u = true → s.ctl.station ≠ .isolated ∨ u ≠ s.slot →
        (t.entry u).holding = (if (s.entry u).isHeldBy p then .free else (s.entry u).holding) ∧
        ((s.entry u).isHeldBy p = true → (t.entry u).freeSince = max s.now w / 64) ∧
        (t.entry u).retiredBy = (if (s.entry u).retiredBy = some p then none else (s.entry u).retiredBy)) ∧
      t.link = s.link ∧ t.ctl = s.ctl ∧ t.iso = s.iso ∧ t.scan = s.scan ∧ t.dec = s.dec ∧ t.lko = s.lko ∧
      t.sup.inputs = s.sup.inputs

/-- Tier 2. R103, R104, R123, R124, R192: the report interval in ACTIVE, and the grace and isolated-probe timers in
ISOLATED, each place a REPORT, the latter with the isolated-probe flag, in the queue and run again: the interval
and the isolated-probe timer at 2 s. Nothing else changes. -/
def Obligations.TimersPlaceTheReports : Prop :=
  ∀ (s : State) (w e : Nat), s.running = true → e ≤ max s.now w / 64 →
    (s.ctl.station = .active → s.view.reportInterval = some e →
      ∃ q : TxQueue, q.Holds (.report false) ∧ (∀ x ∈ s.tx.frames, x.frame.key ≠ .report → x ∈ q.frames) ∧
        q.flight = s.tx.flight ∧ exec (.reportInterval w) s = .next { s.advance w with
          tx := q
          view := { s.view with reportInterval := some (max s.now w / 64 + 2000) } }) ∧
    (∀ c, s.ctl.station = .isolated →
      (c = .graceTimer w ∧ s.iso.grace = some e) ∨ (c = .isolatedProbeTimer w ∧ s.iso.probeTimer = some e) →
      ∃ q : TxQueue, q.Holds (.report true) ∧ (∀ x ∈ s.tx.frames, x.frame.key ≠ .report → x ∈ q.frames) ∧
        q.flight = s.tx.flight ∧ exec c s = .next { s.advance w with
          tx := q
          iso := { s.iso with grace := none, probeTimer := some (max s.now w / 64 + 2000) } })

/-- Tier 2. R134 to R136, R147, R148: when a release guard runs out in ACTIVE, the head line gets a CLAIM for the
choice; at the 7-s and busy-quiet marks in ISOLATED, with the conditions of R147, it gets the home trunk without a
frame: OWN, its count raised, seized, the call SEIZING and out of the hunt queue. -/
def Obligations.HuntMarksServeTheHeadLine : Prop :=
  ∀ (s : State) (w : Nat) (l : Line) (rest : List Line), s.running = true → s.hunt.queue = l :: rest →
    l ∉ rest → (s.call l).state = .hunting →
    (∀ u v, s.ctl.station = .active → s.hunt.claim = none → s.fitted u = true → (s.entry u).holding = .free →
      (s.entry u).freeSince + 300 ≤ max s.now w / 64 → (s.advance w).choice = some v →
      ∃ t, exec (.releaseGuardExpiry w u) s = .next t ∧
        t.hunt = { s.hunt with claim := some { trunk := v, owner := .line l, stage := .queued } } ∧
        t.tx = s.tx.place { frame := .claim v (some l), age := max s.now w } ∧ t.view = s.view ∧
        t.call l = s.call l ∧ t.ctl = s.ctl ∧ t.link = s.link ∧ t.iso = s.iso ∧ t.scan = s.scan ∧ t.dec = s.dec) ∧
    (∀ c e i, s.ctl.station = .isolated → s.iso.entryTime = some e → s.hunt.idleSince = some i →
      e + 7000 ≤ max s.now w / 64 → i + 1000 ≤ max s.now w / 64 → s.fitted s.slot = true →
      (s.entry s.slot).holding = .free → (s.entry s.slot).retiredBy ≠ some s.slot → (s.input s.slot).busy = false →
      c = .homeTrunkMark w ∨ c = .busyQuietMark w →
      ∃ t, exec c s = .next t ∧ (t.entry s.slot).holding = .own (some l) ∧
        (t.entry s.slot).seizures =
          (if (s.entry s.slot).seizures = 65535 then 32768 else (s.entry s.slot).seizures + 1) ∧
        t.sup.seize[s.slot] = true ∧
        t.session s.slot = some { purpose := .line l, state := .waitPts,
                                  answer := some (max s.now w / 64 + 3000), breakTimer := none,
                                  retireAtRelease := false, opened := max s.now w / 64 } ∧
        t.call l = { s.call l with state := .seizing, trunk := some s.slot, huntTimer := none } ∧
        t.hunt = { s.hunt with queue := rest } ∧ t.tx = s.tx ∧ t.link = s.link ∧ t.ctl = s.ctl ∧ t.iso = s.iso)

/-- Tier 2. R135 whole: the choice is a candidate whose seizure count no candidate undercuts, the first such in the
cyclic order of the N trunks from slot mod N; there is none exactly when no trunk is a candidate. It is what the
rotated map computes. -/
def Obligations.ChoiceIsTheFirstLeastUsedCandidate : Prop :=
  ∀ s : State, s.choice = s.choiceByMap ∧ (s.choice = none ↔ ∀ u, s.candidate u = false) ∧
    ∀ u, s.choice = some u → s.candidate u = true ∧
      (∀ v, s.candidate v = true → (s.entry u).seizures.toNat ≤ (s.entry v).seizures.toNat) ∧
      ∀ v, s.candidate v = true → (s.entry v).seizures = (s.entry u).seizures →
        (u.val + s.n - s.slot.val % s.n) % s.n ≤ (v.val + s.n - s.slot.val % s.n) % s.n

/-! ## What every step keeps -/

/-- Tier 3. R16, R42, R43, R48, R22, R63, R64: every step keeps P within 60..150, the queues at 24 entries and
below 16 in COLLECTING, failure counts at 2 and pulse counts at 15, local dial tone in the decoding states and the
lockout output in LOCKOUT and BLOCKED. -/
def Obligations.EveryStepKeepsTheLinesSound : Prop :=
  ∀ s t : State, s.ProfilesInRange ∧ s.QueuesBounded ∧ s.TonesApart → step s = .next t →
    t.ProfilesInRange ∧ t.QueuesBounded ∧ t.TonesApart

/-- Tier 3. R62, R64, R67, R205, R207: every step keeps the lockout output of a line of a running station on in
LOCKOUT, on in BLOCKED while its loop is CLOSED, and off in every other state, and never on together with its local
dial tone; in a reset and in a halt it is off. -/
def Obligations.EveryStepKeepsTheLockoutOutputExact : Prop :=
  ∀ s t : State, s.LockoutTonesExact → s.TonesApart → step s = .next t →
    t.LockoutTonesExact ∧ ∀ l : Line, ¬ (t.ldt[l] = true ∧ t.lko[l] = true)

/-- Tier 3. R103, R104, R131, R136, R169: every step keeps the hunt queue exact, each HUNTING line in it once and
no other; the transmit queue at one frame for each key, with the frame in flight among them; a CLAIM in it only for
the pending claim, queued or in flight as the claim's stage says, until the outcome sent takes it from the queue;
no claim pending in ISOLATED (R140) or for a line that is not HUNTING (R138). Before the first entry to ACTIVE or
ISOLATED after a reset every call is IDLE (R45) and the hunt queue empty (R132), no trunk is OWN and no session open,
and the station has no frame (R105), no reply (R102) and no claim to send. -/
def Obligations.EveryStepKeepsTheQueuesExact : Prop :=
  ∀ s t : State, s.HuntQueueExact ∧ s.tx.Sound ∧ s.ClaimExact ∧ s.UnservedUntilActive → step s = .next t →
    t.HuntQueueExact ∧ t.tx.Sound ∧ t.ClaimExact ∧ t.UnservedUntilActive

/-- Tier 3. R205, R206: every step keeps READY and ALARM as the station state says, off in a reset, and a halted
station silent. -/
def Obligations.EveryStepKeepsTheOutputsAsTheStateSays : Prop :=
  ∀ s t : State, s.OutputsFollow ∧ s.HaltSilent → step s = .next t → t.OutputsFollow ∧ t.HaltSilent

/-- Tier 3. R109, R140, R152, TABLE 8-2: every step keeps seize asserted exactly in the session states that assert
it, a session exactly on the OWN trunks of a running station, no session under a pending claim and none pending in
ISOLATED. -/
def Obligations.EveryStepKeepsSeizuresExact : Prop :=
  ∀ s t : State, s.SeizureExact → step s = .next t → t.SeizureExact

/-- Tier 3. R52, R152, R155, R160: every step keeps a session for a line the session of its call, SEIZING or
DIALLING on that trunk. R57, R167: a pair is closed only while its line is DIALLING on that trunk with
audio-connected set, at most one of a line and one of a trunk. R159, R172, R175, R180: a FREE sender has no trunk
and no select; any other is attached to a trunk with a session for its line, its select asserted, in RECALL WAIT
exactly during a recall break; no trunk has two. R173, R174: the request set is exactly the lines that want a
sender, and none waits while a sender is free. -/
def Obligations.EveryStepKeepsSendersAndCrosspointsExact : Prop :=
  ∀ s t : State,
    s.SeizureExact ∧ s.CallsOnTrunks ∧ s.PairsExact ∧ s.SendersExact ∧ s.RequestsExact → step s = .next t →
    t.CallsOnTrunks ∧ t.PairsExact ∧ t.SendersExact ∧ t.RequestsExact

/-- Tier 1. R14, R40, R66, R90, R107, R129, R149, R170, R186, R188: every invariant stated above holds at the state
after a reset. -/
def Obligations.ResetStateIsSound : Prop :=
  State.reset.ProfilesInRange ∧ State.reset.QueuesBounded ∧ State.reset.TonesApart ∧ State.reset.HuntQueueExact ∧
    State.reset.tx.Sound ∧ State.reset.OutputsFollow ∧ State.reset.HaltSilent ∧ State.reset.SeizureExact ∧
    State.reset.LockoutTonesExact ∧ State.reset.ClaimExact ∧ State.reset.UnservedUntilActive ∧
    State.reset.CallsOnTrunks ∧ State.reset.PairsExact ∧ State.reset.SendersExact ∧ State.reset.RequestsExact
end

