-- ==== Sys2Proof/Laws/State.lean ====
section
/-! SUPPORT. Each update of State against each field: the field it writes, and the fields and the
reads of records it leaves alone. -/

namespace Sys2Proof.Machine

open Sys2Proof


section
variable (s : State) (l : Line) (x : ScanLine)
@[simp] theorem State.setScan_now : (s.setScan l x).now = s.now := rfl
@[simp] theorem State.setScan_inReset : (s.setScan l x).inReset = s.inReset := rfl
@[simp] theorem State.setScan_ctl : (s.setScan l x).ctl = s.ctl := rfl
@[simp] theorem State.setScan_iso : (s.setScan l x).iso = s.iso := rfl
@[simp] theorem State.setScan_dec : (s.setScan l x).dec = s.dec := rfl
@[simp] theorem State.setScan_calls : (s.setScan l x).calls = s.calls := rfl
@[simp] theorem State.setScan_ldt : (s.setScan l x).ldt = s.ldt := rfl
@[simp] theorem State.setScan_lko : (s.setScan l x).lko = s.lko := rfl
@[simp] theorem State.setScan_link : (s.setScan l x).link = s.link := rfl
@[simp] theorem State.setScan_tx : (s.setScan l x).tx = s.tx := rfl
@[simp] theorem State.setScan_view : (s.setScan l x).view = s.view := rfl
@[simp] theorem State.setScan_hunt : (s.setScan l x).hunt = s.hunt := rfl
@[simp] theorem State.setScan_sup : (s.setScan l x).sup = s.sup := rfl
@[simp] theorem State.setScan_senders : (s.setScan l x).senders = s.senders := rfl
@[simp] theorem State.setScan_arb : (s.setScan l x).arb = s.arb := rfl
@[simp] theorem State.setScan_freeIndex : (s.setScan l x).freeIndex = s.freeIndex := rfl
@[simp] theorem State.setScan_wire : (s.setScan l x).wire = s.wire := rfl
@[simp] theorem State.setScan_pending : (s.setScan l x).pending = s.pending := rfl
@[simp] theorem State.setScan_scanLine (m : Line) :
    (s.setScan l x).scanLine m = if m = l then x else s.scanLine m := by
  by_cases h : m = l
  · subst h; simp [State.setScan, State.scanLine]
  · have h' : l.val ≠ m.val := fun e => h (Fin.ext e.symm)
    simp [State.setScan, State.scanLine, h, Vector.getElem_set_ne _ _ h']
@[simp] theorem State.setScan_reads :
    (s.setScan l x).decoder = s.decoder ∧ (s.setScan l x).call = s.call ∧ (s.setScan l x).sender = s.sender ∧
      (s.setScan l x).entry = s.entry ∧ (s.setScan l x).peer = s.peer ∧ (s.setScan l x).session = s.session ∧
      (s.setScan l x).input = s.input ∧ (s.setScan l x).scanTime = s.scanTime ∧ (s.setScan l x).n = s.n ∧
      (s.setScan l x).slot = s.slot ∧ (s.setScan l x).running = s.running := by
  refine ⟨rfl, rfl, rfl, rfl, rfl, rfl, rfl, rfl, rfl, rfl, rfl⟩
end

section
variable (s : State) (l : Line) (x : Decoder)
@[simp] theorem State.setDec_now : (s.setDec l x).now = s.now := rfl
@[simp] theorem State.setDec_inReset : (s.setDec l x).inReset = s.inReset := rfl
@[simp] theorem State.setDec_ctl : (s.setDec l x).ctl = s.ctl := rfl
@[simp] theorem State.setDec_iso : (s.setDec l x).iso = s.iso := rfl
@[simp] theorem State.setDec_scan : (s.setDec l x).scan = s.scan := rfl
@[simp] theorem State.setDec_calls : (s.setDec l x).calls = s.calls := rfl
@[simp] theorem State.setDec_ldt : (s.setDec l x).ldt = s.ldt := rfl
@[simp] theorem State.setDec_lko : (s.setDec l x).lko = s.lko := rfl
@[simp] theorem State.setDec_link : (s.setDec l x).link = s.link := rfl
@[simp] theorem State.setDec_tx : (s.setDec l x).tx = s.tx := rfl
@[simp] theorem State.setDec_view : (s.setDec l x).view = s.view := rfl
@[simp] theorem State.setDec_hunt : (s.setDec l x).hunt = s.hunt := rfl
@[simp] theorem State.setDec_sup : (s.setDec l x).sup = s.sup := rfl
@[simp] theorem State.setDec_senders : (s.setDec l x).senders = s.senders := rfl
@[simp] theorem State.setDec_arb : (s.setDec l x).arb = s.arb := rfl
@[simp] theorem State.setDec_freeIndex : (s.setDec l x).freeIndex = s.freeIndex := rfl
@[simp] theorem State.setDec_wire : (s.setDec l x).wire = s.wire := rfl
@[simp] theorem State.setDec_pending : (s.setDec l x).pending = s.pending := rfl
@[simp] theorem State.setDec_decoder (m : Line) :
    (s.setDec l x).decoder m = if m = l then x else s.decoder m := by
  by_cases h : m = l
  · subst h; simp [State.setDec, State.decoder]
  · have h' : l.val ≠ m.val := fun e => h (Fin.ext e.symm)
    simp [State.setDec, State.decoder, h, Vector.getElem_set_ne _ _ h']
@[simp] theorem State.setDec_reads :
    (s.setDec l x).scanLine = s.scanLine ∧ (s.setDec l x).call = s.call ∧ (s.setDec l x).sender = s.sender ∧
      (s.setDec l x).entry = s.entry ∧ (s.setDec l x).peer = s.peer ∧ (s.setDec l x).session = s.session ∧
      (s.setDec l x).input = s.input ∧ (s.setDec l x).scanTime = s.scanTime ∧ (s.setDec l x).n = s.n ∧ (s.setDec l
      x).slot = s.slot ∧ (s.setDec l x).running = s.running := by
  refine ⟨rfl, rfl, rfl, rfl, rfl, rfl, rfl, rfl, rfl, rfl, rfl⟩
end

section
variable (s : State) (l : Line) (x : CallRecord)
@[simp] theorem State.setCall_now : (s.setCall l x).now = s.now := rfl
@[simp] theorem State.setCall_inReset : (s.setCall l x).inReset = s.inReset := rfl
@[simp] theorem State.setCall_ctl : (s.setCall l x).ctl = s.ctl := rfl
@[simp] theorem State.setCall_iso : (s.setCall l x).iso = s.iso := rfl
@[simp] theorem State.setCall_scan : (s.setCall l x).scan = s.scan := rfl
@[simp] theorem State.setCall_dec : (s.setCall l x).dec = s.dec := rfl
@[simp] theorem State.setCall_ldt : (s.setCall l x).ldt = s.ldt := rfl
@[simp] theorem State.setCall_lko : (s.setCall l x).lko = s.lko := rfl
@[simp] theorem State.setCall_link : (s.setCall l x).link = s.link := rfl
@[simp] theorem State.setCall_tx : (s.setCall l x).tx = s.tx := rfl
@[simp] theorem State.setCall_view : (s.setCall l x).view = s.view := rfl
@[simp] theorem State.setCall_hunt : (s.setCall l x).hunt = s.hunt := rfl
@[simp] theorem State.setCall_sup : (s.setCall l x).sup = s.sup := rfl
@[simp] theorem State.setCall_senders : (s.setCall l x).senders = s.senders := rfl
@[simp] theorem State.setCall_arb : (s.setCall l x).arb = s.arb := rfl
@[simp] theorem State.setCall_freeIndex : (s.setCall l x).freeIndex = s.freeIndex := rfl
@[simp] theorem State.setCall_wire : (s.setCall l x).wire = s.wire := rfl
@[simp] theorem State.setCall_pending : (s.setCall l x).pending = s.pending := rfl
@[simp] theorem State.setCall_call (m : Line) :
    (s.setCall l x).call m = if m = l then x else s.call m := by
  by_cases h : m = l
  · subst h; simp [State.setCall, State.call]
  · have h' : l.val ≠ m.val := fun e => h (Fin.ext e.symm)
    simp [State.setCall, State.call, h, Vector.getElem_set_ne _ _ h']
@[simp] theorem State.setCall_reads :
    (s.setCall l x).scanLine = s.scanLine ∧ (s.setCall l x).decoder = s.decoder ∧ (s.setCall l x).sender =
      s.sender ∧ (s.setCall l x).entry = s.entry ∧ (s.setCall l x).peer = s.peer ∧ (s.setCall l x).session =
      s.session ∧ (s.setCall l x).input = s.input ∧ (s.setCall l x).scanTime = s.scanTime ∧ (s.setCall l x).n =
      s.n ∧ (s.setCall l x).slot = s.slot ∧ (s.setCall l x).running = s.running := by
  refine ⟨rfl, rfl, rfl, rfl, rfl, rfl, rfl, rfl, rfl, rfl, rfl⟩
end

section
variable (s : State) (l : Line) (x : Bool)
@[simp] theorem State.setLdt_now : (s.setLdt l x).now = s.now := rfl
@[simp] theorem State.setLdt_inReset : (s.setLdt l x).inReset = s.inReset := rfl
@[simp] theorem State.setLdt_ctl : (s.setLdt l x).ctl = s.ctl := rfl
@[simp] theorem State.setLdt_iso : (s.setLdt l x).iso = s.iso := rfl
@[simp] theorem State.setLdt_scan : (s.setLdt l x).scan = s.scan := rfl
@[simp] theorem State.setLdt_dec : (s.setLdt l x).dec = s.dec := rfl
@[simp] theorem State.setLdt_calls : (s.setLdt l x).calls = s.calls := rfl
@[simp] theorem State.setLdt_lko : (s.setLdt l x).lko = s.lko := rfl
@[simp] theorem State.setLdt_link : (s.setLdt l x).link = s.link := rfl
@[simp] theorem State.setLdt_tx : (s.setLdt l x).tx = s.tx := rfl
@[simp] theorem State.setLdt_view : (s.setLdt l x).view = s.view := rfl
@[simp] theorem State.setLdt_hunt : (s.setLdt l x).hunt = s.hunt := rfl
@[simp] theorem State.setLdt_sup : (s.setLdt l x).sup = s.sup := rfl
@[simp] theorem State.setLdt_senders : (s.setLdt l x).senders = s.senders := rfl
@[simp] theorem State.setLdt_arb : (s.setLdt l x).arb = s.arb := rfl
@[simp] theorem State.setLdt_freeIndex : (s.setLdt l x).freeIndex = s.freeIndex := rfl
@[simp] theorem State.setLdt_wire : (s.setLdt l x).wire = s.wire := rfl
@[simp] theorem State.setLdt_pending : (s.setLdt l x).pending = s.pending := rfl
@[simp] theorem State.setLdt_ldt (m : Line) :
    (s.setLdt l x).ldt[m.val] = if m = l then x else s.ldt[m.val] := by
  by_cases h : m = l
  · subst h; simp [State.setLdt]
  · have h' : l.val ≠ m.val := fun e => h (Fin.ext e.symm)
    simp [State.setLdt, h, Vector.getElem_set_ne _ _ h']
@[simp] theorem State.setLdt_reads :
    (s.setLdt l x).scanLine = s.scanLine ∧ (s.setLdt l x).decoder = s.decoder ∧ (s.setLdt l x).call = s.call ∧
      (s.setLdt l x).sender = s.sender ∧ (s.setLdt l x).entry = s.entry ∧ (s.setLdt l x).peer = s.peer ∧ (s.setLdt
      l x).session = s.session ∧ (s.setLdt l x).input = s.input ∧ (s.setLdt l x).scanTime = s.scanTime ∧ (s.setLdt
      l x).n = s.n ∧ (s.setLdt l x).slot = s.slot ∧ (s.setLdt l x).running = s.running := by
  refine ⟨rfl, rfl, rfl, rfl, rfl, rfl, rfl, rfl, rfl, rfl, rfl, rfl⟩
end

section
variable (s : State) (l : Line) (x : Bool)
@[simp] theorem State.setLko_now : (s.setLko l x).now = s.now := rfl
@[simp] theorem State.setLko_inReset : (s.setLko l x).inReset = s.inReset := rfl
@[simp] theorem State.setLko_ctl : (s.setLko l x).ctl = s.ctl := rfl
@[simp] theorem State.setLko_iso : (s.setLko l x).iso = s.iso := rfl
@[simp] theorem State.setLko_scan : (s.setLko l x).scan = s.scan := rfl
@[simp] theorem State.setLko_dec : (s.setLko l x).dec = s.dec := rfl
@[simp] theorem State.setLko_calls : (s.setLko l x).calls = s.calls := rfl
@[simp] theorem State.setLko_ldt : (s.setLko l x).ldt = s.ldt := rfl
@[simp] theorem State.setLko_link : (s.setLko l x).link = s.link := rfl
@[simp] theorem State.setLko_tx : (s.setLko l x).tx = s.tx := rfl
@[simp] theorem State.setLko_view : (s.setLko l x).view = s.view := rfl
@[simp] theorem State.setLko_hunt : (s.setLko l x).hunt = s.hunt := rfl
@[simp] theorem State.setLko_sup : (s.setLko l x).sup = s.sup := rfl
@[simp] theorem State.setLko_senders : (s.setLko l x).senders = s.senders := rfl
@[simp] theorem State.setLko_arb : (s.setLko l x).arb = s.arb := rfl
@[simp] theorem State.setLko_freeIndex : (s.setLko l x).freeIndex = s.freeIndex := rfl
@[simp] theorem State.setLko_wire : (s.setLko l x).wire = s.wire := rfl
@[simp] theorem State.setLko_pending : (s.setLko l x).pending = s.pending := rfl
@[simp] theorem State.setLko_lko (m : Line) :
    (s.setLko l x).lko[m.val] = if m = l then x else s.lko[m.val] := by
  by_cases h : m = l
  · subst h; simp [State.setLko]
  · have h' : l.val ≠ m.val := fun e => h (Fin.ext e.symm)
    simp [State.setLko, h, Vector.getElem_set_ne _ _ h']
@[simp] theorem State.setLko_reads :
    (s.setLko l x).scanLine = s.scanLine ∧ (s.setLko l x).decoder = s.decoder ∧ (s.setLko l x).call = s.call ∧
      (s.setLko l x).sender = s.sender ∧ (s.setLko l x).entry = s.entry ∧ (s.setLko l x).peer = s.peer ∧ (s.setLko
      l x).session = s.session ∧ (s.setLko l x).input = s.input ∧ (s.setLko l x).scanTime = s.scanTime ∧ (s.setLko
      l x).n = s.n ∧ (s.setLko l x).slot = s.slot ∧ (s.setLko l x).running = s.running := by
  refine ⟨rfl, rfl, rfl, rfl, rfl, rfl, rfl, rfl, rfl, rfl, rfl, rfl⟩
end

section
variable (s : State) (i : Fin 2) (x : Sender)
@[simp] theorem State.setSender_now : (s.setSender i x).now = s.now := rfl
@[simp] theorem State.setSender_inReset : (s.setSender i x).inReset = s.inReset := rfl
@[simp] theorem State.setSender_ctl : (s.setSender i x).ctl = s.ctl := rfl
@[simp] theorem State.setSender_iso : (s.setSender i x).iso = s.iso := rfl
@[simp] theorem State.setSender_scan : (s.setSender i x).scan = s.scan := rfl
@[simp] theorem State.setSender_dec : (s.setSender i x).dec = s.dec := rfl
@[simp] theorem State.setSender_calls : (s.setSender i x).calls = s.calls := rfl
@[simp] theorem State.setSender_ldt : (s.setSender i x).ldt = s.ldt := rfl
@[simp] theorem State.setSender_lko : (s.setSender i x).lko = s.lko := rfl
@[simp] theorem State.setSender_link : (s.setSender i x).link = s.link := rfl
@[simp] theorem State.setSender_tx : (s.setSender i x).tx = s.tx := rfl
@[simp] theorem State.setSender_view : (s.setSender i x).view = s.view := rfl
@[simp] theorem State.setSender_hunt : (s.setSender i x).hunt = s.hunt := rfl
@[simp] theorem State.setSender_sup : (s.setSender i x).sup = s.sup := rfl
@[simp] theorem State.setSender_arb : (s.setSender i x).arb = s.arb := rfl
@[simp] theorem State.setSender_freeIndex : (s.setSender i x).freeIndex = s.freeIndex := rfl
@[simp] theorem State.setSender_wire : (s.setSender i x).wire = s.wire := rfl
@[simp] theorem State.setSender_pending : (s.setSender i x).pending = s.pending := rfl
@[simp] theorem State.setSender_sender (j : Fin 2) :
    (s.setSender i x).sender j = if j = i then x else s.sender j := by
  by_cases h : j = i
  · subst h; simp [State.setSender, State.sender]
  · have h' : i.val ≠ j.val := fun e => h (Fin.ext e.symm)
    simp [State.setSender, State.sender, h, Vector.getElem_set_ne _ _ h']
@[simp] theorem State.setSender_reads :
    (s.setSender i x).scanLine = s.scanLine ∧ (s.setSender i x).decoder = s.decoder ∧ (s.setSender i x).call =
      s.call ∧ (s.setSender i x).entry = s.entry ∧ (s.setSender i x).peer = s.peer ∧ (s.setSender i x).session =
      s.session ∧ (s.setSender i x).input = s.input ∧ (s.setSender i x).scanTime = s.scanTime ∧ (s.setSender i
      x).n = s.n ∧ (s.setSender i x).slot = s.slot ∧ (s.setSender i x).running = s.running := by
  refine ⟨rfl, rfl, rfl, rfl, rfl, rfl, rfl, rfl, rfl, rfl, rfl⟩
end

section
variable (s : State) (t : Trunk) (x : TrunkEntry)
@[simp] theorem State.setEntry_now : (s.setEntry t x).now = s.now := rfl
@[simp] theorem State.setEntry_inReset : (s.setEntry t x).inReset = s.inReset := rfl
@[simp] theorem State.setEntry_ctl : (s.setEntry t x).ctl = s.ctl := rfl
@[simp] theorem State.setEntry_iso : (s.setEntry t x).iso = s.iso := rfl
@[simp] theorem State.setEntry_scan : (s.setEntry t x).scan = s.scan := rfl
@[simp] theorem State.setEntry_dec : (s.setEntry t x).dec = s.dec := rfl
@[simp] theorem State.setEntry_calls : (s.setEntry t x).calls = s.calls := rfl
@[simp] theorem State.setEntry_ldt : (s.setEntry t x).ldt = s.ldt := rfl
@[simp] theorem State.setEntry_lko : (s.setEntry t x).lko = s.lko := rfl
@[simp] theorem State.setEntry_link : (s.setEntry t x).link = s.link := rfl
@[simp] theorem State.setEntry_tx : (s.setEntry t x).tx = s.tx := rfl
@[simp] theorem State.setEntry_hunt : (s.setEntry t x).hunt = s.hunt := rfl
@[simp] theorem State.setEntry_sup : (s.setEntry t x).sup = s.sup := rfl
@[simp] theorem State.setEntry_senders : (s.setEntry t x).senders = s.senders := rfl
@[simp] theorem State.setEntry_arb : (s.setEntry t x).arb = s.arb := rfl
@[simp] theorem State.setEntry_freeIndex : (s.setEntry t x).freeIndex = s.freeIndex := rfl
@[simp] theorem State.setEntry_wire : (s.setEntry t x).wire = s.wire := rfl
@[simp] theorem State.setEntry_pending : (s.setEntry t x).pending = s.pending := rfl
@[simp] theorem State.setEntry_entry (u : Trunk) :
    (s.setEntry t x).entry u = if u = t then x else s.entry u := by
  by_cases h : u = t
  · subst h; simp [State.setEntry, State.entry, State.setView]
  · have h' : t.val ≠ u.val := fun e => h (Fin.ext e.symm)
    simp [State.setEntry, State.entry, State.setView, h, Vector.getElem_set_ne _ _ h']
@[simp] theorem State.setEntry_view_presence : (s.setEntry t x).view.presence = s.view.presence := rfl
@[simp] theorem State.setEntry_view_reportInterval : (s.setEntry t x).view.reportInterval = s.view.reportInterval := rfl
@[simp] theorem State.setEntry_view_staleReleases : (s.setEntry t x).view.staleReleases = s.view.staleReleases := rfl
@[simp] theorem State.setEntry_view_dualHolds : (s.setEntry t x).view.dualHolds = s.view.dualHolds := rfl
@[simp] theorem State.setEntry_view_probeReports : (s.setEntry t x).view.probeReports = s.view.probeReports := rfl
@[simp] theorem State.setEntry_reads :
    (s.setEntry t x).scanLine = s.scanLine ∧ (s.setEntry t x).decoder = s.decoder ∧ (s.setEntry t x).call =
      s.call ∧ (s.setEntry t x).sender = s.sender ∧ (s.setEntry t x).session = s.session ∧ (s.setEntry t x).input
      = s.input ∧ (s.setEntry t x).scanTime = s.scanTime ∧ (s.setEntry t x).n = s.n ∧ (s.setEntry t x).slot =
      s.slot ∧ (s.setEntry t x).peer = s.peer ∧ (s.setEntry t x).running = s.running := by
  refine ⟨rfl, rfl, rfl, rfl, rfl, rfl, rfl, rfl, rfl, rfl, rfl⟩
end

section
variable (s : State) (p : Slot) (x : Presence)
@[simp] theorem State.setPeer_now : (s.setPeer p x).now = s.now := rfl
@[simp] theorem State.setPeer_inReset : (s.setPeer p x).inReset = s.inReset := rfl
@[simp] theorem State.setPeer_ctl : (s.setPeer p x).ctl = s.ctl := rfl
@[simp] theorem State.setPeer_iso : (s.setPeer p x).iso = s.iso := rfl
@[simp] theorem State.setPeer_scan : (s.setPeer p x).scan = s.scan := rfl
@[simp] theorem State.setPeer_dec : (s.setPeer p x).dec = s.dec := rfl
@[simp] theorem State.setPeer_calls : (s.setPeer p x).calls = s.calls := rfl
@[simp] theorem State.setPeer_ldt : (s.setPeer p x).ldt = s.ldt := rfl
@[simp] theorem State.setPeer_lko : (s.setPeer p x).lko = s.lko := rfl
@[simp] theorem State.setPeer_link : (s.setPeer p x).link = s.link := rfl
@[simp] theorem State.setPeer_tx : (s.setPeer p x).tx = s.tx := rfl
@[simp] theorem State.setPeer_hunt : (s.setPeer p x).hunt = s.hunt := rfl
@[simp] theorem State.setPeer_sup : (s.setPeer p x).sup = s.sup := rfl
@[simp] theorem State.setPeer_senders : (s.setPeer p x).senders = s.senders := rfl
@[simp] theorem State.setPeer_arb : (s.setPeer p x).arb = s.arb := rfl
@[simp] theorem State.setPeer_freeIndex : (s.setPeer p x).freeIndex = s.freeIndex := rfl
@[simp] theorem State.setPeer_wire : (s.setPeer p x).wire = s.wire := rfl
@[simp] theorem State.setPeer_pending : (s.setPeer p x).pending = s.pending := rfl
@[simp] theorem State.setPeer_peer (q : Slot) :
    (s.setPeer p x).peer q = if q = p then x else s.peer q := by
  by_cases h : q = p
  · subst h; simp [State.setPeer, State.peer, State.setView]
  · have h' : p.val ≠ q.val := fun e => h (Fin.ext e.symm)
    simp [State.setPeer, State.peer, State.setView, h, Vector.getElem_set_ne _ _ h']
@[simp] theorem State.setPeer_view_entries : (s.setPeer p x).view.entries = s.view.entries := rfl
@[simp] theorem State.setPeer_view_reportInterval : (s.setPeer p x).view.reportInterval = s.view.reportInterval := rfl
@[simp] theorem State.setPeer_view_staleReleases : (s.setPeer p x).view.staleReleases = s.view.staleReleases := rfl
@[simp] theorem State.setPeer_view_dualHolds : (s.setPeer p x).view.dualHolds = s.view.dualHolds := rfl
@[simp] theorem State.setPeer_view_probeReports : (s.setPeer p x).view.probeReports = s.view.probeReports := rfl
@[simp] theorem State.setPeer_reads :
    (s.setPeer p x).scanLine = s.scanLine ∧ (s.setPeer p x).decoder = s.decoder ∧ (s.setPeer p x).call = s.call
      ∧ (s.setPeer p x).sender = s.sender ∧ (s.setPeer p x).session = s.session ∧ (s.setPeer p x).input = s.input
      ∧ (s.setPeer p x).scanTime = s.scanTime ∧ (s.setPeer p x).n = s.n ∧ (s.setPeer p x).slot = s.slot ∧
      (s.setPeer p x).entry = s.entry ∧ (s.setPeer p x).running = s.running := by
  refine ⟨rfl, rfl, rfl, rfl, rfl, rfl, rfl, rfl, rfl, rfl, rfl⟩
end

section
variable (s : State) (t : Trunk) (x : Option Session)
@[simp] theorem State.setSession_now : (s.setSession t x).now = s.now := rfl
@[simp] theorem State.setSession_inReset : (s.setSession t x).inReset = s.inReset := rfl
@[simp] theorem State.setSession_ctl : (s.setSession t x).ctl = s.ctl := rfl
@[simp] theorem State.setSession_iso : (s.setSession t x).iso = s.iso := rfl
@[simp] theorem State.setSession_scan : (s.setSession t x).scan = s.scan := rfl
@[simp] theorem State.setSession_dec : (s.setSession t x).dec = s.dec := rfl
@[simp] theorem State.setSession_calls : (s.setSession t x).calls = s.calls := rfl
@[simp] theorem State.setSession_ldt : (s.setSession t x).ldt = s.ldt := rfl
@[simp] theorem State.setSession_lko : (s.setSession t x).lko = s.lko := rfl
@[simp] theorem State.setSession_link : (s.setSession t x).link = s.link := rfl
@[simp] theorem State.setSession_tx : (s.setSession t x).tx = s.tx := rfl
@[simp] theorem State.setSession_view : (s.setSession t x).view = s.view := rfl
@[simp] theorem State.setSession_hunt : (s.setSession t x).hunt = s.hunt := rfl
@[simp] theorem State.setSession_senders : (s.setSession t x).senders = s.senders := rfl
@[simp] theorem State.setSession_arb : (s.setSession t x).arb = s.arb := rfl
@[simp] theorem State.setSession_freeIndex : (s.setSession t x).freeIndex = s.freeIndex := rfl
@[simp] theorem State.setSession_wire : (s.setSession t x).wire = s.wire := rfl
@[simp] theorem State.setSession_pending : (s.setSession t x).pending = s.pending := rfl
@[simp] theorem State.setSession_session (u : Trunk) :
    (s.setSession t x).session u = if u = t then x else s.session u := by
  by_cases h : u = t
  · subst h; simp [State.setSession, State.session, State.setSup]
  · have h' : t.val ≠ u.val := fun e => h (Fin.ext e.symm)
    simp [State.setSession, State.session, State.setSup, h, Vector.getElem_set_ne _ _ h']
@[simp] theorem State.setSession_sup_inputs : (s.setSession t x).sup.inputs = s.sup.inputs := rfl
@[simp] theorem State.setSession_sup_probeIntervals : (s.setSession t x).sup.probeIntervals = s.sup.probeIntervals := rfl
@[simp] theorem State.setSession_sup_seize : (s.setSession t x).sup.seize = s.sup.seize := rfl
@[simp] theorem State.setSession_sup_points : (s.setSession t x).sup.points = s.sup.points := rfl
@[simp] theorem State.setSession_sup_shift : (s.setSession t x).sup.shift = s.sup.shift := rfl
@[simp] theorem State.setSession_sup_portData : (s.setSession t x).sup.portData = s.sup.portData := rfl
@[simp] theorem State.setSession_sup_latched : (s.setSession t x).sup.latched = s.sup.latched := rfl
@[simp] theorem State.setSession_reads :
    (s.setSession t x).scanLine = s.scanLine ∧ (s.setSession t x).decoder = s.decoder ∧ (s.setSession t x).call
      = s.call ∧ (s.setSession t x).sender = s.sender ∧ (s.setSession t x).entry = s.entry ∧ (s.setSession t
      x).peer = s.peer ∧ (s.setSession t x).scanTime = s.scanTime ∧ (s.setSession t x).n = s.n ∧ (s.setSession t
      x).slot = s.slot ∧ (s.setSession t x).input = s.input ∧ (s.setSession t x).running = s.running := by
  refine ⟨rfl, rfl, rfl, rfl, rfl, rfl, rfl, rfl, rfl, rfl, rfl⟩
end

section
variable (s : State) (t : Trunk) (x : TrunkInput)
@[simp] theorem State.setInput_now : (s.setInput t x).now = s.now := rfl
@[simp] theorem State.setInput_inReset : (s.setInput t x).inReset = s.inReset := rfl
@[simp] theorem State.setInput_ctl : (s.setInput t x).ctl = s.ctl := rfl
@[simp] theorem State.setInput_iso : (s.setInput t x).iso = s.iso := rfl
@[simp] theorem State.setInput_scan : (s.setInput t x).scan = s.scan := rfl
@[simp] theorem State.setInput_dec : (s.setInput t x).dec = s.dec := rfl
@[simp] theorem State.setInput_calls : (s.setInput t x).calls = s.calls := rfl
@[simp] theorem State.setInput_ldt : (s.setInput t x).ldt = s.ldt := rfl
@[simp] theorem State.setInput_lko : (s.setInput t x).lko = s.lko := rfl
@[simp] theorem State.setInput_link : (s.setInput t x).link = s.link := rfl
@[simp] theorem State.setInput_tx : (s.setInput t x).tx = s.tx := rfl
@[simp] theorem State.setInput_view : (s.setInput t x).view = s.view := rfl
@[simp] theorem State.setInput_hunt : (s.setInput t x).hunt = s.hunt := rfl
@[simp] theorem State.setInput_senders : (s.setInput t x).senders = s.senders := rfl
@[simp] theorem State.setInput_arb : (s.setInput t x).arb = s.arb := rfl
@[simp] theorem State.setInput_freeIndex : (s.setInput t x).freeIndex = s.freeIndex := rfl
@[simp] theorem State.setInput_wire : (s.setInput t x).wire = s.wire := rfl
@[simp] theorem State.setInput_pending : (s.setInput t x).pending = s.pending := rfl
@[simp] theorem State.setInput_input (u : Trunk) :
    (s.setInput t x).input u = if u = t then x else s.input u := by
  by_cases h : u = t
  · subst h; simp [State.setInput, State.input, State.setSup]
  · have h' : t.val ≠ u.val := fun e => h (Fin.ext e.symm)
    simp [State.setInput, State.input, State.setSup, h, Vector.getElem_set_ne _ _ h']
@[simp] theorem State.setInput_sup_sessions : (s.setInput t x).sup.sessions = s.sup.sessions := rfl
@[simp] theorem State.setInput_sup_probeIntervals : (s.setInput t x).sup.probeIntervals = s.sup.probeIntervals := rfl
@[simp] theorem State.setInput_sup_seize : (s.setInput t x).sup.seize = s.sup.seize := rfl
@[simp] theorem State.setInput_sup_points : (s.setInput t x).sup.points = s.sup.points := rfl
@[simp] theorem State.setInput_sup_shift : (s.setInput t x).sup.shift = s.sup.shift := rfl
@[simp] theorem State.setInput_sup_portData : (s.setInput t x).sup.portData = s.sup.portData := rfl
@[simp] theorem State.setInput_sup_latched : (s.setInput t x).sup.latched = s.sup.latched := rfl
@[simp] theorem State.setInput_reads :
    (s.setInput t x).scanLine = s.scanLine ∧ (s.setInput t x).decoder = s.decoder ∧ (s.setInput t x).call =
      s.call ∧ (s.setInput t x).sender = s.sender ∧ (s.setInput t x).entry = s.entry ∧ (s.setInput t x).peer =
      s.peer ∧ (s.setInput t x).scanTime = s.scanTime ∧ (s.setInput t x).n = s.n ∧ (s.setInput t x).slot = s.slot
      ∧ (s.setInput t x).session = s.session ∧ (s.setInput t x).running = s.running := by
  refine ⟨rfl, rfl, rfl, rfl, rfl, rfl, rfl, rfl, rfl, rfl, rfl⟩
end

section
variable (s : State) (t : Trunk) (x : Option Nat)
@[simp] theorem State.setProbeInterval_now : (s.setProbeInterval t x).now = s.now := rfl
@[simp] theorem State.setProbeInterval_inReset : (s.setProbeInterval t x).inReset = s.inReset := rfl
@[simp] theorem State.setProbeInterval_ctl : (s.setProbeInterval t x).ctl = s.ctl := rfl
@[simp] theorem State.setProbeInterval_iso : (s.setProbeInterval t x).iso = s.iso := rfl
@[simp] theorem State.setProbeInterval_scan : (s.setProbeInterval t x).scan = s.scan := rfl
@[simp] theorem State.setProbeInterval_dec : (s.setProbeInterval t x).dec = s.dec := rfl
@[simp] theorem State.setProbeInterval_calls : (s.setProbeInterval t x).calls = s.calls := rfl
@[simp] theorem State.setProbeInterval_ldt : (s.setProbeInterval t x).ldt = s.ldt := rfl
@[simp] theorem State.setProbeInterval_lko : (s.setProbeInterval t x).lko = s.lko := rfl
@[simp] theorem State.setProbeInterval_link : (s.setProbeInterval t x).link = s.link := rfl
@[simp] theorem State.setProbeInterval_tx : (s.setProbeInterval t x).tx = s.tx := rfl
@[simp] theorem State.setProbeInterval_view : (s.setProbeInterval t x).view = s.view := rfl
@[simp] theorem State.setProbeInterval_hunt : (s.setProbeInterval t x).hunt = s.hunt := rfl
@[simp] theorem State.setProbeInterval_senders : (s.setProbeInterval t x).senders = s.senders := rfl
@[simp] theorem State.setProbeInterval_arb : (s.setProbeInterval t x).arb = s.arb := rfl
@[simp] theorem State.setProbeInterval_freeIndex : (s.setProbeInterval t x).freeIndex = s.freeIndex := rfl
@[simp] theorem State.setProbeInterval_wire : (s.setProbeInterval t x).wire = s.wire := rfl
@[simp] theorem State.setProbeInterval_pending : (s.setProbeInterval t x).pending = s.pending := rfl
@[simp] theorem State.setProbeInterval_probeIntervals (u : Trunk) :
    (s.setProbeInterval t x).sup.probeIntervals[u.val] = if u = t then x else s.sup.probeIntervals[u.val] := by
  by_cases h : u = t
  · subst h; simp [State.setProbeInterval, State.setSup]
  · have h' : t.val ≠ u.val := fun e => h (Fin.ext e.symm)
    simp [State.setProbeInterval, State.setSup, h, Vector.getElem_set_ne _ _ h']
@[simp] theorem State.setProbeInterval_sup_sessions : (s.setProbeInterval t x).sup.sessions = s.sup.sessions := rfl
@[simp] theorem State.setProbeInterval_sup_inputs : (s.setProbeInterval t x).sup.inputs = s.sup.inputs := rfl
@[simp] theorem State.setProbeInterval_sup_seize : (s.setProbeInterval t x).sup.seize = s.sup.seize := rfl
@[simp] theorem State.setProbeInterval_sup_points : (s.setProbeInterval t x).sup.points = s.sup.points := rfl
@[simp] theorem State.setProbeInterval_sup_shift : (s.setProbeInterval t x).sup.shift = s.sup.shift := rfl
@[simp] theorem State.setProbeInterval_sup_portData : (s.setProbeInterval t x).sup.portData = s.sup.portData := rfl
@[simp] theorem State.setProbeInterval_sup_latched : (s.setProbeInterval t x).sup.latched = s.sup.latched := rfl
@[simp] theorem State.setProbeInterval_reads :
    (s.setProbeInterval t x).scanLine = s.scanLine ∧ (s.setProbeInterval t x).decoder = s.decoder ∧
      (s.setProbeInterval t x).call = s.call ∧ (s.setProbeInterval t x).sender = s.sender ∧ (s.setProbeInterval t
      x).entry = s.entry ∧ (s.setProbeInterval t x).peer = s.peer ∧ (s.setProbeInterval t x).scanTime = s.scanTime
      ∧ (s.setProbeInterval t x).n = s.n ∧ (s.setProbeInterval t x).slot = s.slot ∧ (s.setProbeInterval t
      x).session = s.session ∧ (s.setProbeInterval t x).input = s.input ∧ (s.setProbeInterval t x).running =
      s.running := by
  refine ⟨rfl, rfl, rfl, rfl, rfl, rfl, rfl, rfl, rfl, rfl, rfl, rfl⟩
end

section
variable (s : State) (t : Trunk) (x : Bool)
@[simp] theorem State.setSeize_now : (s.setSeize t x).now = s.now := rfl
@[simp] theorem State.setSeize_inReset : (s.setSeize t x).inReset = s.inReset := rfl
@[simp] theorem State.setSeize_ctl : (s.setSeize t x).ctl = s.ctl := rfl
@[simp] theorem State.setSeize_iso : (s.setSeize t x).iso = s.iso := rfl
@[simp] theorem State.setSeize_scan : (s.setSeize t x).scan = s.scan := rfl
@[simp] theorem State.setSeize_dec : (s.setSeize t x).dec = s.dec := rfl
@[simp] theorem State.setSeize_calls : (s.setSeize t x).calls = s.calls := rfl
@[simp] theorem State.setSeize_ldt : (s.setSeize t x).ldt = s.ldt := rfl
@[simp] theorem State.setSeize_lko : (s.setSeize t x).lko = s.lko := rfl
@[simp] theorem State.setSeize_link : (s.setSeize t x).link = s.link := rfl
@[simp] theorem State.setSeize_tx : (s.setSeize t x).tx = s.tx := rfl
@[simp] theorem State.setSeize_view : (s.setSeize t x).view = s.view := rfl
@[simp] theorem State.setSeize_hunt : (s.setSeize t x).hunt = s.hunt := rfl
@[simp] theorem State.setSeize_senders : (s.setSeize t x).senders = s.senders := rfl
@[simp] theorem State.setSeize_arb : (s.setSeize t x).arb = s.arb := rfl
@[simp] theorem State.setSeize_freeIndex : (s.setSeize t x).freeIndex = s.freeIndex := rfl
@[simp] theorem State.setSeize_wire : (s.setSeize t x).wire = s.wire := rfl
@[simp] theorem State.setSeize_pending : (s.setSeize t x).pending = s.pending := rfl
@[simp] theorem State.setSeize_seize (u : Trunk) :
    (s.setSeize t x).sup.seize[u.val] = if u = t then x else s.sup.seize[u.val] := by
  by_cases h : u = t
  · subst h; simp [State.setSeize, State.setSup]
  · have h' : t.val ≠ u.val := fun e => h (Fin.ext e.symm)
    simp [State.setSeize, State.setSup, h, Vector.getElem_set_ne _ _ h']
@[simp] theorem State.setSeize_sup_sessions : (s.setSeize t x).sup.sessions = s.sup.sessions := rfl
@[simp] theorem State.setSeize_sup_inputs : (s.setSeize t x).sup.inputs = s.sup.inputs := rfl
@[simp] theorem State.setSeize_sup_probeIntervals : (s.setSeize t x).sup.probeIntervals = s.sup.probeIntervals := rfl
@[simp] theorem State.setSeize_sup_points : (s.setSeize t x).sup.points = s.sup.points := rfl
@[simp] theorem State.setSeize_sup_shift : (s.setSeize t x).sup.shift = s.sup.shift := rfl
@[simp] theorem State.setSeize_sup_portData : (s.setSeize t x).sup.portData = s.sup.portData := rfl
@[simp] theorem State.setSeize_sup_latched : (s.setSeize t x).sup.latched = s.sup.latched := rfl
@[simp] theorem State.setSeize_reads :
    (s.setSeize t x).scanLine = s.scanLine ∧ (s.setSeize t x).decoder = s.decoder ∧ (s.setSeize t x).call =
      s.call ∧ (s.setSeize t x).sender = s.sender ∧ (s.setSeize t x).entry = s.entry ∧ (s.setSeize t x).peer =
      s.peer ∧ (s.setSeize t x).scanTime = s.scanTime ∧ (s.setSeize t x).n = s.n ∧ (s.setSeize t x).slot = s.slot
      ∧ (s.setSeize t x).session = s.session ∧ (s.setSeize t x).input = s.input ∧ (s.setSeize t x).running =
      s.running := by
  refine ⟨rfl, rfl, rfl, rfl, rfl, rfl, rfl, rfl, rfl, rfl, rfl, rfl⟩
end

section
variable (s : State) (x : PoolView)
@[simp] theorem State.setView_now : (s.setView x).now = s.now := rfl
@[simp] theorem State.setView_inReset : (s.setView x).inReset = s.inReset := rfl
@[simp] theorem State.setView_ctl : (s.setView x).ctl = s.ctl := rfl
@[simp] theorem State.setView_iso : (s.setView x).iso = s.iso := rfl
@[simp] theorem State.setView_scan : (s.setView x).scan = s.scan := rfl
@[simp] theorem State.setView_dec : (s.setView x).dec = s.dec := rfl
@[simp] theorem State.setView_calls : (s.setView x).calls = s.calls := rfl
@[simp] theorem State.setView_ldt : (s.setView x).ldt = s.ldt := rfl
@[simp] theorem State.setView_lko : (s.setView x).lko = s.lko := rfl
@[simp] theorem State.setView_link : (s.setView x).link = s.link := rfl
@[simp] theorem State.setView_tx : (s.setView x).tx = s.tx := rfl
@[simp] theorem State.setView_view : (s.setView x).view = x := rfl
@[simp] theorem State.setView_hunt : (s.setView x).hunt = s.hunt := rfl
@[simp] theorem State.setView_sup : (s.setView x).sup = s.sup := rfl
@[simp] theorem State.setView_senders : (s.setView x).senders = s.senders := rfl
@[simp] theorem State.setView_arb : (s.setView x).arb = s.arb := rfl
@[simp] theorem State.setView_freeIndex : (s.setView x).freeIndex = s.freeIndex := rfl
@[simp] theorem State.setView_wire : (s.setView x).wire = s.wire := rfl
@[simp] theorem State.setView_pending : (s.setView x).pending = s.pending := rfl
@[simp] theorem State.setView_reads :
    (s.setView x).scanLine = s.scanLine ∧ (s.setView x).decoder = s.decoder ∧ (s.setView x).call = s.call ∧
      (s.setView x).sender = s.sender ∧ (s.setView x).session = s.session ∧ (s.setView x).input = s.input ∧
      (s.setView x).scanTime = s.scanTime ∧ (s.setView x).n = s.n ∧ (s.setView x).slot = s.slot ∧ (s.setView
      x).running = s.running := by
  refine ⟨rfl, rfl, rfl, rfl, rfl, rfl, rfl, rfl, rfl, rfl⟩
end

section
variable (s : State) (x : Supervisor)
@[simp] theorem State.setSup_now : (s.setSup x).now = s.now := rfl
@[simp] theorem State.setSup_inReset : (s.setSup x).inReset = s.inReset := rfl
@[simp] theorem State.setSup_ctl : (s.setSup x).ctl = s.ctl := rfl
@[simp] theorem State.setSup_iso : (s.setSup x).iso = s.iso := rfl
@[simp] theorem State.setSup_scan : (s.setSup x).scan = s.scan := rfl
@[simp] theorem State.setSup_dec : (s.setSup x).dec = s.dec := rfl
@[simp] theorem State.setSup_calls : (s.setSup x).calls = s.calls := rfl
@[simp] theorem State.setSup_ldt : (s.setSup x).ldt = s.ldt := rfl
@[simp] theorem State.setSup_lko : (s.setSup x).lko = s.lko := rfl
@[simp] theorem State.setSup_link : (s.setSup x).link = s.link := rfl
@[simp] theorem State.setSup_tx : (s.setSup x).tx = s.tx := rfl
@[simp] theorem State.setSup_view : (s.setSup x).view = s.view := rfl
@[simp] theorem State.setSup_hunt : (s.setSup x).hunt = s.hunt := rfl
@[simp] theorem State.setSup_sup : (s.setSup x).sup = x := rfl
@[simp] theorem State.setSup_senders : (s.setSup x).senders = s.senders := rfl
@[simp] theorem State.setSup_arb : (s.setSup x).arb = s.arb := rfl
@[simp] theorem State.setSup_freeIndex : (s.setSup x).freeIndex = s.freeIndex := rfl
@[simp] theorem State.setSup_wire : (s.setSup x).wire = s.wire := rfl
@[simp] theorem State.setSup_pending : (s.setSup x).pending = s.pending := rfl
@[simp] theorem State.setSup_reads :
    (s.setSup x).scanLine = s.scanLine ∧ (s.setSup x).decoder = s.decoder ∧ (s.setSup x).call = s.call ∧
      (s.setSup x).sender = s.sender ∧ (s.setSup x).entry = s.entry ∧ (s.setSup x).peer = s.peer ∧ (s.setSup
      x).scanTime = s.scanTime ∧ (s.setSup x).n = s.n ∧ (s.setSup x).slot = s.slot ∧ (s.setSup x).running =
      s.running := by
  refine ⟨rfl, rfl, rfl, rfl, rfl, rfl, rfl, rfl, rfl, rfl⟩
end

section
variable (s : State) (x : Link)
@[simp] theorem State.setLink_now : (s.setLink x).now = s.now := rfl
@[simp] theorem State.setLink_inReset : (s.setLink x).inReset = s.inReset := rfl
@[simp] theorem State.setLink_ctl : (s.setLink x).ctl = s.ctl := rfl
@[simp] theorem State.setLink_iso : (s.setLink x).iso = s.iso := rfl
@[simp] theorem State.setLink_scan : (s.setLink x).scan = s.scan := rfl
@[simp] theorem State.setLink_dec : (s.setLink x).dec = s.dec := rfl
@[simp] theorem State.setLink_calls : (s.setLink x).calls = s.calls := rfl
@[simp] theorem State.setLink_ldt : (s.setLink x).ldt = s.ldt := rfl
@[simp] theorem State.setLink_lko : (s.setLink x).lko = s.lko := rfl
@[simp] theorem State.setLink_link : (s.setLink x).link = x := rfl
@[simp] theorem State.setLink_tx : (s.setLink x).tx = s.tx := rfl
@[simp] theorem State.setLink_view : (s.setLink x).view = s.view := rfl
@[simp] theorem State.setLink_hunt : (s.setLink x).hunt = s.hunt := rfl
@[simp] theorem State.setLink_sup : (s.setLink x).sup = s.sup := rfl
@[simp] theorem State.setLink_senders : (s.setLink x).senders = s.senders := rfl
@[simp] theorem State.setLink_arb : (s.setLink x).arb = s.arb := rfl
@[simp] theorem State.setLink_freeIndex : (s.setLink x).freeIndex = s.freeIndex := rfl
@[simp] theorem State.setLink_wire : (s.setLink x).wire = s.wire := rfl
@[simp] theorem State.setLink_pending : (s.setLink x).pending = s.pending := rfl
@[simp] theorem State.setLink_reads :
    (s.setLink x).scanLine = s.scanLine ∧ (s.setLink x).decoder = s.decoder ∧ (s.setLink x).call = s.call ∧
      (s.setLink x).sender = s.sender ∧ (s.setLink x).entry = s.entry ∧ (s.setLink x).peer = s.peer ∧ (s.setLink
      x).session = s.session ∧ (s.setLink x).input = s.input ∧ (s.setLink x).scanTime = s.scanTime ∧ (s.setLink
      x).n = s.n ∧ (s.setLink x).slot = s.slot ∧ (s.setLink x).running = s.running := by
  refine ⟨rfl, rfl, rfl, rfl, rfl, rfl, rfl, rfl, rfl, rfl, rfl, rfl⟩
end

section
variable (s : State) (x : TxQueue)
@[simp] theorem State.setTx_now : (s.setTx x).now = s.now := rfl
@[simp] theorem State.setTx_inReset : (s.setTx x).inReset = s.inReset := rfl
@[simp] theorem State.setTx_ctl : (s.setTx x).ctl = s.ctl := rfl
@[simp] theorem State.setTx_iso : (s.setTx x).iso = s.iso := rfl
@[simp] theorem State.setTx_scan : (s.setTx x).scan = s.scan := rfl
@[simp] theorem State.setTx_dec : (s.setTx x).dec = s.dec := rfl
@[simp] theorem State.setTx_calls : (s.setTx x).calls = s.calls := rfl
@[simp] theorem State.setTx_ldt : (s.setTx x).ldt = s.ldt := rfl
@[simp] theorem State.setTx_lko : (s.setTx x).lko = s.lko := rfl
@[simp] theorem State.setTx_link : (s.setTx x).link = s.link := rfl
@[simp] theorem State.setTx_tx : (s.setTx x).tx = x := rfl
@[simp] theorem State.setTx_view : (s.setTx x).view = s.view := rfl
@[simp] theorem State.setTx_hunt : (s.setTx x).hunt = s.hunt := rfl
@[simp] theorem State.setTx_sup : (s.setTx x).sup = s.sup := rfl
@[simp] theorem State.setTx_senders : (s.setTx x).senders = s.senders := rfl
@[simp] theorem State.setTx_arb : (s.setTx x).arb = s.arb := rfl
@[simp] theorem State.setTx_freeIndex : (s.setTx x).freeIndex = s.freeIndex := rfl
@[simp] theorem State.setTx_wire : (s.setTx x).wire = s.wire := rfl
@[simp] theorem State.setTx_pending : (s.setTx x).pending = s.pending := rfl
@[simp] theorem State.setTx_reads :
    (s.setTx x).scanLine = s.scanLine ∧ (s.setTx x).decoder = s.decoder ∧ (s.setTx x).call = s.call ∧ (s.setTx
      x).sender = s.sender ∧ (s.setTx x).entry = s.entry ∧ (s.setTx x).peer = s.peer ∧ (s.setTx x).session =
      s.session ∧ (s.setTx x).input = s.input ∧ (s.setTx x).scanTime = s.scanTime ∧ (s.setTx x).n = s.n ∧ (s.setTx
      x).slot = s.slot ∧ (s.setTx x).running = s.running := by
  refine ⟨rfl, rfl, rfl, rfl, rfl, rfl, rfl, rfl, rfl, rfl, rfl, rfl⟩
end

section
variable (s : State) (x : HuntUnit)
@[simp] theorem State.setHunt_now : (s.setHunt x).now = s.now := rfl
@[simp] theorem State.setHunt_inReset : (s.setHunt x).inReset = s.inReset := rfl
@[simp] theorem State.setHunt_ctl : (s.setHunt x).ctl = s.ctl := rfl
@[simp] theorem State.setHunt_iso : (s.setHunt x).iso = s.iso := rfl
@[simp] theorem State.setHunt_scan : (s.setHunt x).scan = s.scan := rfl
@[simp] theorem State.setHunt_dec : (s.setHunt x).dec = s.dec := rfl
@[simp] theorem State.setHunt_calls : (s.setHunt x).calls = s.calls := rfl
@[simp] theorem State.setHunt_ldt : (s.setHunt x).ldt = s.ldt := rfl
@[simp] theorem State.setHunt_lko : (s.setHunt x).lko = s.lko := rfl
@[simp] theorem State.setHunt_link : (s.setHunt x).link = s.link := rfl
@[simp] theorem State.setHunt_tx : (s.setHunt x).tx = s.tx := rfl
@[simp] theorem State.setHunt_view : (s.setHunt x).view = s.view := rfl
@[simp] theorem State.setHunt_hunt : (s.setHunt x).hunt = x := rfl
@[simp] theorem State.setHunt_sup : (s.setHunt x).sup = s.sup := rfl
@[simp] theorem State.setHunt_senders : (s.setHunt x).senders = s.senders := rfl
@[simp] theorem State.setHunt_arb : (s.setHunt x).arb = s.arb := rfl
@[simp] theorem State.setHunt_freeIndex : (s.setHunt x).freeIndex = s.freeIndex := rfl
@[simp] theorem State.setHunt_wire : (s.setHunt x).wire = s.wire := rfl
@[simp] theorem State.setHunt_pending : (s.setHunt x).pending = s.pending := rfl
@[simp] theorem State.setHunt_reads :
    (s.setHunt x).scanLine = s.scanLine ∧ (s.setHunt x).decoder = s.decoder ∧ (s.setHunt x).call = s.call ∧
      (s.setHunt x).sender = s.sender ∧ (s.setHunt x).entry = s.entry ∧ (s.setHunt x).peer = s.peer ∧ (s.setHunt
      x).session = s.session ∧ (s.setHunt x).input = s.input ∧ (s.setHunt x).scanTime = s.scanTime ∧ (s.setHunt
      x).n = s.n ∧ (s.setHunt x).slot = s.slot ∧ (s.setHunt x).running = s.running := by
  refine ⟨rfl, rfl, rfl, rfl, rfl, rfl, rfl, rfl, rfl, rfl, rfl, rfl⟩
end

section
variable (s : State) (x : Control)
@[simp] theorem State.setCtl_now : (s.setCtl x).now = s.now := rfl
@[simp] theorem State.setCtl_inReset : (s.setCtl x).inReset = s.inReset := rfl
@[simp] theorem State.setCtl_ctl : (s.setCtl x).ctl = x := rfl
@[simp] theorem State.setCtl_iso : (s.setCtl x).iso = s.iso := rfl
@[simp] theorem State.setCtl_scan : (s.setCtl x).scan = s.scan := rfl
@[simp] theorem State.setCtl_dec : (s.setCtl x).dec = s.dec := rfl
@[simp] theorem State.setCtl_calls : (s.setCtl x).calls = s.calls := rfl
@[simp] theorem State.setCtl_ldt : (s.setCtl x).ldt = s.ldt := rfl
@[simp] theorem State.setCtl_lko : (s.setCtl x).lko = s.lko := rfl
@[simp] theorem State.setCtl_link : (s.setCtl x).link = s.link := rfl
@[simp] theorem State.setCtl_tx : (s.setCtl x).tx = s.tx := rfl
@[simp] theorem State.setCtl_view : (s.setCtl x).view = s.view := rfl
@[simp] theorem State.setCtl_hunt : (s.setCtl x).hunt = s.hunt := rfl
@[simp] theorem State.setCtl_sup : (s.setCtl x).sup = s.sup := rfl
@[simp] theorem State.setCtl_senders : (s.setCtl x).senders = s.senders := rfl
@[simp] theorem State.setCtl_arb : (s.setCtl x).arb = s.arb := rfl
@[simp] theorem State.setCtl_freeIndex : (s.setCtl x).freeIndex = s.freeIndex := rfl
@[simp] theorem State.setCtl_wire : (s.setCtl x).wire = s.wire := rfl
@[simp] theorem State.setCtl_pending : (s.setCtl x).pending = s.pending := rfl
@[simp] theorem State.setCtl_reads :
    (s.setCtl x).scanLine = s.scanLine ∧ (s.setCtl x).decoder = s.decoder ∧ (s.setCtl x).call = s.call ∧
      (s.setCtl x).sender = s.sender ∧ (s.setCtl x).entry = s.entry ∧ (s.setCtl x).peer = s.peer ∧ (s.setCtl
      x).session = s.session ∧ (s.setCtl x).input = s.input ∧ (s.setCtl x).scanTime = s.scanTime := by
  refine ⟨rfl, rfl, rfl, rfl, rfl, rfl, rfl, rfl, rfl⟩
end

section
variable (s : State) (x : Isolation)
@[simp] theorem State.setIso_now : (s.setIso x).now = s.now := rfl
@[simp] theorem State.setIso_inReset : (s.setIso x).inReset = s.inReset := rfl
@[simp] theorem State.setIso_ctl : (s.setIso x).ctl = s.ctl := rfl
@[simp] theorem State.setIso_iso : (s.setIso x).iso = x := rfl
@[simp] theorem State.setIso_scan : (s.setIso x).scan = s.scan := rfl
@[simp] theorem State.setIso_dec : (s.setIso x).dec = s.dec := rfl
@[simp] theorem State.setIso_calls : (s.setIso x).calls = s.calls := rfl
@[simp] theorem State.setIso_ldt : (s.setIso x).ldt = s.ldt := rfl
@[simp] theorem State.setIso_lko : (s.setIso x).lko = s.lko := rfl
@[simp] theorem State.setIso_link : (s.setIso x).link = s.link := rfl
@[simp] theorem State.setIso_tx : (s.setIso x).tx = s.tx := rfl
@[simp] theorem State.setIso_view : (s.setIso x).view = s.view := rfl
@[simp] theorem State.setIso_hunt : (s.setIso x).hunt = s.hunt := rfl
@[simp] theorem State.setIso_sup : (s.setIso x).sup = s.sup := rfl
@[simp] theorem State.setIso_senders : (s.setIso x).senders = s.senders := rfl
@[simp] theorem State.setIso_arb : (s.setIso x).arb = s.arb := rfl
@[simp] theorem State.setIso_freeIndex : (s.setIso x).freeIndex = s.freeIndex := rfl
@[simp] theorem State.setIso_wire : (s.setIso x).wire = s.wire := rfl
@[simp] theorem State.setIso_pending : (s.setIso x).pending = s.pending := rfl
@[simp] theorem State.setIso_reads :
    (s.setIso x).scanLine = s.scanLine ∧ (s.setIso x).decoder = s.decoder ∧ (s.setIso x).call = s.call ∧
      (s.setIso x).sender = s.sender ∧ (s.setIso x).entry = s.entry ∧ (s.setIso x).peer = s.peer ∧ (s.setIso
      x).session = s.session ∧ (s.setIso x).input = s.input ∧ (s.setIso x).scanTime = s.scanTime ∧ (s.setIso x).n
      = s.n ∧ (s.setIso x).slot = s.slot ∧ (s.setIso x).running = s.running := by
  refine ⟨rfl, rfl, rfl, rfl, rfl, rfl, rfl, rfl, rfl, rfl, rfl, rfl⟩
end

section
variable (s : State) (x : Arbiter)
@[simp] theorem State.setArb_now : (s.setArb x).now = s.now := rfl
@[simp] theorem State.setArb_inReset : (s.setArb x).inReset = s.inReset := rfl
@[simp] theorem State.setArb_ctl : (s.setArb x).ctl = s.ctl := rfl
@[simp] theorem State.setArb_iso : (s.setArb x).iso = s.iso := rfl
@[simp] theorem State.setArb_scan : (s.setArb x).scan = s.scan := rfl
@[simp] theorem State.setArb_dec : (s.setArb x).dec = s.dec := rfl
@[simp] theorem State.setArb_calls : (s.setArb x).calls = s.calls := rfl
@[simp] theorem State.setArb_ldt : (s.setArb x).ldt = s.ldt := rfl
@[simp] theorem State.setArb_lko : (s.setArb x).lko = s.lko := rfl
@[simp] theorem State.setArb_link : (s.setArb x).link = s.link := rfl
@[simp] theorem State.setArb_tx : (s.setArb x).tx = s.tx := rfl
@[simp] theorem State.setArb_view : (s.setArb x).view = s.view := rfl
@[simp] theorem State.setArb_hunt : (s.setArb x).hunt = s.hunt := rfl
@[simp] theorem State.setArb_sup : (s.setArb x).sup = s.sup := rfl
@[simp] theorem State.setArb_senders : (s.setArb x).senders = s.senders := rfl
@[simp] theorem State.setArb_arb : (s.setArb x).arb = x := rfl
@[simp] theorem State.setArb_freeIndex : (s.setArb x).freeIndex = s.freeIndex := rfl
@[simp] theorem State.setArb_wire : (s.setArb x).wire = s.wire := rfl
@[simp] theorem State.setArb_pending : (s.setArb x).pending = s.pending := rfl
@[simp] theorem State.setArb_reads :
    (s.setArb x).scanLine = s.scanLine ∧ (s.setArb x).decoder = s.decoder ∧ (s.setArb x).call = s.call ∧
      (s.setArb x).sender = s.sender ∧ (s.setArb x).entry = s.entry ∧ (s.setArb x).peer = s.peer ∧ (s.setArb
      x).session = s.session ∧ (s.setArb x).input = s.input ∧ (s.setArb x).scanTime = s.scanTime ∧ (s.setArb x).n
      = s.n ∧ (s.setArb x).slot = s.slot ∧ (s.setArb x).running = s.running := by
  refine ⟨rfl, rfl, rfl, rfl, rfl, rfl, rfl, rfl, rfl, rfl, rfl, rfl⟩
end

section
variable (s : State) (w : Nat)
@[simp] theorem State.advance_now : (s.advance w).now = max s.now w := rfl
@[simp] theorem State.advance_inReset : (s.advance w).inReset = s.inReset := rfl
@[simp] theorem State.advance_ctl : (s.advance w).ctl = s.ctl := rfl
@[simp] theorem State.advance_iso : (s.advance w).iso = s.iso := rfl
@[simp] theorem State.advance_scan : (s.advance w).scan = s.scan := rfl
@[simp] theorem State.advance_dec : (s.advance w).dec = s.dec := rfl
@[simp] theorem State.advance_calls : (s.advance w).calls = s.calls := rfl
@[simp] theorem State.advance_ldt : (s.advance w).ldt = s.ldt := rfl
@[simp] theorem State.advance_lko : (s.advance w).lko = s.lko := rfl
@[simp] theorem State.advance_link : (s.advance w).link = s.link := rfl
@[simp] theorem State.advance_tx : (s.advance w).tx = s.tx := rfl
@[simp] theorem State.advance_view : (s.advance w).view = s.view := rfl
@[simp] theorem State.advance_hunt : (s.advance w).hunt = s.hunt := rfl
@[simp] theorem State.advance_sup : (s.advance w).sup = s.sup := rfl
@[simp] theorem State.advance_senders : (s.advance w).senders = s.senders := rfl
@[simp] theorem State.advance_arb : (s.advance w).arb = s.arb := rfl
@[simp] theorem State.advance_freeIndex : (s.advance w).freeIndex = s.freeIndex := rfl
@[simp] theorem State.advance_wire : (s.advance w).wire = s.wire := rfl
@[simp] theorem State.advance_pending : (s.advance w).pending = s.pending := rfl
@[simp] theorem State.advance_reads :
    (s.advance w).scanLine = s.scanLine ∧ (s.advance w).decoder = s.decoder ∧ (s.advance w).call = s.call ∧
      (s.advance w).sender = s.sender ∧ (s.advance w).entry = s.entry ∧ (s.advance w).peer = s.peer ∧ (s.advance
      w).session = s.session ∧ (s.advance w).input = s.input ∧ (s.advance w).n = s.n ∧ (s.advance w).slot = s.slot
      ∧ (s.advance w).running = s.running := by
  refine ⟨rfl, rfl, rfl, rfl, rfl, rfl, rfl, rfl, rfl, rfl, rfl⟩
end

end Sys2Proof.Machine
end

