-- ==== Sys2Proof/Laws/Ops.lean ====
section
/-! SUPPORT. The frames of the shared operations of Ops.lean: the fields of State an operation leaves alone. -/

namespace Sys2Proof.Machine

open Sys2Proof

@[simp] theorem State.callShift_frame (s : State) :
    (s.callShift).now = s.now ∧ (s.callShift).inReset = s.inReset ∧ (s.callShift).ctl = s.ctl ∧
      (s.callShift).iso = s.iso ∧ (s.callShift).scan = s.scan ∧ (s.callShift).dec = s.dec ∧ (s.callShift).calls
      = s.calls ∧ (s.callShift).ldt = s.ldt ∧ (s.callShift).lko = s.lko ∧ (s.callShift).link = s.link ∧
      (s.callShift).tx = s.tx ∧ (s.callShift).view = s.view ∧ (s.callShift).hunt = s.hunt ∧
      (s.callShift).senders = s.senders ∧ (s.callShift).arb = s.arb ∧ (s.callShift).freeIndex = s.freeIndex ∧
      (s.callShift).wire = s.wire ∧ (s.callShift).pending = s.pending := by
  simp [State.callShift]

@[simp] theorem State.setPoints_frame (s : State) (pts : Vector Bool 64) :
    (s.setPoints pts).now = s.now ∧ (s.setPoints pts).inReset = s.inReset ∧ (s.setPoints pts).ctl = s.ctl ∧
      (s.setPoints pts).iso = s.iso ∧ (s.setPoints pts).scan = s.scan ∧ (s.setPoints pts).dec = s.dec ∧
      (s.setPoints pts).calls = s.calls ∧ (s.setPoints pts).ldt = s.ldt ∧ (s.setPoints pts).lko = s.lko ∧
      (s.setPoints pts).link = s.link ∧ (s.setPoints pts).tx = s.tx ∧ (s.setPoints pts).view = s.view ∧
      (s.setPoints pts).hunt = s.hunt ∧ (s.setPoints pts).senders = s.senders ∧ (s.setPoints pts).arb = s.arb ∧
      (s.setPoints pts).freeIndex = s.freeIndex ∧ (s.setPoints pts).wire = s.wire ∧ (s.setPoints pts).pending =
      s.pending := by
  unfold State.setPoints
  repeat' split
  all_goals simp

@[simp] theorem State.openTrunk_frame (s : State) (t : Trunk) :
    (s.openTrunk t).now = s.now ∧ (s.openTrunk t).inReset = s.inReset ∧ (s.openTrunk t).ctl = s.ctl ∧
      (s.openTrunk t).iso = s.iso ∧ (s.openTrunk t).scan = s.scan ∧ (s.openTrunk t).dec = s.dec ∧ (s.openTrunk
      t).calls = s.calls ∧ (s.openTrunk t).ldt = s.ldt ∧ (s.openTrunk t).lko = s.lko ∧ (s.openTrunk t).link =
      s.link ∧ (s.openTrunk t).tx = s.tx ∧ (s.openTrunk t).view = s.view ∧ (s.openTrunk t).hunt = s.hunt ∧
      (s.openTrunk t).senders = s.senders ∧ (s.openTrunk t).arb = s.arb ∧ (s.openTrunk t).freeIndex =
      s.freeIndex ∧ (s.openTrunk t).wire = s.wire ∧ (s.openTrunk t).pending = s.pending := by
  simp [State.openTrunk]

@[simp] theorem State.closePair_frame (s : State) (l : Line) (t : Trunk) :
    (s.closePair l t).now = s.now ∧ (s.closePair l t).inReset = s.inReset ∧ (s.closePair l t).ctl = s.ctl ∧
      (s.closePair l t).iso = s.iso ∧ (s.closePair l t).scan = s.scan ∧ (s.closePair l t).dec = s.dec ∧
      (s.closePair l t).calls = s.calls ∧ (s.closePair l t).ldt = s.ldt ∧ (s.closePair l t).lko = s.lko ∧
      (s.closePair l t).link = s.link ∧ (s.closePair l t).tx = s.tx ∧ (s.closePair l t).view = s.view ∧
      (s.closePair l t).hunt = s.hunt ∧ (s.closePair l t).senders = s.senders ∧ (s.closePair l t).arb = s.arb ∧
      (s.closePair l t).freeIndex = s.freeIndex ∧ (s.closePair l t).wire = s.wire ∧ (s.closePair l t).pending =
      s.pending := by
  unfold State.closePair
  repeat' split
  all_goals simp

@[simp] theorem State.toneOff_frame (s : State) (l : Line) :
    (s.toneOff l).now = s.now ∧ (s.toneOff l).inReset = s.inReset ∧ (s.toneOff l).ctl = s.ctl ∧ (s.toneOff
      l).iso = s.iso ∧ (s.toneOff l).scan = s.scan ∧ (s.toneOff l).dec = s.dec ∧ (s.toneOff l).lko = s.lko ∧
      (s.toneOff l).link = s.link ∧ (s.toneOff l).tx = s.tx ∧ (s.toneOff l).view = s.view ∧ (s.toneOff l).hunt =
      s.hunt ∧ (s.toneOff l).sup = s.sup ∧ (s.toneOff l).senders = s.senders ∧ (s.toneOff l).arb = s.arb ∧
      (s.toneOff l).freeIndex = s.freeIndex ∧ (s.toneOff l).wire = s.wire ∧ (s.toneOff l).pending = s.pending := by
  simp [State.toneOff]

@[simp] theorem State.countRx_frame (s : State) :
    (s.countRx).now = s.now ∧ (s.countRx).inReset = s.inReset ∧ (s.countRx).ctl = s.ctl ∧ (s.countRx).iso =
      s.iso ∧ (s.countRx).scan = s.scan ∧ (s.countRx).dec = s.dec ∧ (s.countRx).calls = s.calls ∧
      (s.countRx).ldt = s.ldt ∧ (s.countRx).lko = s.lko ∧ (s.countRx).tx = s.tx ∧ (s.countRx).view = s.view ∧
      (s.countRx).hunt = s.hunt ∧ (s.countRx).sup = s.sup ∧ (s.countRx).senders = s.senders ∧ (s.countRx).arb =
      s.arb ∧ (s.countRx).freeIndex = s.freeIndex ∧ (s.countRx).wire = s.wire ∧ (s.countRx).pending = s.pending := by
  simp [State.countRx]

end Sys2Proof.Machine
end

