-- ==== Sys2Proof/Laws/View.lean ====
section
/-! SUPPORT. The frames of the transmit queue's placing and the view's requests: the fields of State an operation leaves alone. -/

namespace Sys2Proof.Machine

open Sys2Proof

@[simp] theorem State.place_frame (s : State) (f : TxFrame) :
    (s.place f).now = s.now ∧ (s.place f).inReset = s.inReset ∧ (s.place f).ctl = s.ctl ∧ (s.place f).iso =
      s.iso ∧ (s.place f).scan = s.scan ∧ (s.place f).dec = s.dec ∧ (s.place f).calls = s.calls ∧ (s.place
      f).ldt = s.ldt ∧ (s.place f).lko = s.lko ∧ (s.place f).link = s.link ∧ (s.place f).view = s.view ∧
      (s.place f).hunt = s.hunt ∧ (s.place f).sup = s.sup ∧ (s.place f).senders = s.senders ∧ (s.place f).arb =
      s.arb ∧ (s.place f).freeIndex = s.freeIndex ∧ (s.place f).wire = s.wire ∧ (s.place f).pending = s.pending := by
  simp [State.place]

@[simp] theorem State.freeOwn_frame (s : State) (t : Trunk) :
    (s.freeOwn t).now = s.now ∧ (s.freeOwn t).inReset = s.inReset ∧ (s.freeOwn t).ctl = s.ctl ∧ (s.freeOwn
      t).iso = s.iso ∧ (s.freeOwn t).scan = s.scan ∧ (s.freeOwn t).dec = s.dec ∧ (s.freeOwn t).calls = s.calls ∧
      (s.freeOwn t).ldt = s.ldt ∧ (s.freeOwn t).lko = s.lko ∧ (s.freeOwn t).link = s.link ∧ (s.freeOwn t).tx =
      s.tx ∧ (s.freeOwn t).hunt = s.hunt ∧ (s.freeOwn t).sup = s.sup ∧ (s.freeOwn t).senders = s.senders ∧
      (s.freeOwn t).arb = s.arb ∧ (s.freeOwn t).freeIndex = s.freeIndex ∧ (s.freeOwn t).wire = s.wire ∧
      (s.freeOwn t).pending = s.pending := by
  unfold State.freeOwn
  repeat' split
  all_goals simp

@[simp] theorem State.conflictOwn_frame (s : State) (t : Trunk) :
    (s.conflictOwn t).now = s.now ∧ (s.conflictOwn t).inReset = s.inReset ∧ (s.conflictOwn t).ctl = s.ctl ∧
      (s.conflictOwn t).iso = s.iso ∧ (s.conflictOwn t).scan = s.scan ∧ (s.conflictOwn t).dec = s.dec ∧
      (s.conflictOwn t).calls = s.calls ∧ (s.conflictOwn t).ldt = s.ldt ∧ (s.conflictOwn t).lko = s.lko ∧
      (s.conflictOwn t).link = s.link ∧ (s.conflictOwn t).tx = s.tx ∧ (s.conflictOwn t).hunt = s.hunt ∧
      (s.conflictOwn t).sup = s.sup ∧ (s.conflictOwn t).senders = s.senders ∧ (s.conflictOwn t).arb = s.arb ∧
      (s.conflictOwn t).freeIndex = s.freeIndex ∧ (s.conflictOwn t).wire = s.wire ∧ (s.conflictOwn t).pending =
      s.pending := by
  unfold State.conflictOwn
  repeat' split
  all_goals simp

@[simp] theorem State.makeOwn_frame (s : State) (t : Trunk) (line : Option Line) :
    (s.makeOwn t line).now = s.now ∧ (s.makeOwn t line).inReset = s.inReset ∧ (s.makeOwn t line).ctl = s.ctl ∧
      (s.makeOwn t line).iso = s.iso ∧ (s.makeOwn t line).scan = s.scan ∧ (s.makeOwn t line).dec = s.dec ∧
      (s.makeOwn t line).calls = s.calls ∧ (s.makeOwn t line).ldt = s.ldt ∧ (s.makeOwn t line).lko = s.lko ∧
      (s.makeOwn t line).link = s.link ∧ (s.makeOwn t line).tx = s.tx ∧ (s.makeOwn t line).hunt = s.hunt ∧
      (s.makeOwn t line).sup = s.sup ∧ (s.makeOwn t line).senders = s.senders ∧ (s.makeOwn t line).arb = s.arb ∧
      (s.makeOwn t line).freeIndex = s.freeIndex ∧ (s.makeOwn t line).wire = s.wire ∧ (s.makeOwn t line).pending
      = s.pending := by
  simp [State.makeOwn]

@[simp] theorem State.makeHeld_frame (s : State) (t : Trunk) (p : Slot) (line : Option Line) :
    (s.makeHeld t p line).now = s.now ∧ (s.makeHeld t p line).inReset = s.inReset ∧ (s.makeHeld t p line).ctl =
      s.ctl ∧ (s.makeHeld t p line).iso = s.iso ∧ (s.makeHeld t p line).scan = s.scan ∧ (s.makeHeld t p
      line).dec = s.dec ∧ (s.makeHeld t p line).calls = s.calls ∧ (s.makeHeld t p line).ldt = s.ldt ∧
      (s.makeHeld t p line).lko = s.lko ∧ (s.makeHeld t p line).link = s.link ∧ (s.makeHeld t p line).tx = s.tx
      ∧ (s.makeHeld t p line).hunt = s.hunt ∧ (s.makeHeld t p line).sup = s.sup ∧ (s.makeHeld t p line).senders
      = s.senders ∧ (s.makeHeld t p line).arb = s.arb ∧ (s.makeHeld t p line).freeIndex = s.freeIndex ∧
      (s.makeHeld t p line).wire = s.wire ∧ (s.makeHeld t p line).pending = s.pending := by
  simp [State.makeHeld]

@[simp] theorem State.setRetiredBy_frame (s : State) (t : Trunk) (r : Option Slot) :
    (s.setRetiredBy t r).now = s.now ∧ (s.setRetiredBy t r).inReset = s.inReset ∧ (s.setRetiredBy t r).ctl =
      s.ctl ∧ (s.setRetiredBy t r).iso = s.iso ∧ (s.setRetiredBy t r).scan = s.scan ∧ (s.setRetiredBy t r).dec =
      s.dec ∧ (s.setRetiredBy t r).calls = s.calls ∧ (s.setRetiredBy t r).ldt = s.ldt ∧ (s.setRetiredBy t r).lko
      = s.lko ∧ (s.setRetiredBy t r).link = s.link ∧ (s.setRetiredBy t r).tx = s.tx ∧ (s.setRetiredBy t r).hunt
      = s.hunt ∧ (s.setRetiredBy t r).sup = s.sup ∧ (s.setRetiredBy t r).senders = s.senders ∧ (s.setRetiredBy t
      r).arb = s.arb ∧ (s.setRetiredBy t r).freeIndex = s.freeIndex ∧ (s.setRetiredBy t r).wire = s.wire ∧
      (s.setRetiredBy t r).pending = s.pending := by
  simp [State.setRetiredBy]

@[simp] theorem State.raiseCount_frame (s : State) (t : Trunk) :
    (s.raiseCount t).now = s.now ∧ (s.raiseCount t).inReset = s.inReset ∧ (s.raiseCount t).ctl = s.ctl ∧
      (s.raiseCount t).iso = s.iso ∧ (s.raiseCount t).scan = s.scan ∧ (s.raiseCount t).dec = s.dec ∧
      (s.raiseCount t).calls = s.calls ∧ (s.raiseCount t).ldt = s.ldt ∧ (s.raiseCount t).lko = s.lko ∧
      (s.raiseCount t).link = s.link ∧ (s.raiseCount t).tx = s.tx ∧ (s.raiseCount t).hunt = s.hunt ∧
      (s.raiseCount t).sup = s.sup ∧ (s.raiseCount t).senders = s.senders ∧ (s.raiseCount t).arb = s.arb ∧
      (s.raiseCount t).freeIndex = s.freeIndex ∧ (s.raiseCount t).wire = s.wire ∧ (s.raiseCount t).pending =
      s.pending := by
  unfold State.raiseCount
  dsimp only
  repeat' split
  all_goals simp

@[simp] theorem State.refresh_frame (s : State) (p : Slot) :
    (s.refresh p).now = s.now ∧ (s.refresh p).inReset = s.inReset ∧ (s.refresh p).ctl = s.ctl ∧ (s.refresh
      p).iso = s.iso ∧ (s.refresh p).scan = s.scan ∧ (s.refresh p).dec = s.dec ∧ (s.refresh p).calls = s.calls ∧
      (s.refresh p).ldt = s.ldt ∧ (s.refresh p).lko = s.lko ∧ (s.refresh p).link = s.link ∧ (s.refresh p).tx =
      s.tx ∧ (s.refresh p).hunt = s.hunt ∧ (s.refresh p).sup = s.sup ∧ (s.refresh p).senders = s.senders ∧
      (s.refresh p).arb = s.arb ∧ (s.refresh p).freeIndex = s.freeIndex ∧ (s.refresh p).wire = s.wire ∧
      (s.refresh p).pending = s.pending := by
  unfold State.refresh
  repeat' split
  all_goals simp

@[simp] theorem State.setMismatch_frame (s : State) (p : Slot) (on : Bool) :
    (s.setMismatch p on).now = s.now ∧ (s.setMismatch p on).inReset = s.inReset ∧ (s.setMismatch p on).ctl =
      s.ctl ∧ (s.setMismatch p on).iso = s.iso ∧ (s.setMismatch p on).scan = s.scan ∧ (s.setMismatch p on).dec =
      s.dec ∧ (s.setMismatch p on).calls = s.calls ∧ (s.setMismatch p on).ldt = s.ldt ∧ (s.setMismatch p on).lko
      = s.lko ∧ (s.setMismatch p on).link = s.link ∧ (s.setMismatch p on).tx = s.tx ∧ (s.setMismatch p on).hunt
      = s.hunt ∧ (s.setMismatch p on).sup = s.sup ∧ (s.setMismatch p on).senders = s.senders ∧ (s.setMismatch p
      on).arb = s.arb ∧ (s.setMismatch p on).freeIndex = s.freeIndex ∧ (s.setMismatch p on).wire = s.wire ∧
      (s.setMismatch p on).pending = s.pending := by
  simp [State.setMismatch]

@[simp] theorem State.makeAbsent_frame (s : State) (p : Slot) :
    (s.makeAbsent p).now = s.now ∧ (s.makeAbsent p).inReset = s.inReset ∧ (s.makeAbsent p).ctl = s.ctl ∧
      (s.makeAbsent p).iso = s.iso ∧ (s.makeAbsent p).scan = s.scan ∧ (s.makeAbsent p).dec = s.dec ∧
      (s.makeAbsent p).calls = s.calls ∧ (s.makeAbsent p).ldt = s.ldt ∧ (s.makeAbsent p).lko = s.lko ∧
      (s.makeAbsent p).link = s.link ∧ (s.makeAbsent p).tx = s.tx ∧ (s.makeAbsent p).hunt = s.hunt ∧
      (s.makeAbsent p).sup = s.sup ∧ (s.makeAbsent p).senders = s.senders ∧ (s.makeAbsent p).arb = s.arb ∧
      (s.makeAbsent p).freeIndex = s.freeIndex ∧ (s.makeAbsent p).wire = s.wire ∧ (s.makeAbsent p).pending =
      s.pending := by
  simp [State.makeAbsent]

@[simp] theorem State.countStale_frame (s : State) :
    (s.countStale).now = s.now ∧ (s.countStale).inReset = s.inReset ∧ (s.countStale).ctl = s.ctl ∧
      (s.countStale).iso = s.iso ∧ (s.countStale).scan = s.scan ∧ (s.countStale).dec = s.dec ∧
      (s.countStale).calls = s.calls ∧ (s.countStale).ldt = s.ldt ∧ (s.countStale).lko = s.lko ∧
      (s.countStale).link = s.link ∧ (s.countStale).tx = s.tx ∧ (s.countStale).hunt = s.hunt ∧
      (s.countStale).sup = s.sup ∧ (s.countStale).senders = s.senders ∧ (s.countStale).arb = s.arb ∧
      (s.countStale).freeIndex = s.freeIndex ∧ (s.countStale).wire = s.wire ∧ (s.countStale).pending = s.pending := by
  simp [State.countStale]

@[simp] theorem State.countDual_frame (s : State) :
    (s.countDual).now = s.now ∧ (s.countDual).inReset = s.inReset ∧ (s.countDual).ctl = s.ctl ∧
      (s.countDual).iso = s.iso ∧ (s.countDual).scan = s.scan ∧ (s.countDual).dec = s.dec ∧ (s.countDual).calls
      = s.calls ∧ (s.countDual).ldt = s.ldt ∧ (s.countDual).lko = s.lko ∧ (s.countDual).link = s.link ∧
      (s.countDual).tx = s.tx ∧ (s.countDual).hunt = s.hunt ∧ (s.countDual).sup = s.sup ∧ (s.countDual).senders
      = s.senders ∧ (s.countDual).arb = s.arb ∧ (s.countDual).freeIndex = s.freeIndex ∧ (s.countDual).wire =
      s.wire ∧ (s.countDual).pending = s.pending := by
  simp [State.countDual]

@[simp] theorem State.countProbe_frame (s : State) :
    (s.countProbe).now = s.now ∧ (s.countProbe).inReset = s.inReset ∧ (s.countProbe).ctl = s.ctl ∧
      (s.countProbe).iso = s.iso ∧ (s.countProbe).scan = s.scan ∧ (s.countProbe).dec = s.dec ∧
      (s.countProbe).calls = s.calls ∧ (s.countProbe).ldt = s.ldt ∧ (s.countProbe).lko = s.lko ∧
      (s.countProbe).link = s.link ∧ (s.countProbe).tx = s.tx ∧ (s.countProbe).hunt = s.hunt ∧
      (s.countProbe).sup = s.sup ∧ (s.countProbe).senders = s.senders ∧ (s.countProbe).arb = s.arb ∧
      (s.countProbe).freeIndex = s.freeIndex ∧ (s.countProbe).wire = s.wire ∧ (s.countProbe).pending = s.pending := by
  simp [State.countProbe]

@[simp] theorem State.retireSelf_frame (s : State) (t : Trunk) (c : Cause) :
    (s.retireSelf t c).now = s.now ∧ (s.retireSelf t c).inReset = s.inReset ∧ (s.retireSelf t c).ctl = s.ctl ∧
      (s.retireSelf t c).iso = s.iso ∧ (s.retireSelf t c).scan = s.scan ∧ (s.retireSelf t c).dec = s.dec ∧
      (s.retireSelf t c).calls = s.calls ∧ (s.retireSelf t c).ldt = s.ldt ∧ (s.retireSelf t c).lko = s.lko ∧
      (s.retireSelf t c).link = s.link ∧ (s.retireSelf t c).hunt = s.hunt ∧ (s.retireSelf t c).senders =
      s.senders ∧ (s.retireSelf t c).arb = s.arb ∧ (s.retireSelf t c).freeIndex = s.freeIndex ∧ (s.retireSelf t
      c).wire = s.wire ∧ (s.retireSelf t c).pending = s.pending := by
  simp [State.retireSelf]

@[simp] theorem State.restoreSelf_frame (s : State) (t : Trunk) :
    (s.restoreSelf t).now = s.now ∧ (s.restoreSelf t).inReset = s.inReset ∧ (s.restoreSelf t).ctl = s.ctl ∧
      (s.restoreSelf t).iso = s.iso ∧ (s.restoreSelf t).scan = s.scan ∧ (s.restoreSelf t).dec = s.dec ∧
      (s.restoreSelf t).calls = s.calls ∧ (s.restoreSelf t).ldt = s.ldt ∧ (s.restoreSelf t).lko = s.lko ∧
      (s.restoreSelf t).link = s.link ∧ (s.restoreSelf t).hunt = s.hunt ∧ (s.restoreSelf t).senders = s.senders
      ∧ (s.restoreSelf t).arb = s.arb ∧ (s.restoreSelf t).freeIndex = s.freeIndex ∧ (s.restoreSelf t).wire =
      s.wire ∧ (s.restoreSelf t).pending = s.pending := by
  simp [State.restoreSelf]

@[simp] theorem State.probeAgain_frame (s : State) (t : Trunk) :
    (s.probeAgain t).now = s.now ∧ (s.probeAgain t).inReset = s.inReset ∧ (s.probeAgain t).ctl = s.ctl ∧
      (s.probeAgain t).iso = s.iso ∧ (s.probeAgain t).scan = s.scan ∧ (s.probeAgain t).dec = s.dec ∧
      (s.probeAgain t).calls = s.calls ∧ (s.probeAgain t).ldt = s.ldt ∧ (s.probeAgain t).lko = s.lko ∧
      (s.probeAgain t).link = s.link ∧ (s.probeAgain t).tx = s.tx ∧ (s.probeAgain t).view = s.view ∧
      (s.probeAgain t).hunt = s.hunt ∧ (s.probeAgain t).senders = s.senders ∧ (s.probeAgain t).arb = s.arb ∧
      (s.probeAgain t).freeIndex = s.freeIndex ∧ (s.probeAgain t).wire = s.wire ∧ (s.probeAgain t).pending =
      s.pending := by
  unfold State.probeAgain
  repeat' split
  all_goals simp

end Sys2Proof.Machine
end

