-- ==== Sys2Proof/Laws/Senders.lean ====
section
/-! SUPPORT. The frames of the senders and the arbiter: the fields of State an operation leaves alone. -/

namespace Sys2Proof.Machine

open Sys2Proof

@[simp] theorem State.refreshRequests_frame (s : State) :
    (s.refreshRequests).now = s.now ∧ (s.refreshRequests).inReset = s.inReset ∧ (s.refreshRequests).ctl = s.ctl
      ∧ (s.refreshRequests).iso = s.iso ∧ (s.refreshRequests).scan = s.scan ∧ (s.refreshRequests).dec = s.dec ∧
      (s.refreshRequests).calls = s.calls ∧ (s.refreshRequests).ldt = s.ldt ∧ (s.refreshRequests).lko = s.lko ∧
      (s.refreshRequests).link = s.link ∧ (s.refreshRequests).tx = s.tx ∧ (s.refreshRequests).view = s.view ∧
      (s.refreshRequests).hunt = s.hunt ∧ (s.refreshRequests).sup = s.sup ∧ (s.refreshRequests).senders =
      s.senders ∧ (s.refreshRequests).freeIndex = s.freeIndex ∧ (s.refreshRequests).wire = s.wire ∧
      (s.refreshRequests).pending = s.pending := by
  simp [State.refreshRequests]

@[simp] theorem State.connectAudio_frame (s : State) (l : Line) :
    (s.connectAudio l).now = s.now ∧ (s.connectAudio l).inReset = s.inReset ∧ (s.connectAudio l).ctl = s.ctl ∧
      (s.connectAudio l).iso = s.iso ∧ (s.connectAudio l).scan = s.scan ∧ (s.connectAudio l).dec = s.dec ∧
      (s.connectAudio l).lko = s.lko ∧ (s.connectAudio l).link = s.link ∧ (s.connectAudio l).tx = s.tx ∧
      (s.connectAudio l).view = s.view ∧ (s.connectAudio l).hunt = s.hunt ∧ (s.connectAudio l).senders =
      s.senders ∧ (s.connectAudio l).arb = s.arb ∧ (s.connectAudio l).freeIndex = s.freeIndex ∧ (s.connectAudio
      l).wire = s.wire ∧ (s.connectAudio l).pending = s.pending := by
  unfold State.connectAudio
  dsimp only
  repeat' split
  all_goals simp

@[simp] theorem State.removeHead_frame (s : State) (l : Line) :
    (s.removeHead l).now = s.now ∧ (s.removeHead l).inReset = s.inReset ∧ (s.removeHead l).ctl = s.ctl ∧
      (s.removeHead l).iso = s.iso ∧ (s.removeHead l).scan = s.scan ∧ (s.removeHead l).dec = s.dec ∧
      (s.removeHead l).lko = s.lko ∧ (s.removeHead l).link = s.link ∧ (s.removeHead l).tx = s.tx ∧ (s.removeHead
      l).view = s.view ∧ (s.removeHead l).hunt = s.hunt ∧ (s.removeHead l).senders = s.senders ∧ (s.removeHead
      l).arb = s.arb ∧ (s.removeHead l).freeIndex = s.freeIndex ∧ (s.removeHead l).wire = s.wire ∧ (s.removeHead
      l).pending = s.pending := by
  unfold State.removeHead
  dsimp only
  repeat' split
  all_goals simp

@[simp] theorem State.identityEnded_frame (s : State) (l : Line) :
    (s.identityEnded l).now = s.now ∧ (s.identityEnded l).inReset = s.inReset ∧ (s.identityEnded l).ctl = s.ctl
      ∧ (s.identityEnded l).iso = s.iso ∧ (s.identityEnded l).scan = s.scan ∧ (s.identityEnded l).dec = s.dec ∧
      (s.identityEnded l).lko = s.lko ∧ (s.identityEnded l).link = s.link ∧ (s.identityEnded l).tx = s.tx ∧
      (s.identityEnded l).view = s.view ∧ (s.identityEnded l).hunt = s.hunt ∧ (s.identityEnded l).senders =
      s.senders ∧ (s.identityEnded l).arb = s.arb ∧ (s.identityEnded l).freeIndex = s.freeIndex ∧
      (s.identityEnded l).wire = s.wire ∧ (s.identityEnded l).pending = s.pending := by
  unfold State.identityEnded
  dsimp only
  repeat' split
  all_goals simp

@[simp] theorem State.spoil_frame (s : State) (l : Line) :
    (s.spoil l).now = s.now ∧ (s.spoil l).inReset = s.inReset ∧ (s.spoil l).ctl = s.ctl ∧ (s.spoil l).iso =
      s.iso ∧ (s.spoil l).scan = s.scan ∧ (s.spoil l).dec = s.dec ∧ (s.spoil l).lko = s.lko ∧ (s.spoil l).link =
      s.link ∧ (s.spoil l).tx = s.tx ∧ (s.spoil l).view = s.view ∧ (s.spoil l).hunt = s.hunt ∧ (s.spoil
      l).senders = s.senders ∧ (s.spoil l).arb = s.arb ∧ (s.spoil l).freeIndex = s.freeIndex ∧ (s.spoil l).wire
      = s.wire ∧ (s.spoil l).pending = s.pending := by
  simp [State.spoil]

@[simp] theorem State.detach_frame (s : State) (i : Fin 2) :
    (s.detach i).now = s.now ∧ (s.detach i).inReset = s.inReset ∧ (s.detach i).ctl = s.ctl ∧ (s.detach i).iso =
      s.iso ∧ (s.detach i).scan = s.scan ∧ (s.detach i).dec = s.dec ∧ (s.detach i).calls = s.calls ∧ (s.detach
      i).ldt = s.ldt ∧ (s.detach i).lko = s.lko ∧ (s.detach i).link = s.link ∧ (s.detach i).tx = s.tx ∧
      (s.detach i).view = s.view ∧ (s.detach i).hunt = s.hunt ∧ (s.detach i).sup = s.sup ∧ (s.detach i).arb =
      s.arb ∧ (s.detach i).freeIndex = s.freeIndex ∧ (s.detach i).wire = s.wire ∧ (s.detach i).pending =
      s.pending := by
  simp [State.detach]

@[simp] theorem State.abortSenders_frame (s : State) (t : Trunk) :
    (s.abortSenders t).now = s.now ∧ (s.abortSenders t).inReset = s.inReset ∧ (s.abortSenders t).ctl = s.ctl ∧
      (s.abortSenders t).iso = s.iso ∧ (s.abortSenders t).scan = s.scan ∧ (s.abortSenders t).dec = s.dec ∧
      (s.abortSenders t).calls = s.calls ∧ (s.abortSenders t).ldt = s.ldt ∧ (s.abortSenders t).lko = s.lko ∧
      (s.abortSenders t).link = s.link ∧ (s.abortSenders t).tx = s.tx ∧ (s.abortSenders t).view = s.view ∧
      (s.abortSenders t).hunt = s.hunt ∧ (s.abortSenders t).sup = s.sup ∧ (s.abortSenders t).arb = s.arb ∧
      (s.abortSenders t).freeIndex = s.freeIndex ∧ (s.abortSenders t).wire = s.wire ∧ (s.abortSenders t).pending
      = s.pending := by
  simp [State.abortSenders]

@[simp] theorem State.play_frame (s : State) (i : Fin 2) (src : Source) (code : Code) :
    (s.play i src code).now = s.now ∧ (s.play i src code).inReset = s.inReset ∧ (s.play i src code).ctl = s.ctl
      ∧ (s.play i src code).iso = s.iso ∧ (s.play i src code).scan = s.scan ∧ (s.play i src code).dec = s.dec ∧
      (s.play i src code).calls = s.calls ∧ (s.play i src code).ldt = s.ldt ∧ (s.play i src code).lko = s.lko ∧
      (s.play i src code).link = s.link ∧ (s.play i src code).tx = s.tx ∧ (s.play i src code).view = s.view ∧
      (s.play i src code).hunt = s.hunt ∧ (s.play i src code).sup = s.sup ∧ (s.play i src code).arb = s.arb ∧
      (s.play i src code).freeIndex = s.freeIndex ∧ (s.play i src code).wire = s.wire ∧ (s.play i src
      code).pending = s.pending := by
  simp [State.play]

@[simp] theorem State.keepSilence_frame (s : State) (i : Fin 2) :
    (s.keepSilence i).now = s.now ∧ (s.keepSilence i).inReset = s.inReset ∧ (s.keepSilence i).ctl = s.ctl ∧
      (s.keepSilence i).iso = s.iso ∧ (s.keepSilence i).scan = s.scan ∧ (s.keepSilence i).dec = s.dec ∧
      (s.keepSilence i).calls = s.calls ∧ (s.keepSilence i).ldt = s.ldt ∧ (s.keepSilence i).lko = s.lko ∧
      (s.keepSilence i).link = s.link ∧ (s.keepSilence i).tx = s.tx ∧ (s.keepSilence i).view = s.view ∧
      (s.keepSilence i).hunt = s.hunt ∧ (s.keepSilence i).sup = s.sup ∧ (s.keepSilence i).arb = s.arb ∧
      (s.keepSilence i).freeIndex = s.freeIndex ∧ (s.keepSilence i).wire = s.wire ∧ (s.keepSilence i).pending =
      s.pending := by
  simp [State.keepSilence]

@[simp] theorem State.askBreak_frame (s : State) (i : Fin 2) (t : Trunk) :
    (s.askBreak i t).now = s.now ∧ (s.askBreak i t).inReset = s.inReset ∧ (s.askBreak i t).ctl = s.ctl ∧
      (s.askBreak i t).iso = s.iso ∧ (s.askBreak i t).scan = s.scan ∧ (s.askBreak i t).dec = s.dec ∧ (s.askBreak
      i t).calls = s.calls ∧ (s.askBreak i t).ldt = s.ldt ∧ (s.askBreak i t).lko = s.lko ∧ (s.askBreak i t).link
      = s.link ∧ (s.askBreak i t).tx = s.tx ∧ (s.askBreak i t).view = s.view ∧ (s.askBreak i t).hunt = s.hunt ∧
      (s.askBreak i t).arb = s.arb ∧ (s.askBreak i t).freeIndex = s.freeIndex ∧ (s.askBreak i t).wire = s.wire ∧
      (s.askBreak i t).pending = s.pending := by
  unfold State.askBreak
  repeat' split
  all_goals simp

@[simp] theorem State.nextCode_frame (s : State) (i : Fin 2) (l : Line) (t : Trunk) :
    (s.nextCode i l t).now = s.now ∧ (s.nextCode i l t).inReset = s.inReset ∧ (s.nextCode i l t).ctl = s.ctl ∧
      (s.nextCode i l t).iso = s.iso ∧ (s.nextCode i l t).scan = s.scan ∧ (s.nextCode i l t).dec = s.dec ∧
      (s.nextCode i l t).lko = s.lko ∧ (s.nextCode i l t).link = s.link ∧ (s.nextCode i l t).tx = s.tx ∧
      (s.nextCode i l t).view = s.view ∧ (s.nextCode i l t).hunt = s.hunt ∧ (s.nextCode i l t).arb = s.arb ∧
      (s.nextCode i l t).freeIndex = s.freeIndex ∧ (s.nextCode i l t).wire = s.wire ∧ (s.nextCode i l t).pending
      = s.pending := by
  unfold State.nextCode
  dsimp only
  repeat' split
  all_goals simp

@[simp] theorem State.codeBoundary_frame (s : State) (i : Fin 2) :
    (s.codeBoundary i).now = s.now ∧ (s.codeBoundary i).inReset = s.inReset ∧ (s.codeBoundary i).ctl = s.ctl ∧
      (s.codeBoundary i).iso = s.iso ∧ (s.codeBoundary i).scan = s.scan ∧ (s.codeBoundary i).dec = s.dec ∧
      (s.codeBoundary i).lko = s.lko ∧ (s.codeBoundary i).link = s.link ∧ (s.codeBoundary i).tx = s.tx ∧
      (s.codeBoundary i).view = s.view ∧ (s.codeBoundary i).hunt = s.hunt ∧ (s.codeBoundary i).arb = s.arb ∧
      (s.codeBoundary i).freeIndex = s.freeIndex ∧ (s.codeBoundary i).wire = s.wire ∧ (s.codeBoundary i).pending
      = s.pending := by
  unfold State.codeBoundary
  dsimp only
  repeat' split
  all_goals simp

@[simp] theorem State.grant_frame (s : State) (i : Fin 2) (l : Line) :
    (s.grant i l).now = s.now ∧ (s.grant i l).inReset = s.inReset ∧ (s.grant i l).ctl = s.ctl ∧ (s.grant i
      l).iso = s.iso ∧ (s.grant i l).scan = s.scan ∧ (s.grant i l).dec = s.dec ∧ (s.grant i l).lko = s.lko ∧
      (s.grant i l).link = s.link ∧ (s.grant i l).tx = s.tx ∧ (s.grant i l).view = s.view ∧ (s.grant i l).hunt =
      s.hunt ∧ (s.grant i l).freeIndex = s.freeIndex ∧ (s.grant i l).wire = s.wire ∧ (s.grant i l).pending =
      s.pending := by
  unfold State.grant
  dsimp only
  repeat' split
  all_goals simp

theorem settleRounds_frame (n : Nat) (s : State) :
    (settleRounds n s).now = s.now ∧ (settleRounds n s).inReset = s.inReset ∧ (settleRounds n s).ctl = s.ctl ∧
      (settleRounds n s).iso = s.iso ∧ (settleRounds n s).scan = s.scan ∧ (settleRounds n s).dec = s.dec ∧
      (settleRounds n s).lko = s.lko ∧ (settleRounds n s).link = s.link ∧ (settleRounds n s).tx = s.tx ∧
      (settleRounds n s).view = s.view ∧ (settleRounds n s).hunt = s.hunt ∧ (settleRounds n s).freeIndex =
      s.freeIndex ∧ (settleRounds n s).wire = s.wire ∧ (settleRounds n s).pending = s.pending := by
  induction n generalizing s with
  | zero => simp [settleRounds]
  | succ n ih =>
    simp only [settleRounds]
    split
    · simp [ih]
    · simp

@[simp] theorem State.settleSenders_frame (s : State) :
    (s.settleSenders).now = s.now ∧ (s.settleSenders).inReset = s.inReset ∧ (s.settleSenders).ctl = s.ctl ∧
      (s.settleSenders).iso = s.iso ∧ (s.settleSenders).scan = s.scan ∧ (s.settleSenders).dec = s.dec ∧
      (s.settleSenders).lko = s.lko ∧ (s.settleSenders).link = s.link ∧ (s.settleSenders).tx = s.tx ∧
      (s.settleSenders).view = s.view ∧ (s.settleSenders).hunt = s.hunt ∧ (s.settleSenders).freeIndex =
      s.freeIndex ∧ (s.settleSenders).wire = s.wire ∧ (s.settleSenders).pending = s.pending := settleRounds_frame 10 s

end Sys2Proof.Machine
end

