-- ==== Sys2Proof/Laws/Hunt.lean ====
section
/-! SUPPORT. The frames of seizure, release and the Hunt Unit: the fields of State an operation leaves alone. -/

namespace Sys2Proof.Machine

open Sys2Proof

@[simp] theorem State.seizeTrunk_frame (s : State) (t : Trunk) (pur : Purpose) :
    (s.seizeTrunk t pur).now = s.now ∧ (s.seizeTrunk t pur).inReset = s.inReset ∧ (s.seizeTrunk t pur).ctl =
      s.ctl ∧ (s.seizeTrunk t pur).iso = s.iso ∧ (s.seizeTrunk t pur).scan = s.scan ∧ (s.seizeTrunk t pur).dec =
      s.dec ∧ (s.seizeTrunk t pur).calls = s.calls ∧ (s.seizeTrunk t pur).ldt = s.ldt ∧ (s.seizeTrunk t pur).lko
      = s.lko ∧ (s.seizeTrunk t pur).link = s.link ∧ (s.seizeTrunk t pur).tx = s.tx ∧ (s.seizeTrunk t pur).view
      = s.view ∧ (s.seizeTrunk t pur).hunt = s.hunt ∧ (s.seizeTrunk t pur).senders = s.senders ∧ (s.seizeTrunk t
      pur).arb = s.arb ∧ (s.seizeTrunk t pur).freeIndex = s.freeIndex ∧ (s.seizeTrunk t pur).wire = s.wire ∧
      (s.seizeTrunk t pur).pending = s.pending := by
  simp [State.seizeTrunk]

@[simp] theorem State.releaseTrunk_frame (s : State) (t : Trunk) (c : Cause) :
    (s.releaseTrunk t c).now = s.now ∧ (s.releaseTrunk t c).inReset = s.inReset ∧ (s.releaseTrunk t c).ctl =
      s.ctl ∧ (s.releaseTrunk t c).iso = s.iso ∧ (s.releaseTrunk t c).scan = s.scan ∧ (s.releaseTrunk t c).dec =
      s.dec ∧ (s.releaseTrunk t c).calls = s.calls ∧ (s.releaseTrunk t c).ldt = s.ldt ∧ (s.releaseTrunk t c).lko
      = s.lko ∧ (s.releaseTrunk t c).link = s.link ∧ (s.releaseTrunk t c).hunt = s.hunt ∧ (s.releaseTrunk t
      c).arb = s.arb ∧ (s.releaseTrunk t c).freeIndex = s.freeIndex ∧ (s.releaseTrunk t c).wire = s.wire ∧
      (s.releaseTrunk t c).pending = s.pending := by
  simp [State.releaseTrunk]

@[simp] theorem State.endSession_frame (s : State) (t : Trunk) (c : Cause) :
    (s.endSession t c).now = s.now ∧ (s.endSession t c).inReset = s.inReset ∧ (s.endSession t c).ctl = s.ctl ∧
      (s.endSession t c).iso = s.iso ∧ (s.endSession t c).scan = s.scan ∧ (s.endSession t c).dec = s.dec ∧
      (s.endSession t c).calls = s.calls ∧ (s.endSession t c).ldt = s.ldt ∧ (s.endSession t c).lko = s.lko ∧
      (s.endSession t c).link = s.link ∧ (s.endSession t c).hunt = s.hunt ∧ (s.endSession t c).arb = s.arb ∧
      (s.endSession t c).freeIndex = s.freeIndex ∧ (s.endSession t c).wire = s.wire ∧ (s.endSession t c).pending
      = s.pending := by
  unfold State.endSession
  repeat' split
  all_goals simp

@[simp] theorem State.countFailure_frame (s : State) (t : Trunk) :
    (s.countFailure t).now = s.now ∧ (s.countFailure t).inReset = s.inReset ∧ (s.countFailure t).ctl = s.ctl ∧
      (s.countFailure t).iso = s.iso ∧ (s.countFailure t).scan = s.scan ∧ (s.countFailure t).dec = s.dec ∧
      (s.countFailure t).calls = s.calls ∧ (s.countFailure t).ldt = s.ldt ∧ (s.countFailure t).lko = s.lko ∧
      (s.countFailure t).link = s.link ∧ (s.countFailure t).hunt = s.hunt ∧ (s.countFailure t).senders =
      s.senders ∧ (s.countFailure t).arb = s.arb ∧ (s.countFailure t).freeIndex = s.freeIndex ∧ (s.countFailure
      t).wire = s.wire ∧ (s.countFailure t).pending = s.pending := by
  unfold State.countFailure
  dsimp only
  repeat' split
  all_goals simp

@[simp] theorem State.probeNotMade_frame (s : State) (t : Trunk) :
    (s.probeNotMade t).now = s.now ∧ (s.probeNotMade t).inReset = s.inReset ∧ (s.probeNotMade t).ctl = s.ctl ∧
      (s.probeNotMade t).iso = s.iso ∧ (s.probeNotMade t).scan = s.scan ∧ (s.probeNotMade t).dec = s.dec ∧
      (s.probeNotMade t).calls = s.calls ∧ (s.probeNotMade t).ldt = s.ldt ∧ (s.probeNotMade t).lko = s.lko ∧
      (s.probeNotMade t).link = s.link ∧ (s.probeNotMade t).tx = s.tx ∧ (s.probeNotMade t).view = s.view ∧
      (s.probeNotMade t).hunt = s.hunt ∧ (s.probeNotMade t).senders = s.senders ∧ (s.probeNotMade t).arb = s.arb
      ∧ (s.probeNotMade t).freeIndex = s.freeIndex ∧ (s.probeNotMade t).wire = s.wire ∧ (s.probeNotMade
      t).pending = s.pending := by
  simp [State.probeNotMade]

@[simp] theorem State.withdrawClaim_frame (s : State) :
    (s.withdrawClaim).now = s.now ∧ (s.withdrawClaim).inReset = s.inReset ∧ (s.withdrawClaim).ctl = s.ctl ∧
      (s.withdrawClaim).iso = s.iso ∧ (s.withdrawClaim).scan = s.scan ∧ (s.withdrawClaim).dec = s.dec ∧
      (s.withdrawClaim).calls = s.calls ∧ (s.withdrawClaim).ldt = s.ldt ∧ (s.withdrawClaim).lko = s.lko ∧
      (s.withdrawClaim).link = s.link ∧ (s.withdrawClaim).view = s.view ∧ (s.withdrawClaim).senders = s.senders
      ∧ (s.withdrawClaim).arb = s.arb ∧ (s.withdrawClaim).freeIndex = s.freeIndex ∧ (s.withdrawClaim).wire =
      s.wire ∧ (s.withdrawClaim).pending = s.pending := by
  unfold State.withdrawClaim
  dsimp only
  repeat' split
  all_goals simp

@[simp] theorem State.makeChoice_frame (s : State) :
    (s.makeChoice).now = s.now ∧ (s.makeChoice).inReset = s.inReset ∧ (s.makeChoice).ctl = s.ctl ∧
      (s.makeChoice).iso = s.iso ∧ (s.makeChoice).scan = s.scan ∧ (s.makeChoice).dec = s.dec ∧
      (s.makeChoice).calls = s.calls ∧ (s.makeChoice).ldt = s.ldt ∧ (s.makeChoice).lko = s.lko ∧
      (s.makeChoice).link = s.link ∧ (s.makeChoice).view = s.view ∧ (s.makeChoice).sup = s.sup ∧
      (s.makeChoice).senders = s.senders ∧ (s.makeChoice).arb = s.arb ∧ (s.makeChoice).freeIndex = s.freeIndex ∧
      (s.makeChoice).wire = s.wire ∧ (s.makeChoice).pending = s.pending := by
  unfold State.makeChoice
  repeat' split
  all_goals simp

@[simp] theorem State.judgeActive_frame (s : State) :
    (s.judgeActive).now = s.now ∧ (s.judgeActive).inReset = s.inReset ∧ (s.judgeActive).ctl = s.ctl ∧
      (s.judgeActive).iso = s.iso ∧ (s.judgeActive).scan = s.scan ∧ (s.judgeActive).dec = s.dec ∧
      (s.judgeActive).calls = s.calls ∧ (s.judgeActive).ldt = s.ldt ∧ (s.judgeActive).lko = s.lko ∧
      (s.judgeActive).link = s.link ∧ (s.judgeActive).view = s.view ∧ (s.judgeActive).senders = s.senders ∧
      (s.judgeActive).arb = s.arb ∧ (s.judgeActive).freeIndex = s.freeIndex ∧ (s.judgeActive).wire = s.wire ∧
      (s.judgeActive).pending = s.pending := by
  unfold State.judgeActive
  repeat' split
  all_goals simp

@[simp] theorem State.huntDrop_frame (s : State) (l : Line) :
    (s.huntDrop l).now = s.now ∧ (s.huntDrop l).inReset = s.inReset ∧ (s.huntDrop l).ctl = s.ctl ∧ (s.huntDrop
      l).iso = s.iso ∧ (s.huntDrop l).scan = s.scan ∧ (s.huntDrop l).dec = s.dec ∧ (s.huntDrop l).calls =
      s.calls ∧ (s.huntDrop l).ldt = s.ldt ∧ (s.huntDrop l).lko = s.lko ∧ (s.huntDrop l).link = s.link ∧
      (s.huntDrop l).view = s.view ∧ (s.huntDrop l).senders = s.senders ∧ (s.huntDrop l).arb = s.arb ∧
      (s.huntDrop l).freeIndex = s.freeIndex ∧ (s.huntDrop l).wire = s.wire ∧ (s.huntDrop l).pending = s.pending := by
  unfold State.huntDrop
  dsimp only
  repeat' split
  all_goals simp

@[simp] theorem State.seizeForLine_frame (s : State) (t : Trunk) (l : Line) :
    (s.seizeForLine t l).now = s.now ∧ (s.seizeForLine t l).inReset = s.inReset ∧ (s.seizeForLine t l).ctl =
      s.ctl ∧ (s.seizeForLine t l).iso = s.iso ∧ (s.seizeForLine t l).scan = s.scan ∧ (s.seizeForLine t l).dec =
      s.dec ∧ (s.seizeForLine t l).ldt = s.ldt ∧ (s.seizeForLine t l).lko = s.lko ∧ (s.seizeForLine t l).link =
      s.link ∧ (s.seizeForLine t l).tx = s.tx ∧ (s.seizeForLine t l).view = s.view ∧ (s.seizeForLine t l).hunt =
      s.hunt ∧ (s.seizeForLine t l).senders = s.senders ∧ (s.seizeForLine t l).arb = s.arb ∧ (s.seizeForLine t
      l).freeIndex = s.freeIndex ∧ (s.seizeForLine t l).wire = s.wire ∧ (s.seizeForLine t l).pending = s.pending := by
  simp [State.seizeForLine]

@[simp] theorem State.unqueue_frame (s : State) (l : Line) :
    (s.unqueue l).now = s.now ∧ (s.unqueue l).inReset = s.inReset ∧ (s.unqueue l).ctl = s.ctl ∧ (s.unqueue
      l).iso = s.iso ∧ (s.unqueue l).scan = s.scan ∧ (s.unqueue l).dec = s.dec ∧ (s.unqueue l).calls = s.calls ∧
      (s.unqueue l).ldt = s.ldt ∧ (s.unqueue l).lko = s.lko ∧ (s.unqueue l).link = s.link ∧ (s.unqueue l).tx =
      s.tx ∧ (s.unqueue l).view = s.view ∧ (s.unqueue l).sup = s.sup ∧ (s.unqueue l).senders = s.senders ∧
      (s.unqueue l).arb = s.arb ∧ (s.unqueue l).freeIndex = s.freeIndex ∧ (s.unqueue l).wire = s.wire ∧
      (s.unqueue l).pending = s.pending := by
  simp [State.unqueue]

@[simp] theorem State.queueHead_frame (s : State) (l : Line) :
    (s.queueHead l).now = s.now ∧ (s.queueHead l).inReset = s.inReset ∧ (s.queueHead l).ctl = s.ctl ∧
      (s.queueHead l).iso = s.iso ∧ (s.queueHead l).scan = s.scan ∧ (s.queueHead l).dec = s.dec ∧ (s.queueHead
      l).calls = s.calls ∧ (s.queueHead l).ldt = s.ldt ∧ (s.queueHead l).lko = s.lko ∧ (s.queueHead l).link =
      s.link ∧ (s.queueHead l).tx = s.tx ∧ (s.queueHead l).view = s.view ∧ (s.queueHead l).sup = s.sup ∧
      (s.queueHead l).senders = s.senders ∧ (s.queueHead l).arb = s.arb ∧ (s.queueHead l).freeIndex =
      s.freeIndex ∧ (s.queueHead l).wire = s.wire ∧ (s.queueHead l).pending = s.pending := by
  simp [State.queueHead]

@[simp] theorem State.queueTail_frame (s : State) (l : Line) :
    (s.queueTail l).now = s.now ∧ (s.queueTail l).inReset = s.inReset ∧ (s.queueTail l).ctl = s.ctl ∧
      (s.queueTail l).iso = s.iso ∧ (s.queueTail l).scan = s.scan ∧ (s.queueTail l).dec = s.dec ∧ (s.queueTail
      l).calls = s.calls ∧ (s.queueTail l).ldt = s.ldt ∧ (s.queueTail l).lko = s.lko ∧ (s.queueTail l).link =
      s.link ∧ (s.queueTail l).tx = s.tx ∧ (s.queueTail l).view = s.view ∧ (s.queueTail l).sup = s.sup ∧
      (s.queueTail l).senders = s.senders ∧ (s.queueTail l).arb = s.arb ∧ (s.queueTail l).freeIndex =
      s.freeIndex ∧ (s.queueTail l).wire = s.wire ∧ (s.queueTail l).pending = s.pending := by
  simp [State.queueTail]

@[simp] theorem State.judgeIsolated_frame (s : State) :
    (s.judgeIsolated).now = s.now ∧ (s.judgeIsolated).inReset = s.inReset ∧ (s.judgeIsolated).ctl = s.ctl ∧
      (s.judgeIsolated).iso = s.iso ∧ (s.judgeIsolated).scan = s.scan ∧ (s.judgeIsolated).dec = s.dec ∧
      (s.judgeIsolated).ldt = s.ldt ∧ (s.judgeIsolated).lko = s.lko ∧ (s.judgeIsolated).link = s.link ∧
      (s.judgeIsolated).tx = s.tx ∧ (s.judgeIsolated).senders = s.senders ∧ (s.judgeIsolated).arb = s.arb ∧
      (s.judgeIsolated).freeIndex = s.freeIndex ∧ (s.judgeIsolated).wire = s.wire ∧ (s.judgeIsolated).pending =
      s.pending := by
  unfold State.judgeIsolated
  repeat' split
  all_goals simp

@[simp] theorem State.judge_frame (s : State) :
    (s.judge).now = s.now ∧ (s.judge).inReset = s.inReset ∧ (s.judge).ctl = s.ctl ∧ (s.judge).iso = s.iso ∧
      (s.judge).scan = s.scan ∧ (s.judge).dec = s.dec ∧ (s.judge).ldt = s.ldt ∧ (s.judge).lko = s.lko ∧
      (s.judge).link = s.link ∧ (s.judge).senders = s.senders ∧ (s.judge).arb = s.arb ∧ (s.judge).freeIndex =
      s.freeIndex ∧ (s.judge).wire = s.wire ∧ (s.judge).pending = s.pending := by
  unfold State.judge
  repeat' split
  all_goals simp

end Sys2Proof.Machine
end

