-- ==== Sys2Proof/Laws/Calls.lean ====
section
/-! SUPPORT. The frames of the call records and the scanner's hand-over: the fields of State an operation leaves alone. -/

namespace Sys2Proof.Machine

open Sys2Proof

@[simp] theorem State.settle_frame (s : State) :
    (s.settle).now = s.now ∧ (s.settle).inReset = s.inReset ∧ (s.settle).ctl = s.ctl ∧ (s.settle).iso = s.iso ∧
      (s.settle).scan = s.scan ∧ (s.settle).dec = s.dec ∧ (s.settle).lko = s.lko ∧ (s.settle).link = s.link ∧
      (s.settle).freeIndex = s.freeIndex ∧ (s.settle).wire = s.wire ∧ (s.settle).pending = s.pending := by
  simp [State.settle]

@[simp] theorem State.stopDecoder_frame (s : State) (l : Line) :
    (s.stopDecoder l).now = s.now ∧ (s.stopDecoder l).inReset = s.inReset ∧ (s.stopDecoder l).ctl = s.ctl ∧
      (s.stopDecoder l).iso = s.iso ∧ (s.stopDecoder l).scan = s.scan ∧ (s.stopDecoder l).calls = s.calls ∧
      (s.stopDecoder l).ldt = s.ldt ∧ (s.stopDecoder l).lko = s.lko ∧ (s.stopDecoder l).link = s.link ∧
      (s.stopDecoder l).tx = s.tx ∧ (s.stopDecoder l).view = s.view ∧ (s.stopDecoder l).hunt = s.hunt ∧
      (s.stopDecoder l).sup = s.sup ∧ (s.stopDecoder l).senders = s.senders ∧ (s.stopDecoder l).arb = s.arb ∧
      (s.stopDecoder l).freeIndex = s.freeIndex ∧ (s.stopDecoder l).wire = s.wire ∧ (s.stopDecoder l).pending =
      s.pending := by
  simp [State.stopDecoder]

@[simp] theorem State.endGuard_frame (s : State) (l : Line) :
    (s.endGuard l).now = s.now ∧ (s.endGuard l).inReset = s.inReset ∧ (s.endGuard l).ctl = s.ctl ∧ (s.endGuard
      l).iso = s.iso ∧ (s.endGuard l).dec = s.dec ∧ (s.endGuard l).calls = s.calls ∧ (s.endGuard l).ldt = s.ldt
      ∧ (s.endGuard l).lko = s.lko ∧ (s.endGuard l).link = s.link ∧ (s.endGuard l).tx = s.tx ∧ (s.endGuard
      l).view = s.view ∧ (s.endGuard l).hunt = s.hunt ∧ (s.endGuard l).sup = s.sup ∧ (s.endGuard l).senders =
      s.senders ∧ (s.endGuard l).arb = s.arb ∧ (s.endGuard l).freeIndex = s.freeIndex ∧ (s.endGuard l).wire =
      s.wire ∧ (s.endGuard l).pending = s.pending := by
  simp [State.endGuard]

@[simp] theorem State.startCall_frame (s : State) (l : Line) :
    (s.startCall l).now = s.now ∧ (s.startCall l).inReset = s.inReset ∧ (s.startCall l).ctl = s.ctl ∧
      (s.startCall l).iso = s.iso ∧ (s.startCall l).lko = s.lko ∧ (s.startCall l).link = s.link ∧ (s.startCall
      l).tx = s.tx ∧ (s.startCall l).view = s.view ∧ (s.startCall l).sup = s.sup ∧ (s.startCall l).senders =
      s.senders ∧ (s.startCall l).arb = s.arb ∧ (s.startCall l).freeIndex = s.freeIndex ∧ (s.startCall l).wire =
      s.wire ∧ (s.startCall l).pending = s.pending := by
  unfold State.startCall
  dsimp only
  repeat' split
  all_goals simp

@[simp] theorem State.lockout_frame (s : State) (l : Line) :
    (s.lockout l).now = s.now ∧ (s.lockout l).inReset = s.inReset ∧ (s.lockout l).ctl = s.ctl ∧ (s.lockout
      l).iso = s.iso ∧ (s.lockout l).scan = s.scan ∧ (s.lockout l).link = s.link ∧ (s.lockout l).view = s.view ∧
      (s.lockout l).senders = s.senders ∧ (s.lockout l).arb = s.arb ∧ (s.lockout l).freeIndex = s.freeIndex ∧
      (s.lockout l).wire = s.wire ∧ (s.lockout l).pending = s.pending := by
  simp [State.lockout]

@[simp] theorem State.clearCall_frame (s : State) (l : Line) :
    (s.clearCall l).now = s.now ∧ (s.clearCall l).inReset = s.inReset ∧ (s.clearCall l).ctl = s.ctl ∧
      (s.clearCall l).iso = s.iso ∧ (s.clearCall l).link = s.link ∧ (s.clearCall l).arb = s.arb ∧ (s.clearCall
      l).freeIndex = s.freeIndex ∧ (s.clearCall l).wire = s.wire ∧ (s.clearCall l).pending = s.pending := by
  unfold State.clearCall
  dsimp only
  repeat' split
  all_goals simp

@[simp] theorem State.enterHunting_frame (s : State) (l : Line) :
    (s.enterHunting l).now = s.now ∧ (s.enterHunting l).inReset = s.inReset ∧ (s.enterHunting l).ctl = s.ctl ∧
      (s.enterHunting l).iso = s.iso ∧ (s.enterHunting l).scan = s.scan ∧ (s.enterHunting l).dec = s.dec ∧
      (s.enterHunting l).ldt = s.ldt ∧ (s.enterHunting l).lko = s.lko ∧ (s.enterHunting l).link = s.link ∧
      (s.enterHunting l).tx = s.tx ∧ (s.enterHunting l).view = s.view ∧ (s.enterHunting l).sup = s.sup ∧
      (s.enterHunting l).senders = s.senders ∧ (s.enterHunting l).arb = s.arb ∧ (s.enterHunting l).freeIndex =
      s.freeIndex ∧ (s.enterHunting l).wire = s.wire ∧ (s.enterHunting l).pending = s.pending := by
  simp [State.enterHunting]

@[simp] theorem State.callFailed_frame (s : State) (l : Line) :
    (s.callFailed l).now = s.now ∧ (s.callFailed l).inReset = s.inReset ∧ (s.callFailed l).ctl = s.ctl ∧
      (s.callFailed l).iso = s.iso ∧ (s.callFailed l).scan = s.scan ∧ (s.callFailed l).link = s.link ∧
      (s.callFailed l).view = s.view ∧ (s.callFailed l).senders = s.senders ∧ (s.callFailed l).arb = s.arb ∧
      (s.callFailed l).freeIndex = s.freeIndex ∧ (s.callFailed l).wire = s.wire ∧ (s.callFailed l).pending =
      s.pending := by
  unfold State.callFailed
  dsimp only
  repeat' split
  all_goals simp

@[simp] theorem State.joinQueue_frame (s : State) (l : Line) (e : Entry) :
    (s.joinQueue l e).now = s.now ∧ (s.joinQueue l e).inReset = s.inReset ∧ (s.joinQueue l e).ctl = s.ctl ∧
      (s.joinQueue l e).iso = s.iso ∧ (s.joinQueue l e).scan = s.scan ∧ (s.joinQueue l e).dec = s.dec ∧
      (s.joinQueue l e).ldt = s.ldt ∧ (s.joinQueue l e).lko = s.lko ∧ (s.joinQueue l e).link = s.link ∧
      (s.joinQueue l e).tx = s.tx ∧ (s.joinQueue l e).view = s.view ∧ (s.joinQueue l e).hunt = s.hunt ∧
      (s.joinQueue l e).sup = s.sup ∧ (s.joinQueue l e).senders = s.senders ∧ (s.joinQueue l e).arb = s.arb ∧
      (s.joinQueue l e).freeIndex = s.freeIndex ∧ (s.joinQueue l e).wire = s.wire ∧ (s.joinQueue l e).pending =
      s.pending := by
  unfold State.joinQueue
  dsimp only
  repeat' split
  all_goals simp

@[simp] theorem State.handEntry_frame (s : State) (l : Line) (e : Entry) :
    (s.handEntry l e).now = s.now ∧ (s.handEntry l e).inReset = s.inReset ∧ (s.handEntry l e).ctl = s.ctl ∧
      (s.handEntry l e).iso = s.iso ∧ (s.handEntry l e).scan = s.scan ∧ (s.handEntry l e).link = s.link ∧
      (s.handEntry l e).freeIndex = s.freeIndex ∧ (s.handEntry l e).wire = s.wire ∧ (s.handEntry l e).pending =
      s.pending := by
  unfold State.handEntry
  dsimp only
  repeat' split
  all_goals simp

@[simp] theorem State.takeDecoded_frame (s : State) (l : Line) (d : Decoded) :
    (s.takeDecoded l d).now = s.now ∧ (s.takeDecoded l d).inReset = s.inReset ∧ (s.takeDecoded l d).ctl = s.ctl
      ∧ (s.takeDecoded l d).iso = s.iso ∧ (s.takeDecoded l d).scan = s.scan ∧ (s.takeDecoded l d).link = s.link
      ∧ (s.takeDecoded l d).freeIndex = s.freeIndex ∧ (s.takeDecoded l d).wire = s.wire ∧ (s.takeDecoded l
      d).pending = s.pending := by
  unfold State.takeDecoded
  dsimp only
  repeat' split
  all_goals simp

@[simp] theorem State.offHookMark_frame (s : State) (l : Line) :
    (s.offHookMark l).now = s.now ∧ (s.offHookMark l).inReset = s.inReset ∧ (s.offHookMark l).ctl = s.ctl ∧
      (s.offHookMark l).iso = s.iso ∧ (s.offHookMark l).lko = s.lko ∧ (s.offHookMark l).link = s.link ∧
      (s.offHookMark l).freeIndex = s.freeIndex ∧ (s.offHookMark l).wire = s.wire ∧ (s.offHookMark l).pending =
      s.pending := by
  unfold State.offHookMark
  dsimp only
  repeat' split
  all_goals simp

@[simp] theorem State.clearMark_frame (s : State) (l : Line) :
    (s.clearMark l).now = s.now ∧ (s.clearMark l).inReset = s.inReset ∧ (s.clearMark l).ctl = s.ctl ∧
      (s.clearMark l).iso = s.iso ∧ (s.clearMark l).link = s.link ∧ (s.clearMark l).freeIndex = s.freeIndex ∧
      (s.clearMark l).wire = s.wire ∧ (s.clearMark l).pending = s.pending := by
  unfold State.clearMark
  repeat' split
  all_goals simp

@[simp] theorem State.thresholdMark_frame (s : State) (l : Line) :
    (s.thresholdMark l).now = s.now ∧ (s.thresholdMark l).inReset = s.inReset ∧ (s.thresholdMark l).ctl = s.ctl
      ∧ (s.thresholdMark l).iso = s.iso ∧ (s.thresholdMark l).scan = s.scan ∧ (s.thresholdMark l).link = s.link
      ∧ (s.thresholdMark l).freeIndex = s.freeIndex ∧ (s.thresholdMark l).wire = s.wire ∧ (s.thresholdMark
      l).pending = s.pending := by
  unfold State.thresholdMark
  repeat' split
  all_goals simp

@[simp] theorem State.takeMarks_frame (s : State) (l : Line) :
    (s.takeMarks l).now = s.now ∧ (s.takeMarks l).inReset = s.inReset ∧ (s.takeMarks l).ctl = s.ctl ∧
      (s.takeMarks l).iso = s.iso ∧ (s.takeMarks l).link = s.link ∧ (s.takeMarks l).freeIndex = s.freeIndex ∧
      (s.takeMarks l).wire = s.wire ∧ (s.takeMarks l).pending = s.pending := by
  simp [State.takeMarks]

@[simp] theorem State.handEdge_frame (s : State) (l : Line) (ed : Loop) :
    (s.handEdge l ed).now = s.now ∧ (s.handEdge l ed).inReset = s.inReset ∧ (s.handEdge l ed).ctl = s.ctl ∧
      (s.handEdge l ed).iso = s.iso ∧ (s.handEdge l ed).link = s.link ∧ (s.handEdge l ed).freeIndex =
      s.freeIndex ∧ (s.handEdge l ed).wire = s.wire ∧ (s.handEdge l ed).pending = s.pending := by
  unfold State.handEdge
  repeat' split
  all_goals simp

@[simp] theorem State.applySample_frame (s : State) (l : Line) (b : Bool) :
    (s.applySample l b).now = s.now ∧ (s.applySample l b).inReset = s.inReset ∧ (s.applySample l b).ctl = s.ctl
      ∧ (s.applySample l b).iso = s.iso ∧ (s.applySample l b).link = s.link ∧ (s.applySample l b).freeIndex =
      s.freeIndex ∧ (s.applySample l b).wire = s.wire ∧ (s.applySample l b).pending = s.pending := by
  unfold State.applySample
  dsimp only
  repeat' split
  all_goals simp

@[simp] theorem State.blockLine_frame (s : State) (l : Line) :
    (s.blockLine l).now = s.now ∧ (s.blockLine l).inReset = s.inReset ∧ (s.blockLine l).ctl = s.ctl ∧
      (s.blockLine l).iso = s.iso ∧ (s.blockLine l).dec = s.dec ∧ (s.blockLine l).ldt = s.ldt ∧ (s.blockLine
      l).link = s.link ∧ (s.blockLine l).tx = s.tx ∧ (s.blockLine l).view = s.view ∧ (s.blockLine l).hunt =
      s.hunt ∧ (s.blockLine l).sup = s.sup ∧ (s.blockLine l).senders = s.senders ∧ (s.blockLine l).arb = s.arb ∧
      (s.blockLine l).freeIndex = s.freeIndex ∧ (s.blockLine l).wire = s.wire ∧ (s.blockLine l).pending =
      s.pending := by
  unfold State.blockLine
  dsimp only
  repeat' split
  all_goals simp

@[simp] theorem State.unblockLine_frame (s : State) (l : Line) :
    (s.unblockLine l).now = s.now ∧ (s.unblockLine l).inReset = s.inReset ∧ (s.unblockLine l).ctl = s.ctl ∧
      (s.unblockLine l).iso = s.iso ∧ (s.unblockLine l).dec = s.dec ∧ (s.unblockLine l).ldt = s.ldt ∧
      (s.unblockLine l).link = s.link ∧ (s.unblockLine l).tx = s.tx ∧ (s.unblockLine l).view = s.view ∧
      (s.unblockLine l).hunt = s.hunt ∧ (s.unblockLine l).sup = s.sup ∧ (s.unblockLine l).senders = s.senders ∧
      (s.unblockLine l).arb = s.arb ∧ (s.unblockLine l).freeIndex = s.freeIndex ∧ (s.unblockLine l).wire =
      s.wire ∧ (s.unblockLine l).pending = s.pending := by
  unfold State.unblockLine
  dsimp only
  repeat' split
  all_goals simp

end Sys2Proof.Machine
end

