-- ==== Sys2Proof/Laws/Inner.lean ====
section
/-! SUPPORT. The frames of the operations inside the view, the Hunt Unit and the Trunk Supervisor: the fields of these
records that an operation leaves alone although it writes others of them. -/

namespace Sys2Proof.Machine

open Sys2Proof

@[simp] theorem State.callShift_inner (s : State) :
    (s.callShift).sup.inputs = s.sup.inputs ∧ (s.callShift).sup.probeIntervals = s.sup.probeIntervals ∧
      (s.callShift).sup.seize = s.sup.seize ∧ (s.callShift).sup.sessions = s.sup.sessions ∧
      (s.callShift).sup.points = s.sup.points := by
  simp [State.callShift, Supervisor.shiftCalled]

@[simp] theorem State.setPoints_inner (s : State) (pts : Vector Bool 64) :
    (s.setPoints pts).sup.inputs = s.sup.inputs ∧ (s.setPoints pts).sup.probeIntervals = s.sup.probeIntervals ∧
      (s.setPoints pts).sup.seize = s.sup.seize ∧ (s.setPoints pts).sup.sessions = s.sup.sessions := by
  unfold State.setPoints
  repeat' split
  all_goals simp

@[simp] theorem State.openTrunk_inner (s : State) (t : Trunk) :
    (s.openTrunk t).sup.inputs = s.sup.inputs ∧ (s.openTrunk t).sup.probeIntervals = s.sup.probeIntervals ∧
      (s.openTrunk t).sup.seize = s.sup.seize ∧ (s.openTrunk t).sup.sessions = s.sup.sessions := by
  simp [State.openTrunk]

@[simp] theorem State.closePair_inner (s : State) (l : Line) (t : Trunk) :
    (s.closePair l t).sup.inputs = s.sup.inputs ∧ (s.closePair l t).sup.probeIntervals = s.sup.probeIntervals ∧
      (s.closePair l t).sup.seize = s.sup.seize ∧ (s.closePair l t).sup.sessions = s.sup.sessions := by
  unfold State.closePair
  repeat' split
  all_goals simp

@[simp] theorem State.freeOwn_inner (s : State) (t : Trunk) :
    (s.freeOwn t).view.presence = s.view.presence ∧ (s.freeOwn t).view.reportInterval = s.view.reportInterval ∧
      (s.freeOwn t).view.staleReleases = s.view.staleReleases ∧ (s.freeOwn t).view.dualHolds = s.view.dualHolds
      ∧ (s.freeOwn t).view.probeReports = s.view.probeReports := by
  unfold State.freeOwn
  repeat' split
  all_goals simp

@[simp] theorem State.conflictOwn_inner (s : State) (t : Trunk) :
    (s.conflictOwn t).view.presence = s.view.presence ∧ (s.conflictOwn t).view.reportInterval =
      s.view.reportInterval ∧ (s.conflictOwn t).view.staleReleases = s.view.staleReleases ∧ (s.conflictOwn
      t).view.dualHolds = s.view.dualHolds ∧ (s.conflictOwn t).view.probeReports = s.view.probeReports := by
  unfold State.conflictOwn
  repeat' split
  all_goals simp

@[simp] theorem State.makeOwn_inner (s : State) (t : Trunk) (line : Option Line) :
    (s.makeOwn t line).view.presence = s.view.presence ∧ (s.makeOwn t line).view.reportInterval =
      s.view.reportInterval ∧ (s.makeOwn t line).view.staleReleases = s.view.staleReleases ∧ (s.makeOwn t
      line).view.dualHolds = s.view.dualHolds ∧ (s.makeOwn t line).view.probeReports = s.view.probeReports := by
  simp [State.makeOwn]

@[simp] theorem State.makeHeld_inner (s : State) (t : Trunk) (p : Slot) (line : Option Line) :
    (s.makeHeld t p line).view.presence = s.view.presence ∧ (s.makeHeld t p line).view.reportInterval =
      s.view.reportInterval ∧ (s.makeHeld t p line).view.staleReleases = s.view.staleReleases ∧ (s.makeHeld t p
      line).view.dualHolds = s.view.dualHolds ∧ (s.makeHeld t p line).view.probeReports = s.view.probeReports := by
  simp [State.makeHeld]

@[simp] theorem State.setRetiredBy_inner (s : State) (t : Trunk) (r : Option Slot) :
    (s.setRetiredBy t r).view.presence = s.view.presence ∧ (s.setRetiredBy t r).view.reportInterval =
      s.view.reportInterval ∧ (s.setRetiredBy t r).view.staleReleases = s.view.staleReleases ∧ (s.setRetiredBy t
      r).view.dualHolds = s.view.dualHolds ∧ (s.setRetiredBy t r).view.probeReports = s.view.probeReports := by
  simp [State.setRetiredBy]

@[simp] theorem State.raiseCount_inner (s : State) (t : Trunk) :
    (s.raiseCount t).view.presence = s.view.presence ∧ (s.raiseCount t).view.reportInterval =
      s.view.reportInterval ∧ (s.raiseCount t).view.staleReleases = s.view.staleReleases ∧ (s.raiseCount
      t).view.dualHolds = s.view.dualHolds ∧ (s.raiseCount t).view.probeReports = s.view.probeReports := by
  unfold State.raiseCount
  dsimp only
  repeat' split
  all_goals simp

@[simp] theorem State.retireSelf_inner (s : State) (t : Trunk) (c : Cause) :
    (s.retireSelf t c).view.presence = s.view.presence ∧ (s.retireSelf t c).view.reportInterval =
      s.view.reportInterval ∧ (s.retireSelf t c).view.staleReleases = s.view.staleReleases ∧ (s.retireSelf t
      c).view.dualHolds = s.view.dualHolds ∧ (s.retireSelf t c).view.probeReports = s.view.probeReports ∧
      (s.retireSelf t c).sup.inputs = s.sup.inputs ∧ (s.retireSelf t c).sup.seize = s.sup.seize ∧ (s.retireSelf
      t c).sup.sessions = s.sup.sessions ∧ (s.retireSelf t c).sup.points = s.sup.points := by
  simp [State.retireSelf]

@[simp] theorem State.restoreSelf_inner (s : State) (t : Trunk) :
    (s.restoreSelf t).view.presence = s.view.presence ∧ (s.restoreSelf t).view.reportInterval =
      s.view.reportInterval ∧ (s.restoreSelf t).view.staleReleases = s.view.staleReleases ∧ (s.restoreSelf
      t).view.dualHolds = s.view.dualHolds ∧ (s.restoreSelf t).view.probeReports = s.view.probeReports ∧
      (s.restoreSelf t).sup.inputs = s.sup.inputs ∧ (s.restoreSelf t).sup.seize = s.sup.seize ∧ (s.restoreSelf
      t).sup.sessions = s.sup.sessions ∧ (s.restoreSelf t).sup.points = s.sup.points := by
  simp [State.restoreSelf]

@[simp] theorem State.probeAgain_inner (s : State) (t : Trunk) :
    (s.probeAgain t).sup.inputs = s.sup.inputs ∧ (s.probeAgain t).sup.seize = s.sup.seize ∧ (s.probeAgain
      t).sup.sessions = s.sup.sessions ∧ (s.probeAgain t).sup.points = s.sup.points := by
  unfold State.probeAgain
  repeat' split
  all_goals simp

@[simp] theorem State.connectAudio_inner (s : State) (l : Line) :
    (s.connectAudio l).sup.inputs = s.sup.inputs ∧ (s.connectAudio l).sup.probeIntervals = s.sup.probeIntervals
      ∧ (s.connectAudio l).sup.seize = s.sup.seize ∧ (s.connectAudio l).sup.sessions = s.sup.sessions := by
  unfold State.connectAudio
  dsimp only
  repeat' split
  all_goals simp

@[simp] theorem State.removeHead_inner (s : State) (l : Line) :
    (s.removeHead l).sup.inputs = s.sup.inputs ∧ (s.removeHead l).sup.probeIntervals = s.sup.probeIntervals ∧
      (s.removeHead l).sup.seize = s.sup.seize ∧ (s.removeHead l).sup.sessions = s.sup.sessions := by
  unfold State.removeHead
  dsimp only
  repeat' split
  all_goals simp

@[simp] theorem State.identityEnded_inner (s : State) (l : Line) :
    (s.identityEnded l).sup.inputs = s.sup.inputs ∧ (s.identityEnded l).sup.probeIntervals =
      s.sup.probeIntervals ∧ (s.identityEnded l).sup.seize = s.sup.seize ∧ (s.identityEnded l).sup.sessions =
      s.sup.sessions := by
  unfold State.identityEnded
  dsimp only
  repeat' split
  all_goals simp

@[simp] theorem State.spoil_inner (s : State) (l : Line) :
    (s.spoil l).sup.inputs = s.sup.inputs ∧ (s.spoil l).sup.probeIntervals = s.sup.probeIntervals ∧ (s.spoil
      l).sup.seize = s.sup.seize ∧ (s.spoil l).sup.sessions = s.sup.sessions := by
  simp [State.spoil]

@[simp] theorem State.askBreak_inner (s : State) (i : Fin 2) (t : Trunk) :
    (s.askBreak i t).sup.inputs = s.sup.inputs ∧ (s.askBreak i t).sup.probeIntervals = s.sup.probeIntervals ∧
      (s.askBreak i t).sup.points = s.sup.points := by
  unfold State.askBreak
  repeat' split
  all_goals simp

@[simp] theorem State.nextCode_inner (s : State) (i : Fin 2) (l : Line) (t : Trunk) :
    (s.nextCode i l t).sup.inputs = s.sup.inputs ∧ (s.nextCode i l t).sup.probeIntervals = s.sup.probeIntervals := by
  unfold State.nextCode
  dsimp only
  repeat' split
  all_goals simp

@[simp] theorem State.codeBoundary_inner (s : State) (i : Fin 2) :
    (s.codeBoundary i).sup.inputs = s.sup.inputs ∧ (s.codeBoundary i).sup.probeIntervals = s.sup.probeIntervals := by
  unfold State.codeBoundary
  dsimp only
  repeat' split
  all_goals simp

@[simp] theorem State.grant_inner (s : State) (i : Fin 2) (l : Line) :
    (s.grant i l).sup.inputs = s.sup.inputs ∧ (s.grant i l).sup.probeIntervals = s.sup.probeIntervals := by
  unfold State.grant
  dsimp only
  repeat' split
  all_goals simp

theorem settleRounds_inner (n : Nat) (s : State) :
    (settleRounds n s).sup.inputs = s.sup.inputs ∧ (settleRounds n s).sup.probeIntervals = s.sup.probeIntervals := by
  induction n generalizing s with
  | zero => simp [settleRounds]
  | succ n ih =>
    simp only [settleRounds]
    split
    · simp [ih]
    · simp

@[simp] theorem State.settleSenders_inner (s : State) :
    (s.settleSenders).sup.inputs = s.sup.inputs ∧ (s.settleSenders).sup.probeIntervals = s.sup.probeIntervals := settleRounds_inner 10 s

@[simp] theorem State.seizeTrunk_inner (s : State) (t : Trunk) (pur : Purpose) :
    (s.seizeTrunk t pur).sup.inputs = s.sup.inputs ∧ (s.seizeTrunk t pur).sup.probeIntervals =
      s.sup.probeIntervals ∧ (s.seizeTrunk t pur).sup.points = s.sup.points := by
  simp [State.seizeTrunk]

@[simp] theorem State.releaseTrunk_inner (s : State) (t : Trunk) (c : Cause) :
    (s.releaseTrunk t c).view.presence = s.view.presence ∧ (s.releaseTrunk t c).view.reportInterval =
      s.view.reportInterval ∧ (s.releaseTrunk t c).view.staleReleases = s.view.staleReleases ∧ (s.releaseTrunk t
      c).view.dualHolds = s.view.dualHolds ∧ (s.releaseTrunk t c).view.probeReports = s.view.probeReports ∧
      (s.releaseTrunk t c).sup.inputs = s.sup.inputs ∧ (s.releaseTrunk t c).sup.probeIntervals =
      s.sup.probeIntervals := by
  simp [State.releaseTrunk]

@[simp] theorem State.endSession_inner (s : State) (t : Trunk) (c : Cause) :
    (s.endSession t c).view.presence = s.view.presence ∧ (s.endSession t c).view.reportInterval =
      s.view.reportInterval ∧ (s.endSession t c).view.staleReleases = s.view.staleReleases ∧ (s.endSession t
      c).view.dualHolds = s.view.dualHolds ∧ (s.endSession t c).view.probeReports = s.view.probeReports ∧
      (s.endSession t c).sup.inputs = s.sup.inputs := by
  unfold State.endSession
  repeat' split
  all_goals simp

@[simp] theorem State.countFailure_inner (s : State) (t : Trunk) :
    (s.countFailure t).view.presence = s.view.presence ∧ (s.countFailure t).view.reportInterval =
      s.view.reportInterval ∧ (s.countFailure t).view.staleReleases = s.view.staleReleases ∧ (s.countFailure
      t).view.dualHolds = s.view.dualHolds ∧ (s.countFailure t).view.probeReports = s.view.probeReports ∧
      (s.countFailure t).sup.inputs = s.sup.inputs ∧ (s.countFailure t).sup.seize = s.sup.seize ∧
      (s.countFailure t).sup.sessions = s.sup.sessions ∧ (s.countFailure t).sup.points = s.sup.points := by
  unfold State.countFailure
  dsimp only
  repeat' split
  all_goals simp

@[simp] theorem State.probeNotMade_inner (s : State) (t : Trunk) :
    (s.probeNotMade t).sup.inputs = s.sup.inputs ∧ (s.probeNotMade t).sup.seize = s.sup.seize ∧ (s.probeNotMade
      t).sup.sessions = s.sup.sessions ∧ (s.probeNotMade t).sup.points = s.sup.points := by
  simp [State.probeNotMade]

@[simp] theorem State.withdrawClaim_inner (s : State) :
    (s.withdrawClaim).sup.inputs = s.sup.inputs ∧ (s.withdrawClaim).sup.seize = s.sup.seize ∧
      (s.withdrawClaim).sup.sessions = s.sup.sessions ∧ (s.withdrawClaim).sup.points = s.sup.points ∧
      (s.withdrawClaim).hunt.queue = s.hunt.queue ∧ (s.withdrawClaim).hunt.probe = s.hunt.probe ∧
      (s.withdrawClaim).hunt.idleSince = s.hunt.idleSince := by
  unfold State.withdrawClaim
  dsimp only
  repeat' split
  all_goals simp

@[simp] theorem State.makeChoice_inner (s : State) :
    (s.makeChoice).hunt.queue = s.hunt.queue ∧ (s.makeChoice).hunt.probe = s.hunt.probe ∧
      (s.makeChoice).hunt.idleSince = s.hunt.idleSince := by
  unfold State.makeChoice
  repeat' split
  all_goals simp

@[simp] theorem State.judgeActive_inner (s : State) :
    (s.judgeActive).sup.inputs = s.sup.inputs ∧ (s.judgeActive).sup.seize = s.sup.seize ∧
      (s.judgeActive).sup.sessions = s.sup.sessions ∧ (s.judgeActive).sup.points = s.sup.points ∧
      (s.judgeActive).hunt.queue = s.hunt.queue ∧ (s.judgeActive).hunt.probe = s.hunt.probe ∧
      (s.judgeActive).hunt.idleSince = s.hunt.idleSince := by
  unfold State.judgeActive
  repeat' split
  all_goals simp

@[simp] theorem State.huntDrop_inner (s : State) (l : Line) :
    (s.huntDrop l).sup.inputs = s.sup.inputs ∧ (s.huntDrop l).sup.seize = s.sup.seize ∧ (s.huntDrop
      l).sup.sessions = s.sup.sessions ∧ (s.huntDrop l).sup.points = s.sup.points ∧ (s.huntDrop l).hunt.probe =
      s.hunt.probe ∧ (s.huntDrop l).hunt.idleSince = s.hunt.idleSince := by
  unfold State.huntDrop
  dsimp only
  repeat' split
  all_goals simp

@[simp] theorem State.seizeForLine_inner (s : State) (t : Trunk) (l : Line) :
    (s.seizeForLine t l).sup.inputs = s.sup.inputs ∧ (s.seizeForLine t l).sup.probeIntervals =
      s.sup.probeIntervals ∧ (s.seizeForLine t l).sup.points = s.sup.points := by
  simp [State.seizeForLine]

@[simp] theorem State.unqueue_inner (s : State) (l : Line) :
    (s.unqueue l).hunt.claim = s.hunt.claim ∧ (s.unqueue l).hunt.probe = s.hunt.probe ∧ (s.unqueue
      l).hunt.idleSince = s.hunt.idleSince := by
  simp [State.unqueue]

@[simp] theorem State.queueHead_inner (s : State) (l : Line) :
    (s.queueHead l).hunt.claim = s.hunt.claim ∧ (s.queueHead l).hunt.probe = s.hunt.probe ∧ (s.queueHead
      l).hunt.idleSince = s.hunt.idleSince := by
  simp [State.queueHead]

@[simp] theorem State.queueTail_inner (s : State) (l : Line) :
    (s.queueTail l).hunt.claim = s.hunt.claim ∧ (s.queueTail l).hunt.probe = s.hunt.probe ∧ (s.queueTail
      l).hunt.idleSince = s.hunt.idleSince := by
  simp [State.queueTail]

@[simp] theorem State.judgeIsolated_inner (s : State) :
    (s.judgeIsolated).view.presence = s.view.presence ∧ (s.judgeIsolated).view.reportInterval =
      s.view.reportInterval ∧ (s.judgeIsolated).view.staleReleases = s.view.staleReleases ∧
      (s.judgeIsolated).view.dualHolds = s.view.dualHolds ∧ (s.judgeIsolated).view.probeReports =
      s.view.probeReports ∧ (s.judgeIsolated).sup.inputs = s.sup.inputs ∧ (s.judgeIsolated).sup.probeIntervals =
      s.sup.probeIntervals ∧ (s.judgeIsolated).sup.points = s.sup.points ∧ (s.judgeIsolated).hunt.claim =
      s.hunt.claim ∧ (s.judgeIsolated).hunt.probe = s.hunt.probe ∧ (s.judgeIsolated).hunt.idleSince =
      s.hunt.idleSince := by
  unfold State.judgeIsolated
  repeat' split
  all_goals simp

@[simp] theorem State.judge_inner (s : State) :
    (s.judge).view.presence = s.view.presence ∧ (s.judge).view.reportInterval = s.view.reportInterval ∧
      (s.judge).view.staleReleases = s.view.staleReleases ∧ (s.judge).view.dualHolds = s.view.dualHolds ∧
      (s.judge).view.probeReports = s.view.probeReports ∧ (s.judge).sup.inputs = s.sup.inputs ∧
      (s.judge).sup.points = s.sup.points ∧ (s.judge).hunt.probe = s.hunt.probe ∧ (s.judge).hunt.idleSince =
      s.hunt.idleSince := by
  unfold State.judge
  repeat' split
  all_goals simp

@[simp] theorem State.settle_inner (s : State) :
    (s.settle).view.presence = s.view.presence ∧ (s.settle).view.reportInterval = s.view.reportInterval ∧
      (s.settle).view.staleReleases = s.view.staleReleases ∧ (s.settle).view.dualHolds = s.view.dualHolds ∧
      (s.settle).view.probeReports = s.view.probeReports ∧ (s.settle).sup.inputs = s.sup.inputs ∧
      (s.settle).hunt.probe = s.hunt.probe ∧ (s.settle).hunt.idleSince = s.hunt.idleSince := by
  simp [State.settle]

@[simp] theorem State.lockout_inner (s : State) (l : Line) :
    (s.lockout l).sup.inputs = s.sup.inputs ∧ (s.lockout l).sup.seize = s.sup.seize ∧ (s.lockout l).sup.sessions
      = s.sup.sessions ∧ (s.lockout l).sup.points = s.sup.points ∧ (s.lockout l).hunt.probe = s.hunt.probe ∧
      (s.lockout l).hunt.idleSince = s.hunt.idleSince := by
  simp [State.lockout]

@[simp] theorem State.startCall_inner (s : State) (l : Line) :
    (s.startCall l).hunt.claim = s.hunt.claim ∧ (s.startCall l).hunt.probe = s.hunt.probe ∧ (s.startCall
      l).hunt.idleSince = s.hunt.idleSince := by
  unfold State.startCall
  dsimp only
  repeat' split
  all_goals simp

end Sys2Proof.Machine
end

