-- ==== Sys2Proof/Laws/Arbiter.lean ====
section
/-! SUPPORT. Whose call a grant, a seizure and a settling can touch. -/

namespace Sys2Proof.Machine

open Sys2Proof

/-- A line other than `l` in the two respects that a sender's act can change: its call and its local dial tone. -/
def sameLine (s t : State) (m : Line) : Prop := t.call m = s.call m ∧ t.ldt[m] = s.ldt[m]

theorem sameLine.refl (s : State) (m : Line) : sameLine s s m := ⟨rfl, rfl⟩

theorem sameLine.trans {s t u : State} {m : Line} (h : sameLine s t m) (g : sameLine t u m) : sameLine s u m :=
  ⟨g.1.trans h.1, g.2.trans h.2⟩

theorem sameLine_of_fields {s t : State} {m : Line} (h : t.calls = s.calls) (g : t.ldt = s.ldt) :
    sameLine s t m := by simp [sameLine, State.call, h, g]

theorem sameLine_setCall (s : State) {l m : Line} (x : CallRecord) (h : m ≠ l) : sameLine s (s.setCall l x) m := by
  simp [sameLine, h]

theorem sameLine_toneOff (s : State) {l m : Line} (h : m ≠ l) : sameLine s (s.toneOff l) m := by
  unfold State.toneOff
  refine (sameLine_setCall s { s.call l with localTone := false } h).trans ?_
  have := State.setLdt_ldt (s.setCall l { s.call l with localTone := false }) l false m
  simp only [h, if_false] at this
  exact ⟨rfl, this⟩

theorem sameLine_connectAudio (s : State) {l m : Line} (h : m ≠ l) : sameLine s (s.connectAudio l) m := by
  unfold State.connectAudio
  dsimp only
  split
  · have := (sameLine_setCall s { s.call l with audio := true } h).trans (sameLine_toneOff _ h)
    split
    · exact this.trans (sameLine_of_fields (by simp) (by simp))
    · exact this
  · exact .refl s m

theorem sameLine_removeHead (s : State) {l m : Line} (h : m ≠ l) : sameLine s (s.removeHead l) m := by
  unfold State.removeHead
  dsimp only
  split
  · exact (sameLine_setCall s _ h).trans (sameLine_connectAudio _ h)
  · exact sameLine_setCall s _ h

theorem sameLine_identityEnded (s : State) {l m : Line} (h : m ≠ l) : sameLine s (s.identityEnded l) m := by
  unfold State.identityEnded
  dsimp only
  split
  · exact (sameLine_setCall s _ h).trans (sameLine_connectAudio _ h)
  · exact sameLine_setCall s _ h

theorem sameLine_spoil (s : State) {l m : Line} (h : m ≠ l) : sameLine s (s.spoil l) m := by
  unfold State.spoil
  exact (sameLine_setCall s _ h).trans (sameLine_connectAudio _ h)

theorem sameLine_nextCode (s : State) (i : Fin 2) (t : Trunk) {l m : Line} (h : m ≠ l) :
    sameLine s (s.nextCode i l t) m := by
  unfold State.nextCode
  dsimp only
  repeat' split
  all_goals first
    | (refine sameLine_of_fields ?_ ?_ <;> simp; done)
    | (refine (sameLine_spoil s h).trans (sameLine_of_fields ?_ ?_) <;> simp)

/-- A code boundary changes no call but that of the sender's line. -/
theorem sameLine_codeBoundary (s : State) (i : Fin 2) {m : Line} (h : (s.sender i).line ≠ some m) :
    sameLine s (s.codeBoundary i) m := by
  unfold State.codeBoundary
  split
  · rename_i l t hl ht
    have hm : m ≠ l := fun e => h (by rw [hl, e])
    dsimp only
    refine sameLine.trans ?_ (sameLine_nextCode _ i t hm)
    split
    · split
      · exact (sameLine_removeHead s hm).trans (sameLine_identityEnded _ hm)
      · exact sameLine_identityEnded s hm
    · split
      · exact sameLine_removeHead s hm
      · exact .refl s m
  · exact .refl s m

theorem sameLine_grant (s : State) (i : Fin 2) {l m : Line} (h : m ≠ l) : sameLine s (s.grant i l) m := by
  unfold State.grant
  split
  · exact .refl s m
  · dsimp only
    refine sameLine.trans (sameLine_of_fields (by simp) (by simp)) (sameLine_codeBoundary _ i ?_)
    simpa using h.symm

/-- The request to be granted is one of the set. -/
theorem Arbiter.next_mem {a : Arbiter} {l : Line} (h : a.next = some l) : l ∈ a.requests := by
  have := List.find?_some h
  simpa using this

theorem State.wants_dialling {s : State} {l : Line} (h : s.wantsSender l = true) :
    (s.call l).state = .dialling := by
  simp only [State.wantsSender, State.sendable, Bool.and_eq_true, decide_eq_true_eq] at h
  exact h.1.1.1

/-- The arbiter's grants change the calls of DIALLING lines alone. -/
theorem sameLine_settleSenders (s : State) {m : Line} (h : (s.call m).state ≠ .dialling) :
    sameLine s s.settleSenders m := by
  unfold State.settleSenders
  have key : ∀ n (s : State), (s.call m).state ≠ .dialling → sameLine s (settleRounds n s) m := by
    intro n
    induction n with
    | zero => intro s _; exact sameLine_of_fields (by simp [settleRounds]) (by simp [settleRounds])
    | succ n ih =>
      intro s h
      simp only [settleRounds]
      have hr : sameLine s s.refreshRequests m := sameLine_of_fields (by simp) (by simp)
      split
      · rename_i i l _ hn
        have hl : l ∈ s.refreshRequests.arb.requests := Arbiter.next_mem hn
        have hw : s.wantsSender l = true := by
          simp only [State.refreshRequests, State.setArb_arb, List.mem_filter] at hl
          exact hl.2
        have hm : m ≠ l := fun e => h (e ▸ State.wants_dialling hw)
        have hg := hr.trans (sameLine_grant s.refreshRequests i hm)
        exact hg.trans (ih _ (by rw [hg.1]; exact h))
      · exact hr
  exact key 10 s h

/-- The Hunt Unit changes the calls of HUNTING lines alone, and those in ISOLATED alone. -/
theorem sameLine_judge (s : State) {m : Line}
    (h : (s.call m).state ≠ .hunting ∨ s.ctl.station ≠ .isolated) : sameLine s s.judge m := by
  unfold State.judge
  split
  · exact sameLine_of_fields (by simp) (by simp)
  · rename_i hs
    unfold State.judgeIsolated
    split
    · split
      · rename_i l _ _ hc
        have hm : m ≠ l := by
          rintro rfl
          rcases h with h | h
          · exact h hc.1
          · exact h hs
        refine ⟨?_, by simp⟩
        unfold State.seizeForLine
        rw [State.setCall_call, if_neg hm]
        simp [State.call]
      · exact .refl s m
    · exact .refl s m
  · exact .refl s m

/-- Settling leaves alone a call that is neither HUNTING nor DIALLING. -/
theorem sameLine_settle (s : State) {m : Line} (h : (s.call m).state ≠ .hunting ∨ s.ctl.station ≠ .isolated)
    (d : (s.call m).state ≠ .dialling) : sameLine s s.settle m := by
  have hj := sameLine_judge s h
  exact hj.trans (sameLine_settleSenders _ (by rw [hj.1]; exact d))

end Sys2Proof.Machine
end

