-- ==== Sys2Proof/Laws/Bursts.lean ====
section
/-! SUPPORT. What a tone sample can do: which sample of its burst a moment is, and the phases it takes. -/

namespace Sys2Proof.Machine

open Sys2Proof

/-- The moment is that of sample `j`: one not formed yet, of the burst, `j` ticks after its first (R178). -/
theorem Sender.sampleAt_eq_some {x : Sender} {profile : Fin 4} {now j : Nat} :
    x.sampleAt profile now = some j ↔ x.samples ≤ j ∧ j < burstSamples profile ∧
      x.endsAt + j * cell = now + burstSamples profile * cell := by
  unfold Sender.sampleAt
  dsimp only
  split <;> simp only [Option.some.injEq, reduceCtorEq, false_iff, cell] at * <;> omega

/-- No sample of the burst is at a moment that is none of its ticks to come (R178). -/
theorem Sender.sampleAt_eq_none {x : Sender} {profile : Fin 4} {now : Nat} :
    x.sampleAt profile now = none ↔ ∀ j, x.samples ≤ j → j < burstSamples profile →
      x.endsAt + j * cell ≠ now + burstSamples profile * cell := by
  rw [Option.eq_none_iff_forall_ne_some]
  simp only [ne_eq, Sender.sampleAt_eq_some]
  exact ⟨fun h j a b c => h j ⟨a, b, c⟩, fun h j ⟨a, b, c⟩ => h j a b c⟩

/-- The sample after the last one formed raises each phase by one increment (R184). -/
theorem Sender.phasesAt_next {x : Sender} (h : 0 < x.samples) (code : Code) :
    x.phasesAt code x.samples = (x.lowPhase + lowIncrement code.row, x.highPhase + highIncrement code.column) := by
  have : x.samples - (x.samples - 1) = 1 := by omega
  simp [Sender.phasesAt, this]

/-- The first sample of a burst keeps both phases (R184). -/
theorem Sender.phasesAt_first {x : Sender} (h : x.samples = 0) (code : Code) :
    x.phasesAt code 0 = (x.lowPhase, x.highPhase) := by
  simp [Sender.phasesAt, h]

/-- A sender that has formed each sample from phase 0 up to its last one has, at sample `j`, the phases j times the
increments of its code (R184). -/
theorem Sender.phasesAt_of_sound {x : Sender} {code : Code} {j : Nat} (hj : x.samples ≤ j)
    (hl : x.lowPhase = BitVec.ofNat 16 (x.samples - 1) * lowIncrement code.row)
    (hh : x.highPhase = BitVec.ofNat 16 (x.samples - 1) * highIncrement code.column) :
    x.phasesAt code j = (BitVec.ofNat 16 j * lowIncrement code.row, BitVec.ofNat 16 j * highIncrement code.column) := by
  have : BitVec.ofNat 16 j = BitVec.ofNat 16 (x.samples - 1) + BitVec.ofNat 16 (j - (x.samples - 1)) := by
    rw [← BitVec.ofNat_add]; congr 1; omega
  simp [Sender.phasesAt, hl, hh, this, BitVec.add_mul]

end Sys2Proof.Machine
end

