-- ==== Sys2Proof/Laws/Station.lean ====
section
/-! SUPPORT. The frames of Station Control's entries and the link's outcomes: the fields of State an operation leaves alone. -/

namespace Sys2Proof.Machine

open Sys2Proof

@[simp] theorem State.beginReset_frame (s : State) :
    (s.beginReset).now = s.now ∧ (s.beginReset).iso = s.iso ∧ (s.beginReset).scan = s.scan ∧ (s.beginReset).dec
      = s.dec ∧ (s.beginReset).calls = s.calls ∧ (s.beginReset).view = s.view ∧ (s.beginReset).hunt = s.hunt ∧
      (s.beginReset).arb = s.arb ∧ (s.beginReset).freeIndex = s.freeIndex ∧ (s.beginReset).wire = s.wire ∧
      (s.beginReset).pending = s.pending := by
  simp [State.beginReset]

@[simp] theorem State.halt_frame (s : State) (st : StationState) :
    (s.halt st).now = s.now ∧ (s.halt st).inReset = s.inReset ∧ (s.halt st).iso = s.iso ∧ (s.halt st).scan =
      s.scan ∧ (s.halt st).dec = s.dec ∧ (s.halt st).calls = s.calls ∧ (s.halt st).freeIndex = s.freeIndex ∧
      (s.halt st).wire = s.wire ∧ (s.halt st).pending = s.pending := by
  simp [State.halt]

theorem startCalls_frame (lines : List Line) (s : State) :
    (lines.foldl State.startCall s).now = s.now ∧ (lines.foldl State.startCall s).inReset = s.inReset ∧
      (lines.foldl State.startCall s).ctl = s.ctl ∧ (lines.foldl State.startCall s).iso = s.iso ∧ (lines.foldl
      State.startCall s).lko = s.lko ∧ (lines.foldl State.startCall s).link = s.link ∧ (lines.foldl
      State.startCall s).tx = s.tx ∧ (lines.foldl State.startCall s).view = s.view ∧ (lines.foldl
      State.startCall s).sup = s.sup ∧ (lines.foldl State.startCall s).senders = s.senders ∧ (lines.foldl
      State.startCall s).arb = s.arb ∧ (lines.foldl State.startCall s).wire = s.wire ∧ (lines.foldl
      State.startCall s).pending = s.pending := by
  induction lines generalizing s with
  | nil => simp
  | cons l rest ih => simp [ih]

@[simp] theorem State.reoffer_frame (s : State) :
    (s.reoffer).now = s.now ∧ (s.reoffer).inReset = s.inReset ∧ (s.reoffer).ctl = s.ctl ∧ (s.reoffer).iso =
      s.iso ∧ (s.reoffer).lko = s.lko ∧ (s.reoffer).link = s.link ∧ (s.reoffer).tx = s.tx ∧ (s.reoffer).view =
      s.view ∧ (s.reoffer).sup = s.sup ∧ (s.reoffer).senders = s.senders ∧ (s.reoffer).arb = s.arb ∧
      (s.reoffer).wire = s.wire ∧ (s.reoffer).pending = s.pending := by
  simp [State.reoffer, startCalls_frame]

@[simp] theorem State.enterListen_frame (s : State) :
    (s.enterListen).now = s.now ∧ (s.enterListen).inReset = s.inReset ∧ (s.enterListen).iso = s.iso ∧
      (s.enterListen).scan = s.scan ∧ (s.enterListen).dec = s.dec ∧ (s.enterListen).calls = s.calls ∧
      (s.enterListen).ldt = s.ldt ∧ (s.enterListen).lko = s.lko ∧ (s.enterListen).tx = s.tx ∧
      (s.enterListen).view = s.view ∧ (s.enterListen).hunt = s.hunt ∧ (s.enterListen).sup = s.sup ∧
      (s.enterListen).senders = s.senders ∧ (s.enterListen).arb = s.arb ∧ (s.enterListen).freeIndex =
      s.freeIndex ∧ (s.enterListen).wire = s.wire ∧ (s.enterListen).pending = s.pending := by
  simp [State.enterListen]

@[simp] theorem State.enterActive_frame (s : State) :
    (s.enterActive).now = s.now ∧ (s.enterActive).inReset = s.inReset ∧ (s.enterActive).lko = s.lko ∧
      (s.enterActive).link = s.link ∧ (s.enterActive).wire = s.wire ∧ (s.enterActive).pending = s.pending := by
  simp [State.enterActive]

@[simp] theorem State.dropClaim_frame (s : State) :
    (s.dropClaim).now = s.now ∧ (s.dropClaim).inReset = s.inReset ∧ (s.dropClaim).ctl = s.ctl ∧
      (s.dropClaim).iso = s.iso ∧ (s.dropClaim).scan = s.scan ∧ (s.dropClaim).dec = s.dec ∧ (s.dropClaim).calls
      = s.calls ∧ (s.dropClaim).ldt = s.ldt ∧ (s.dropClaim).lko = s.lko ∧ (s.dropClaim).link = s.link ∧
      (s.dropClaim).tx = s.tx ∧ (s.dropClaim).view = s.view ∧ (s.dropClaim).senders = s.senders ∧
      (s.dropClaim).arb = s.arb ∧ (s.dropClaim).freeIndex = s.freeIndex ∧ (s.dropClaim).wire = s.wire ∧
      (s.dropClaim).pending = s.pending := by
  unfold State.dropClaim
  dsimp only
  repeat' split
  all_goals simp

@[simp] theorem State.enterIsolated_frame (s : State) :
    (s.enterIsolated).now = s.now ∧ (s.enterIsolated).inReset = s.inReset ∧ (s.enterIsolated).lko = s.lko ∧
      (s.enterIsolated).senders = s.senders ∧ (s.enterIsolated).arb = s.arb ∧ (s.enterIsolated).wire = s.wire ∧
      (s.enterIsolated).pending = s.pending := by
  unfold State.enterIsolated
  dsimp only
  repeat' split
  all_goals simp

@[simp] theorem State.enterRejoin_frame (s : State) :
    (s.enterRejoin).now = s.now ∧ (s.enterRejoin).inReset = s.inReset ∧ (s.enterRejoin).scan = s.scan ∧
      (s.enterRejoin).dec = s.dec ∧ (s.enterRejoin).calls = s.calls ∧ (s.enterRejoin).ldt = s.ldt ∧
      (s.enterRejoin).lko = s.lko ∧ (s.enterRejoin).link = s.link ∧ (s.enterRejoin).view = s.view ∧
      (s.enterRejoin).hunt = s.hunt ∧ (s.enterRejoin).sup = s.sup ∧ (s.enterRejoin).senders = s.senders ∧
      (s.enterRejoin).arb = s.arb ∧ (s.enterRejoin).freeIndex = s.freeIndex ∧ (s.enterRejoin).wire = s.wire ∧
      (s.enterRejoin).pending = s.pending := by
  simp [State.enterRejoin]

@[simp] theorem State.flightEnds_frame (s : State) :
    (s.flightEnds).now = s.now ∧ (s.flightEnds).inReset = s.inReset ∧ (s.flightEnds).ctl = s.ctl ∧
      (s.flightEnds).iso = s.iso ∧ (s.flightEnds).scan = s.scan ∧ (s.flightEnds).dec = s.dec ∧
      (s.flightEnds).calls = s.calls ∧ (s.flightEnds).ldt = s.ldt ∧ (s.flightEnds).lko = s.lko ∧
      (s.flightEnds).link = s.link ∧ (s.flightEnds).view = s.view ∧ (s.flightEnds).senders = s.senders ∧
      (s.flightEnds).arb = s.arb ∧ (s.flightEnds).freeIndex = s.freeIndex ∧ (s.flightEnds).wire = s.wire ∧
      (s.flightEnds).pending = s.pending := by
  unfold State.flightEnds
  dsimp only
  repeat' split
  all_goals simp

@[simp] theorem State.receiveFails_frame (s : State) (m : Nat) :
    (s.receiveFails m).now = s.now ∧ (s.receiveFails m).iso = s.iso ∧ (s.receiveFails m).scan = s.scan ∧
      (s.receiveFails m).dec = s.dec ∧ (s.receiveFails m).calls = s.calls ∧ (s.receiveFails m).view = s.view ∧
      (s.receiveFails m).hunt = s.hunt ∧ (s.receiveFails m).arb = s.arb ∧ (s.receiveFails m).freeIndex =
      s.freeIndex ∧ (s.receiveFails m).wire = s.wire ∧ (s.receiveFails m).pending = s.pending := by
  unfold State.receiveFails
  dsimp only
  repeat' split
  all_goals simp

@[simp] theorem State.transmitFails_frame (s : State) (m : Nat) :
    (s.transmitFails m).now = s.now ∧ (s.transmitFails m).inReset = s.inReset ∧ (s.transmitFails m).lko = s.lko
      ∧ (s.transmitFails m).wire = s.wire ∧ (s.transmitFails m).pending = s.pending := by
  unfold State.transmitFails
  dsimp only
  repeat' split
  all_goals simp

@[simp] theorem State.wireError_frame (s : State) (m : Nat) :
    (s.wireError m).now = s.now ∧ (s.wireError m).wire = s.wire ∧ (s.wireError m).pending = s.pending := by
  unfold State.wireError
  repeat' split
  all_goals simp

end Sys2Proof.Machine
end

