-- ==== Sys2Proof/Laws/Frames.lean ====
section
/-! SUPPORT. The frames of the frames heard, the maintenance commands and the trunk events: the fields of State an operation leaves alone. -/

namespace Sys2Proof.Machine

open Sys2Proof

@[simp] theorem State.applyRelease_frame (s : State) (p : Slot) (t : Trunk) :
    (s.applyRelease p t).now = s.now ∧ (s.applyRelease p t).inReset = s.inReset ∧ (s.applyRelease p t).ctl =
      s.ctl ∧ (s.applyRelease p t).iso = s.iso ∧ (s.applyRelease p t).scan = s.scan ∧ (s.applyRelease p t).dec =
      s.dec ∧ (s.applyRelease p t).calls = s.calls ∧ (s.applyRelease p t).ldt = s.ldt ∧ (s.applyRelease p t).lko
      = s.lko ∧ (s.applyRelease p t).link = s.link ∧ (s.applyRelease p t).tx = s.tx ∧ (s.applyRelease p t).hunt
      = s.hunt ∧ (s.applyRelease p t).sup = s.sup ∧ (s.applyRelease p t).senders = s.senders ∧ (s.applyRelease p
      t).arb = s.arb ∧ (s.applyRelease p t).freeIndex = s.freeIndex ∧ (s.applyRelease p t).wire = s.wire ∧
      (s.applyRelease p t).pending = s.pending := by
  unfold State.applyRelease
  repeat' split
  all_goals simp

@[simp] theorem State.applyRetire_frame (s : State) (p : Slot) (t : Trunk) :
    (s.applyRetire p t).now = s.now ∧ (s.applyRetire p t).inReset = s.inReset ∧ (s.applyRetire p t).ctl = s.ctl
      ∧ (s.applyRetire p t).iso = s.iso ∧ (s.applyRetire p t).scan = s.scan ∧ (s.applyRetire p t).dec = s.dec ∧
      (s.applyRetire p t).calls = s.calls ∧ (s.applyRetire p t).ldt = s.ldt ∧ (s.applyRetire p t).lko = s.lko ∧
      (s.applyRetire p t).link = s.link ∧ (s.applyRetire p t).tx = s.tx ∧ (s.applyRetire p t).hunt = s.hunt ∧
      (s.applyRetire p t).sup = s.sup ∧ (s.applyRetire p t).senders = s.senders ∧ (s.applyRetire p t).arb =
      s.arb ∧ (s.applyRetire p t).freeIndex = s.freeIndex ∧ (s.applyRetire p t).wire = s.wire ∧ (s.applyRetire p
      t).pending = s.pending := by
  unfold State.applyRetire
  repeat' split
  all_goals simp

@[simp] theorem State.applyRestore_frame (s : State) (p : Slot) (t : Trunk) :
    (s.applyRestore p t).now = s.now ∧ (s.applyRestore p t).inReset = s.inReset ∧ (s.applyRestore p t).ctl =
      s.ctl ∧ (s.applyRestore p t).iso = s.iso ∧ (s.applyRestore p t).scan = s.scan ∧ (s.applyRestore p t).dec =
      s.dec ∧ (s.applyRestore p t).calls = s.calls ∧ (s.applyRestore p t).ldt = s.ldt ∧ (s.applyRestore p t).lko
      = s.lko ∧ (s.applyRestore p t).link = s.link ∧ (s.applyRestore p t).tx = s.tx ∧ (s.applyRestore p t).hunt
      = s.hunt ∧ (s.applyRestore p t).sup = s.sup ∧ (s.applyRestore p t).senders = s.senders ∧ (s.applyRestore p
      t).arb = s.arb ∧ (s.applyRestore p t).freeIndex = s.freeIndex ∧ (s.applyRestore p t).wire = s.wire ∧
      (s.applyRestore p t).pending = s.pending := by
  unfold State.applyRestore
  repeat' split
  all_goals simp

@[simp] theorem State.yieldTo_frame (s : State) (t : Trunk) (p : Slot) :
    (s.yieldTo t p).now = s.now ∧ (s.yieldTo t p).inReset = s.inReset ∧ (s.yieldTo t p).ctl = s.ctl ∧ (s.yieldTo
      t p).iso = s.iso ∧ (s.yieldTo t p).scan = s.scan ∧ (s.yieldTo t p).link = s.link ∧ (s.yieldTo t p).arb =
      s.arb ∧ (s.yieldTo t p).freeIndex = s.freeIndex ∧ (s.yieldTo t p).wire = s.wire ∧ (s.yieldTo t p).pending
      = s.pending := by
  unfold State.yieldTo
  dsimp only
  repeat' split
  all_goals simp

@[simp] theorem State.dualHold_frame (s : State) (t : Trunk) (p : Slot) :
    (s.dualHold t p).now = s.now ∧ (s.dualHold t p).inReset = s.inReset ∧ (s.dualHold t p).ctl = s.ctl ∧
      (s.dualHold t p).iso = s.iso ∧ (s.dualHold t p).scan = s.scan ∧ (s.dualHold t p).link = s.link ∧
      (s.dualHold t p).arb = s.arb ∧ (s.dualHold t p).freeIndex = s.freeIndex ∧ (s.dualHold t p).wire = s.wire ∧
      (s.dualHold t p).pending = s.pending := by
  unfold State.dualHold
  dsimp only
  repeat' split
  all_goals simp

@[simp] theorem State.learnHeld_frame (s : State) (t : Trunk) (p : Slot) :
    (s.learnHeld t p).now = s.now ∧ (s.learnHeld t p).inReset = s.inReset ∧ (s.learnHeld t p).ctl = s.ctl ∧
      (s.learnHeld t p).iso = s.iso ∧ (s.learnHeld t p).scan = s.scan ∧ (s.learnHeld t p).link = s.link ∧
      (s.learnHeld t p).arb = s.arb ∧ (s.learnHeld t p).freeIndex = s.freeIndex ∧ (s.learnHeld t p).wire =
      s.wire ∧ (s.learnHeld t p).pending = s.pending := by
  unfold State.learnHeld
  repeat' split
  all_goals simp

@[simp] theorem State.applyPlace_frame (s : State) (p : Slot) (on : Bool) (b : Bool) (t : Trunk) :
    (s.applyPlace p on b t).now = s.now ∧ (s.applyPlace p on b t).inReset = s.inReset ∧ (s.applyPlace p on b
      t).ctl = s.ctl ∧ (s.applyPlace p on b t).iso = s.iso ∧ (s.applyPlace p on b t).scan = s.scan ∧
      (s.applyPlace p on b t).link = s.link ∧ (s.applyPlace p on b t).arb = s.arb ∧ (s.applyPlace p on b
      t).freeIndex = s.freeIndex ∧ (s.applyPlace p on b t).wire = s.wire ∧ (s.applyPlace p on b t).pending =
      s.pending := by
  unfold State.applyPlace
  dsimp only
  repeat' split
  all_goals simp

@[simp] theorem State.peerEffective_frame (s : State) (p : Slot) (t : Trunk) (line : Option Line) :
    (s.peerEffective p t line).now = s.now ∧ (s.peerEffective p t line).inReset = s.inReset ∧ (s.peerEffective p
      t line).ctl = s.ctl ∧ (s.peerEffective p t line).iso = s.iso ∧ (s.peerEffective p t line).scan = s.scan ∧
      (s.peerEffective p t line).dec = s.dec ∧ (s.peerEffective p t line).calls = s.calls ∧ (s.peerEffective p t
      line).ldt = s.ldt ∧ (s.peerEffective p t line).lko = s.lko ∧ (s.peerEffective p t line).link = s.link ∧
      (s.peerEffective p t line).tx = s.tx ∧ (s.peerEffective p t line).hunt = s.hunt ∧ (s.peerEffective p t
      line).sup = s.sup ∧ (s.peerEffective p t line).senders = s.senders ∧ (s.peerEffective p t line).arb =
      s.arb ∧ (s.peerEffective p t line).freeIndex = s.freeIndex ∧ (s.peerEffective p t line).wire = s.wire ∧
      (s.peerEffective p t line).pending = s.pending := by
  unfold State.peerEffective
  dsimp only
  repeat' split
  all_goals simp

@[simp] theorem State.handLine_frame (s : State) (t : Trunk) (l : Line) :
    (s.handLine t l).now = s.now ∧ (s.handLine t l).inReset = s.inReset ∧ (s.handLine t l).ctl = s.ctl ∧
      (s.handLine t l).iso = s.iso ∧ (s.handLine t l).scan = s.scan ∧ (s.handLine t l).dec = s.dec ∧ (s.handLine
      t l).ldt = s.ldt ∧ (s.handLine t l).lko = s.lko ∧ (s.handLine t l).link = s.link ∧ (s.handLine t
      l).senders = s.senders ∧ (s.handLine t l).arb = s.arb ∧ (s.handLine t l).freeIndex = s.freeIndex ∧
      (s.handLine t l).wire = s.wire ∧ (s.handLine t l).pending = s.pending := by
  unfold State.handLine
  dsimp only
  repeat' split
  all_goals simp

@[simp] theorem State.handProbe_frame (s : State) (t : Trunk) :
    (s.handProbe t).now = s.now ∧ (s.handProbe t).inReset = s.inReset ∧ (s.handProbe t).ctl = s.ctl ∧
      (s.handProbe t).iso = s.iso ∧ (s.handProbe t).scan = s.scan ∧ (s.handProbe t).dec = s.dec ∧ (s.handProbe
      t).calls = s.calls ∧ (s.handProbe t).ldt = s.ldt ∧ (s.handProbe t).lko = s.lko ∧ (s.handProbe t).link =
      s.link ∧ (s.handProbe t).hunt = s.hunt ∧ (s.handProbe t).senders = s.senders ∧ (s.handProbe t).arb = s.arb
      ∧ (s.handProbe t).freeIndex = s.freeIndex ∧ (s.handProbe t).wire = s.wire ∧ (s.handProbe t).pending =
      s.pending := by
  unfold State.handProbe
  repeat' split
  all_goals simp

@[simp] theorem State.giveUp_frame (s : State) (t : Trunk) :
    (s.giveUp t).now = s.now ∧ (s.giveUp t).inReset = s.inReset ∧ (s.giveUp t).ctl = s.ctl ∧ (s.giveUp t).iso =
      s.iso ∧ (s.giveUp t).scan = s.scan ∧ (s.giveUp t).dec = s.dec ∧ (s.giveUp t).calls = s.calls ∧ (s.giveUp
      t).ldt = s.ldt ∧ (s.giveUp t).lko = s.lko ∧ (s.giveUp t).link = s.link ∧ (s.giveUp t).hunt = s.hunt ∧
      (s.giveUp t).sup = s.sup ∧ (s.giveUp t).senders = s.senders ∧ (s.giveUp t).arb = s.arb ∧ (s.giveUp
      t).freeIndex = s.freeIndex ∧ (s.giveUp t).wire = s.wire ∧ (s.giveUp t).pending = s.pending := by
  simp [State.giveUp]

@[simp] theorem State.ownEffective_frame (s : State) (cl : Claim) (line : Option Line) :
    (s.ownEffective cl line).now = s.now ∧ (s.ownEffective cl line).inReset = s.inReset ∧ (s.ownEffective cl
      line).ctl = s.ctl ∧ (s.ownEffective cl line).iso = s.iso ∧ (s.ownEffective cl line).scan = s.scan ∧
      (s.ownEffective cl line).dec = s.dec ∧ (s.ownEffective cl line).ldt = s.ldt ∧ (s.ownEffective cl line).lko
      = s.lko ∧ (s.ownEffective cl line).link = s.link ∧ (s.ownEffective cl line).senders = s.senders ∧
      (s.ownEffective cl line).arb = s.arb ∧ (s.ownEffective cl line).freeIndex = s.freeIndex ∧ (s.ownEffective
      cl line).wire = s.wire ∧ (s.ownEffective cl line).pending = s.pending := by
  unfold State.ownEffective
  dsimp only
  repeat' split
  all_goals simp

@[simp] theorem State.ownWithoutEffect_frame (s : State) (cl : Claim) :
    (s.ownWithoutEffect cl).now = s.now ∧ (s.ownWithoutEffect cl).inReset = s.inReset ∧ (s.ownWithoutEffect
      cl).ctl = s.ctl ∧ (s.ownWithoutEffect cl).iso = s.iso ∧ (s.ownWithoutEffect cl).scan = s.scan ∧
      (s.ownWithoutEffect cl).dec = s.dec ∧ (s.ownWithoutEffect cl).calls = s.calls ∧ (s.ownWithoutEffect
      cl).ldt = s.ldt ∧ (s.ownWithoutEffect cl).lko = s.lko ∧ (s.ownWithoutEffect cl).link = s.link ∧
      (s.ownWithoutEffect cl).tx = s.tx ∧ (s.ownWithoutEffect cl).view = s.view ∧ (s.ownWithoutEffect
      cl).senders = s.senders ∧ (s.ownWithoutEffect cl).arb = s.arb ∧ (s.ownWithoutEffect cl).freeIndex =
      s.freeIndex ∧ (s.ownWithoutEffect cl).wire = s.wire ∧ (s.ownWithoutEffect cl).pending = s.pending := by
  unfold State.ownWithoutEffect
  dsimp only
  repeat' split
  all_goals simp

@[simp] theorem State.claimSent_frame (s : State) :
    (s.claimSent).now = s.now ∧ (s.claimSent).inReset = s.inReset ∧ (s.claimSent).ctl = s.ctl ∧
      (s.claimSent).iso = s.iso ∧ (s.claimSent).scan = s.scan ∧ (s.claimSent).dec = s.dec ∧ (s.claimSent).calls
      = s.calls ∧ (s.claimSent).ldt = s.ldt ∧ (s.claimSent).lko = s.lko ∧ (s.claimSent).view = s.view ∧
      (s.claimSent).hunt = s.hunt ∧ (s.claimSent).sup = s.sup ∧ (s.claimSent).senders = s.senders ∧
      (s.claimSent).arb = s.arb ∧ (s.claimSent).freeIndex = s.freeIndex ∧ (s.claimSent).wire = s.wire ∧
      (s.claimSent).pending = s.pending := by
  unfold State.claimSent
  repeat' split
  all_goals simp

@[simp] theorem State.applyObjection_frame (s : State) (t : Trunk) (n : Nat) (p : Slot) :
    (s.applyObjection t n p).now = s.now ∧ (s.applyObjection t n p).inReset = s.inReset ∧ (s.applyObjection t n
      p).ctl = s.ctl ∧ (s.applyObjection t n p).iso = s.iso ∧ (s.applyObjection t n p).scan = s.scan ∧
      (s.applyObjection t n p).link = s.link ∧ (s.applyObjection t n p).arb = s.arb ∧ (s.applyObjection t n
      p).freeIndex = s.freeIndex ∧ (s.applyObjection t n p).wire = s.wire ∧ (s.applyObjection t n p).pending =
      s.pending := by
  unfold State.applyObjection
  repeat' split
  all_goals simp

@[simp] theorem State.skip_frame (s : State) :
    (s.skip).now = s.now ∧ (s.skip).inReset = s.inReset ∧ (s.skip).ctl = s.ctl ∧ (s.skip).iso = s.iso ∧
      (s.skip).scan = s.scan ∧ (s.skip).dec = s.dec ∧ (s.skip).calls = s.calls ∧ (s.skip).ldt = s.ldt ∧
      (s.skip).lko = s.lko ∧ (s.skip).tx = s.tx ∧ (s.skip).view = s.view ∧ (s.skip).hunt = s.hunt ∧ (s.skip).sup
      = s.sup ∧ (s.skip).senders = s.senders ∧ (s.skip).arb = s.arb ∧ (s.skip).freeIndex = s.freeIndex ∧
      (s.skip).wire = s.wire ∧ (s.skip).pending = s.pending := by
  simp [State.skip]

@[simp] theorem State.retireTrunk_frame (s : State) (t : Trunk) :
    (s.retireTrunk t).now = s.now ∧ (s.retireTrunk t).inReset = s.inReset ∧ (s.retireTrunk t).ctl = s.ctl ∧
      (s.retireTrunk t).iso = s.iso ∧ (s.retireTrunk t).scan = s.scan ∧ (s.retireTrunk t).dec = s.dec ∧
      (s.retireTrunk t).lko = s.lko ∧ (s.retireTrunk t).link = s.link ∧ (s.retireTrunk t).freeIndex =
      s.freeIndex ∧ (s.retireTrunk t).wire = s.wire ∧ (s.retireTrunk t).pending = s.pending := by
  unfold State.retireTrunk
  repeat' split
  all_goals simp

@[simp] theorem State.restoreTrunk_frame (s : State) (t : Trunk) :
    (s.restoreTrunk t).now = s.now ∧ (s.restoreTrunk t).inReset = s.inReset ∧ (s.restoreTrunk t).ctl = s.ctl ∧
      (s.restoreTrunk t).iso = s.iso ∧ (s.restoreTrunk t).scan = s.scan ∧ (s.restoreTrunk t).dec = s.dec ∧
      (s.restoreTrunk t).lko = s.lko ∧ (s.restoreTrunk t).link = s.link ∧ (s.restoreTrunk t).freeIndex =
      s.freeIndex ∧ (s.restoreTrunk t).wire = s.wire ∧ (s.restoreTrunk t).pending = s.pending := by
  unfold State.restoreTrunk
  repeat' split
  all_goals simp

@[simp] theorem State.clearLineCounts_frame (s : State) (l : Line) :
    (s.clearLineCounts l).now = s.now ∧ (s.clearLineCounts l).inReset = s.inReset ∧ (s.clearLineCounts l).ctl =
      s.ctl ∧ (s.clearLineCounts l).iso = s.iso ∧ (s.clearLineCounts l).ldt = s.ldt ∧ (s.clearLineCounts l).lko
      = s.lko ∧ (s.clearLineCounts l).link = s.link ∧ (s.clearLineCounts l).tx = s.tx ∧ (s.clearLineCounts
      l).view = s.view ∧ (s.clearLineCounts l).hunt = s.hunt ∧ (s.clearLineCounts l).sup = s.sup ∧
      (s.clearLineCounts l).senders = s.senders ∧ (s.clearLineCounts l).arb = s.arb ∧ (s.clearLineCounts
      l).freeIndex = s.freeIndex ∧ (s.clearLineCounts l).wire = s.wire ∧ (s.clearLineCounts l).pending =
      s.pending := by
  simp [State.clearLineCounts]

@[simp] theorem State.placeIsolatedProbe_frame (s : State) :
    (s.placeIsolatedProbe).now = s.now ∧ (s.placeIsolatedProbe).inReset = s.inReset ∧ (s.placeIsolatedProbe).ctl
      = s.ctl ∧ (s.placeIsolatedProbe).scan = s.scan ∧ (s.placeIsolatedProbe).dec = s.dec ∧
      (s.placeIsolatedProbe).calls = s.calls ∧ (s.placeIsolatedProbe).ldt = s.ldt ∧ (s.placeIsolatedProbe).lko =
      s.lko ∧ (s.placeIsolatedProbe).link = s.link ∧ (s.placeIsolatedProbe).view = s.view ∧
      (s.placeIsolatedProbe).hunt = s.hunt ∧ (s.placeIsolatedProbe).sup = s.sup ∧ (s.placeIsolatedProbe).senders
      = s.senders ∧ (s.placeIsolatedProbe).arb = s.arb ∧ (s.placeIsolatedProbe).freeIndex = s.freeIndex ∧
      (s.placeIsolatedProbe).wire = s.wire ∧ (s.placeIsolatedProbe).pending = s.pending := by
  simp [State.placeIsolatedProbe]

@[simp] theorem State.trackHome_frame (s : State) (t : Trunk) (on : Bool) :
    (s.trackHome t on).now = s.now ∧ (s.trackHome t on).inReset = s.inReset ∧ (s.trackHome t on).ctl = s.ctl ∧
      (s.trackHome t on).iso = s.iso ∧ (s.trackHome t on).scan = s.scan ∧ (s.trackHome t on).dec = s.dec ∧
      (s.trackHome t on).calls = s.calls ∧ (s.trackHome t on).ldt = s.ldt ∧ (s.trackHome t on).lko = s.lko ∧
      (s.trackHome t on).link = s.link ∧ (s.trackHome t on).tx = s.tx ∧ (s.trackHome t on).view = s.view ∧
      (s.trackHome t on).sup = s.sup ∧ (s.trackHome t on).senders = s.senders ∧ (s.trackHome t on).arb = s.arb ∧
      (s.trackHome t on).freeIndex = s.freeIndex ∧ (s.trackHome t on).wire = s.wire ∧ (s.trackHome t on).pending
      = s.pending := by
  unfold State.trackHome
  repeat' split
  all_goals simp

@[simp] theorem State.busyChanged_frame (s : State) (t : Trunk) (on : Bool) :
    (s.busyChanged t on).now = s.now ∧ (s.busyChanged t on).inReset = s.inReset ∧ (s.busyChanged t on).ctl =
      s.ctl ∧ (s.busyChanged t on).iso = s.iso ∧ (s.busyChanged t on).scan = s.scan ∧ (s.busyChanged t on).dec =
      s.dec ∧ (s.busyChanged t on).lko = s.lko ∧ (s.busyChanged t on).link = s.link ∧ (s.busyChanged t
      on).freeIndex = s.freeIndex ∧ (s.busyChanged t on).wire = s.wire ∧ (s.busyChanged t on).pending =
      s.pending := by
  unfold State.busyChanged
  dsimp only
  repeat' split
  all_goals simp

@[simp] theorem State.seizureFails_frame (s : State) (t : Trunk) (l : Line) :
    (s.seizureFails t l).now = s.now ∧ (s.seizureFails t l).inReset = s.inReset ∧ (s.seizureFails t l).ctl =
      s.ctl ∧ (s.seizureFails t l).iso = s.iso ∧ (s.seizureFails t l).scan = s.scan ∧ (s.seizureFails t l).link
      = s.link ∧ (s.seizureFails t l).freeIndex = s.freeIndex ∧ (s.seizureFails t l).wire = s.wire ∧
      (s.seizureFails t l).pending = s.pending := by
  unfold State.seizureFails
  dsimp only
  repeat' split
  all_goals simp

@[simp] theorem State.probeFails_frame (s : State) (t : Trunk) :
    (s.probeFails t).now = s.now ∧ (s.probeFails t).inReset = s.inReset ∧ (s.probeFails t).ctl = s.ctl ∧
      (s.probeFails t).iso = s.iso ∧ (s.probeFails t).scan = s.scan ∧ (s.probeFails t).dec = s.dec ∧
      (s.probeFails t).lko = s.lko ∧ (s.probeFails t).link = s.link ∧ (s.probeFails t).freeIndex = s.freeIndex ∧
      (s.probeFails t).wire = s.wire ∧ (s.probeFails t).pending = s.pending := by
  simp [State.probeFails]

@[simp] theorem State.probeAnswered_frame (s : State) (t : Trunk) :
    (s.probeAnswered t).now = s.now ∧ (s.probeAnswered t).inReset = s.inReset ∧ (s.probeAnswered t).ctl = s.ctl
      ∧ (s.probeAnswered t).iso = s.iso ∧ (s.probeAnswered t).scan = s.scan ∧ (s.probeAnswered t).dec = s.dec ∧
      (s.probeAnswered t).lko = s.lko ∧ (s.probeAnswered t).link = s.link ∧ (s.probeAnswered t).freeIndex =
      s.freeIndex ∧ (s.probeAnswered t).wire = s.wire ∧ (s.probeAnswered t).pending = s.pending := by
  unfold State.probeAnswered
  dsimp only
  repeat' split
  all_goals simp

@[simp] theorem State.establish_frame (s : State) (t : Trunk) (ses : Session) (l : Line) :
    (s.establish t ses l).now = s.now ∧ (s.establish t ses l).inReset = s.inReset ∧ (s.establish t ses l).ctl =
      s.ctl ∧ (s.establish t ses l).iso = s.iso ∧ (s.establish t ses l).scan = s.scan ∧ (s.establish t ses
      l).dec = s.dec ∧ (s.establish t ses l).lko = s.lko ∧ (s.establish t ses l).link = s.link ∧ (s.establish t
      ses l).tx = s.tx ∧ (s.establish t ses l).hunt = s.hunt ∧ (s.establish t ses l).freeIndex = s.freeIndex ∧
      (s.establish t ses l).wire = s.wire ∧ (s.establish t ses l).pending = s.pending := by
  unfold State.establish
  dsimp only
  repeat' split
  all_goals simp

@[simp] theorem State.breakOver_frame (s : State) (t : Trunk) :
    (s.breakOver t).now = s.now ∧ (s.breakOver t).inReset = s.inReset ∧ (s.breakOver t).ctl = s.ctl ∧
      (s.breakOver t).iso = s.iso ∧ (s.breakOver t).scan = s.scan ∧ (s.breakOver t).dec = s.dec ∧ (s.breakOver
      t).calls = s.calls ∧ (s.breakOver t).ldt = s.ldt ∧ (s.breakOver t).lko = s.lko ∧ (s.breakOver t).link =
      s.link ∧ (s.breakOver t).tx = s.tx ∧ (s.breakOver t).view = s.view ∧ (s.breakOver t).hunt = s.hunt ∧
      (s.breakOver t).sup = s.sup ∧ (s.breakOver t).arb = s.arb ∧ (s.breakOver t).freeIndex = s.freeIndex ∧
      (s.breakOver t).wire = s.wire ∧ (s.breakOver t).pending = s.pending := by
  unfold State.breakOver
  repeat' split
  all_goals simp

end Sys2Proof.Machine
end

