-- ==== Sys2Proof/Laws/Queue.lean ====
section
/-! SUPPORT. What joins, stays in and leaves the transmit queue. -/

namespace Sys2Proof.Machine

open Sys2Proof

@[simp] theorem combine_key (q n : QFrame) (h : q.frame.key = n.frame.key) :
    (combine q n).frame.key = n.frame.key := by
  unfold combine; split <;> simp_all

/-- The queued frames keep their keys when a frame is combined with the one of its key. -/
theorem combineIn_keys (frames : List QFrame) (n : QFrame) :
    (combineIn frames n).map (fun f => f.frame.key) = frames.map fun f => f.frame.key := by
  simp only [combineIn, List.map_map]
  refine List.map_congr_left fun f _ => ?_
  simp only [Function.comp]
  split
  · simp_all
  · rfl

/-- A frame of another key stays as it is. -/
theorem mem_combineIn {frames : List QFrame} {n f : QFrame} (hf : f ∈ frames)
    (hk : f.frame.key ≠ n.frame.key) : f ∈ combineIn frames n :=
  List.mem_map.2 ⟨f, hf, by simp [hk]⟩

theorem TxQueue.mem_place {q : TxQueue} {n f : QFrame} (hf : f ∈ q.frames)
    (hk : f.frame.key ≠ n.frame.key) : f ∈ (q.place n).frames := by
  unfold TxQueue.place
  split
  · split <;> exact hf
  · split
    · exact mem_combineIn hf hk
    · simp [hf]

/-- A frame placed under a key not in flight, other than a CLAIM, is in the queue afterwards. -/
theorem TxQueue.place_mem {q : TxQueue} {n : QFrame} (h : q.inFlight n.frame.key = false)
    (hc : n.frame.key ≠ .claim) : ∃ f ∈ (q.place n).frames, f.frame = n.frame := by
  unfold TxQueue.place
  rw [if_neg (by simp [h])]
  split
  · rename_i hany
    simp only [List.any_eq_true, decide_eq_true_eq] at hany
    obtain ⟨x, hx, hk⟩ := hany
    refine ⟨combine x n, List.mem_map.2 ⟨x, hx, by simp [hk]⟩, ?_⟩
    unfold combine
    split <;> simp_all [TxFrame.key]
  · exact ⟨n, by simp, rfl⟩

theorem TxQueue.mem_withdraw {q : TxQueue} {k : TxKey} {f : QFrame} (hf : f ∈ q.frames)
    (hk : f.frame.key ≠ k) : f ∈ (q.withdraw k).frames := by
  unfold TxQueue.withdraw
  split
  · exact hf
  · simp [hf, hk]

/-- The Hunt Unit and the arbiter touch no queued frame but the CLAIM. -/
theorem State.mem_settle {s : State} {f : QFrame} (hf : f ∈ s.tx.frames) (hk : f.frame.key ≠ .claim) :
    f ∈ s.settle.tx.frames := by
  have choice : ∀ s : State, f ∈ s.tx.frames → f ∈ s.makeChoice.tx.frames := by
    intro s hf
    unfold State.makeChoice
    repeat' split
    all_goals first
      | exact hf
      | exact TxQueue.mem_place hf hk
  have drop : ∀ s : State, f ∈ s.tx.frames → f ∈ s.withdrawClaim.tx.frames := by
    intro s hf
    unfold State.withdrawClaim
    dsimp only
    repeat' split
    all_goals first
      | exact hf
      | (simp; exact TxQueue.mem_withdraw hf hk)
  unfold State.settle
  simp only [State.settleSenders_frame]
  unfold State.judge State.judgeActive
  split
  · split
    · exact choice _ hf
    · split
      · exact hf
      · split
        · exact hf
        · exact choice _ (drop _ hf)
  · unfold State.judgeIsolated
    repeat' split
    all_goals simpa using hf
  · exact hf

/-! ## The frames offered -/

@[simp] theorem firstOffered_eq_none {frames : List QFrame} : firstOffered frames = none ↔ frames = [] := by
  cases frames with
  | nil => simp [firstOffered]
  | cons f rest => cases h : firstOffered rest <;> simp [firstOffered, h]; split <;> simp

/-- The first of the frames is one of them. -/
theorem firstOffered_mem {frames : List QFrame} {f : QFrame} (h : firstOffered frames = some f) : f ∈ frames := by
  induction frames generalizing f with
  | nil => cases h
  | cons x rest ih =>
    cases hr : firstOffered rest with
    | none => simp_all [firstOffered]
    | some g =>
      simp only [firstOffered, hr] at h
      split at h <;> cases h
      · exact List.mem_cons_of_mem _ (ih hr)
      · exact List.mem_cons_self

/-- What stands for the next start mark: a queued frame that the station state allows (R105). -/
theorem State.mem_offerable {s : State} {q : QFrame} :
    q ∈ s.offerable ↔ q ∈ s.tx.frames ∧ s.ctl.offers q.frame = true := by simp [State.offerable]

end Sys2Proof.Machine
end

