-- ==== Sys2Proof/Laws/Receiver.lean ====
section
/-! SUPPORT. The frames of the receiver: the fields of State an operation leaves alone. -/

namespace Sys2Proof.Machine

open Sys2Proof

@[simp] theorem State.signalFails_frame (s : State) (m : Nat) :
    (s.signalFails m).now = s.now ∧ (s.signalFails m).wire = s.wire ∧ (s.signalFails m).pending = s.pending := by
  unfold State.signalFails
  dsimp only
  repeat' split
  all_goals simp

@[simp] theorem State.judgeWire_frame (s : State) (fs : List LineFault) (k : Link) :
    (s.judgeWire fs k).now = s.now ∧ (s.judgeWire fs k).wire = s.wire ∧ (s.judgeWire fs k).pending = s.pending := by
  unfold State.judgeWire
  repeat' split
  all_goals simp

@[simp] theorem State.nextCell_frame (s : State) (bs : List Byte) (k : Link) :
    (s.nextCell bs k).now = s.now ∧ (s.nextCell bs k).wire = s.wire ∧ (s.nextCell bs k).pending = s.pending := by
  unfold State.nextCell
  dsimp only
  repeat' split
  all_goals simp

@[simp] theorem State.wireFalls_frame (s : State) :
    (s.wireFalls).now = s.now ∧ (s.wireFalls).wire = s.wire ∧ (s.wireFalls).pending = s.pending := by
  unfold State.wireFalls
  dsimp only
  repeat' split
  all_goals simp

@[simp] theorem State.wireRises_frame (s : State) :
    (s.wireRises).now = s.now ∧ (s.wireRises).wire = s.wire ∧ (s.wireRises).pending = s.pending := by
  unfold State.wireRises
  dsimp only
  repeat' split
  all_goals simp

@[simp] theorem State.wireHolds_frame (s : State) :
    (s.wireHolds).now = s.now ∧ (s.wireHolds).wire = s.wire ∧ (s.wireHolds).pending = s.pending := by
  unfold State.wireHolds
  dsimp only
  repeat' split
  all_goals simp

@[simp] theorem State.replyEod_frame (s : State) :
    (s.replyEod).now = s.now ∧ (s.replyEod).wire = s.wire ∧ (s.replyEod).pending = s.pending := by
  unfold State.replyEod
  dsimp only
  repeat' split
  all_goals simp

@[simp] theorem State.readWire_frame (s : State) (b : Bool) :
    (s.readWire b).now = s.now ∧ (s.readWire b).wire = s.wire ∧ (s.readWire b).pending = s.pending := by
  unfold State.readWire
  dsimp only
  repeat' split
  all_goals simp

end Sys2Proof.Machine
end

