-- ==== Sys2Proof/Laws/Steps.lean ====
section
/-! SUPPORT. What a command and a step can do: the two outcomes of `act`, and the cases of a step. -/

namespace Sys2Proof.Machine

open Sys2Proof

theorem State.act_running {s : State} (w : Nat) (f : State → State) (h : s.running = true) :
    s.act w f = .next (f (s.advance w)) := by simp [State.act, h]

theorem State.act_stopped {s : State} (w : Nat) (f : State → State) (h : s.running = false) :
    s.act w f = .next s := by simp [State.act, h]

theorem State.act_completes (s : State) (w : Nat) (f : State → State) : ∃ t, s.act w f = .next t := by
  unfold State.act
  split <;> exact ⟨_, rfl⟩

/-- What a command leaves true: `P` of the state it found if that station does not run, and of its effect if it does. -/
theorem State.act_keeps {P : State → Prop} {s t : State} {w : Nat} {f : State → State}
    (h : s.act w f = .next t) (stopped : P s) (effect : s.running = true → P (f (s.advance w))) : P t := by
  unfold State.act at h
  split at h
  · cases h; exact effect ‹_›
  · cases h; exact stopped

theorem step_idle {s : State} (h : s.pending = []) (hw : s.wire = []) : step s = .next s := by
  simp [step, stepWire, h, hw]

theorem step_wire {s : State} {x : WireSample} {rest : List WireSample} (h : s.pending = []) (hw : s.wire = x :: rest) :
    step s = { s with wire := rest }.act x.when fun s => s.readWire x.dominant := by
  simp [step, stepWire, h, hw]

theorem step_front {s : State} {c : Instr} {rest : List Instr} (h : s.pending = c :: rest) :
    step s = exec c { s with pending := rest } := by simp [step, h]

/-- The cases of a step that answers a next state: the block idles, reads a sample of the wire, or takes a command. -/
theorem step_cases {s t : State} (h : step s = .next t) :
    (s.pending = [] ∧ s.wire = [] ∧ t = s) ∨
      (∃ x rest, s.pending = [] ∧ s.wire = x :: rest ∧
        ({ s with wire := rest }.act x.when fun s => s.readWire x.dominant) = .next t) ∨
      ∃ c rest, s.pending = c :: rest ∧ exec c { s with pending := rest } = .next t := by
  unfold step at h
  split at h
  · unfold stepWire at h
    split at h
    · cases h; exact .inl ⟨‹_›, ‹_›, rfl⟩
    · exact .inr (.inl ⟨_, _, ‹_›, ‹_›, h⟩)
  · exact .inr (.inr ⟨_, _, ‹_›, h⟩)

@[simp] theorem State.advance_scanTime (s : State) (w : Nat) : (s.advance w).scanTime = max s.now w / milli := rfl

end Sys2Proof.Machine
end

