-- ==== Sys2Proof/Laws/Wire.lean ====
section
/-! SUPPORT. What a sample of the wire can do: the receiver's own record changes and nothing else, or the reception ends
with an error; and which frames it hears. -/

namespace Sys2Proof.Machine

open Sys2Proof

/-- The receiver has read on from `k` to `k'`: the mode, the health, the counters and the stuck-line timers stand, and so
does a reply of this station. -/
structure Link.ReadsOn (k k' : Link) : Prop where
  mode : k'.mode = k.mode
  reply : k'.reply = k.reply
  health : k'.health = k.health
  errorRun : k'.errorRun = k.errorRun
  rxErrors : k'.rxErrors = k.rxErrors
  txErrors : k'.txErrors = k.txErrors
  arbLosses : k'.arbLosses = k.arbLosses
  failures : k'.failures = k.failures
  wireFrom : k'.wireFrom = k.wireFrom
  stuckAbort : k'.stuckAbort = k.stuckAbort
  stuckFailure : k'.stuckFailure = k.stuckFailure

theorem Link.readsOn_refl (k : Link) : k.ReadsOn k := ⟨rfl, rfl, rfl, rfl, rfl, rfl, rfl, rfl, rfl, rfl, rfl⟩

theorem Link.readsOn_rx {k k' : Link} (h : k.ReadsOn k') (x : RxState) : k.ReadsOn { k' with rx := x } :=
  ⟨h.1, h.2, h.3, h.4, h.5, h.6, h.7, h.8, h.9, h.10, h.11⟩

theorem Link.readsOn_fell (k : Link) (now : Nat) : k.ReadsOn (k.fell now) := by
  constructor <;> rfl

theorem Link.readsOn_rose (k : Link) (now : Nat) : k.ReadsOn (k.rose now) := by
  constructor <;> simp [Link.rose]

theorem Link.readsOn_stillRecessive (k : Link) (now : Nat) : k.ReadsOn (k.stillRecessive now) := by
  constructor <;> rfl

theorem Link.readsOn_readBit {k k' : Link} (h : k.ReadsOn k') (bit : Bool) : k.ReadsOn (k'.readBit bit) := by
  unfold Link.readBit
  split <;> exact ⟨h.1, h.2, h.3, h.4, h.5, h.6, h.7, h.8, h.9, h.10, h.11⟩

theorem Link.readsOn_beginFrame (k : Link) (own : Option (List Byte)) (now : Nat) :
    k.ReadsOn { k.beginFrame own now with dominant := true } := by
  constructor <;> simp [Link.beginFrame]

variable {P : State → Prop}

/-- A judgement keeps what the receiver's reading on and its errors keep. -/
theorem State.judgeWire_keeps (link : ∀ s k, P s → s.link.ReadsOn k → P (s.setLink k))
    (fails : ∀ s m, P s → P (s.signalFails m)) {s : State} {k : Link} (fs : List LineFault) (h : P s)
    (hk : s.link.ReadsOn k) : P (s.judgeWire fs k) := by
  unfold State.judgeWire
  split
  · exact fails _ _ (link _ _ h hk)
  · exact link _ _ h hk

theorem State.nextCell_keeps (link : ∀ s k, P s → s.link.ReadsOn k → P (s.setLink k))
    (fails : ∀ s m, P s → P (s.signalFails m)) {s : State} {k : Link} (bs : List Byte) (h : P s)
    (hk : s.link.ReadsOn k) : P (s.nextCell bs k) := by
  unfold State.nextCell
  dsimp only
  split
  · exact link _ _ h hk
  · exact State.judgeWire_keeps link fails _ h hk

theorem State.wireFalls_keeps (link : ∀ s k, P s → s.link.ReadsOn k → P (s.setLink k))
    (fails : ∀ s m, P s → P (s.signalFails m)) {s : State} (h : P s) : P s.wireFalls := by
  have fell := s.link.readsOn_fell s.now
  unfold State.wireFalls
  dsimp only
  repeat' split
  all_goals first
    | exact link _ _ h (Link.readsOn_beginFrame _ _ _)
    | exact link _ _ h fell
    | exact link _ _ h (Link.readsOn_rx fell _)
    | exact State.nextCell_keeps link fails _ h fell
    | exact State.judgeWire_keeps link fails _ h fell
    | exact State.judgeWire_keeps link fails _ h (Link.readsOn_rx fell _)

theorem State.wireRises_keeps (link : ∀ s k, P s → s.link.ReadsOn k → P (s.setLink k))
    (fails : ∀ s m, P s → P (s.signalFails m)) {s : State} (h : P s) : P s.wireRises := by
  have rose := s.link.readsOn_rose s.now
  unfold State.wireRises
  dsimp only
  split
  all_goals first
    | exact State.judgeWire_keeps link fails _ h (Link.readsOn_rx rose _)
    | exact State.judgeWire_keeps link fails _ h (Link.readsOn_readBit rose _)
    | exact link _ _ h rose

theorem State.wireHolds_keeps (link : ∀ s k, P s → s.link.ReadsOn k → P (s.setLink k))
    (fails : ∀ s m, P s → P (s.signalFails m)) {s : State} (h : P s) : P s.wireHolds := by
  unfold State.wireHolds
  dsimp only
  repeat' split
  all_goals first
    | exact h
    | exact State.judgeWire_keeps link fails _ h (Link.readsOn_refl _)
    | exact State.judgeWire_keeps link fails _ h (Link.readsOn_stillRecessive _ _)
    | exact link _ _ h (Link.readsOn_stillRecessive _ _)

theorem State.replyEod_keeps (link : ∀ s k, P s → s.link.ReadsOn k → P (s.setLink k))
    (fails : ∀ s m, P s → P (s.signalFails m)) {s : State} (h : P s) : P s.replyEod := by
  unfold State.replyEod
  dsimp only
  split
  · exact State.judgeWire_keeps link fails _ h (Link.readsOn_rx (Link.readsOn_refl _) _)
  · exact h

/-- A sample of the wire keeps whatever the receiver's reading on and its errors keep (R68, R82). -/
theorem State.readWire_keeps (link : ∀ s k, P s → s.link.ReadsOn k → P (s.setLink k))
    (fails : ∀ s m, P s → P (s.signalFails m)) {s : State} (b : Bool) (h : P s) : P (s.readWire b) := by
  have h' := State.replyEod_keeps link fails h
  unfold State.readWire
  dsimp only
  split
  · exact State.wireFalls_keeps link fails h'
  · exact State.wireRises_keeps link fails h'
  · exact State.wireHolds_keeps link fails h'

/-! ## The recessive time -/

/-- A bound of the recessive time changes that time and the last edge's alone. -/
theorem Link.recessive_eq (k : Link) (t : Nat) :
    k.recessive t = { k with
      recessiveFrom := if k.cellsRead then k.recessiveFrom else max k.recessiveFrom t
      edgeAt := if k.cellsRead then k.edgeAt else max k.edgeAt (t - cell) } := by
  unfold Link.recessive
  split <;> simp

/-- Where the cells were read their edges have told the recessive time (R72). -/
theorem Link.recessive_of_read {k : Link} (h : k.cellsRead = true) (t : Nat) : k.recessive t = k := by
  simp [Link.recessive, h]

/-- A dominant wire moves the recessive time and the last edge's alone, to `now` at the earliest (R72, R87). -/
theorem Link.dominantAt_eq (k : Link) (now : Nat) :
    k.dominantAt now = { k with recessiveFrom := max k.recessiveFrom now, edgeAt := max k.edgeAt now } := rfl

/-- In WIRE mode and OFF the receiver sees the sampled level; in LOOPBACK the transmitter's (R68, R88). -/
@[simp] theorem State.levelSeen_of_loopback {s : State} (h : s.link.mode = .loopback) (b : Bool) :
    s.levelSeen b = s.transmits := by simp [State.levelSeen, h]
@[simp] theorem State.levelSeen_of_not_loopback {s : State} (h : s.link.mode ≠ .loopback) (b : Bool) :
    s.levelSeen b = b := by simp [State.levelSeen, h]

theorem Link.quiet_iff (k : Link) (cells now : Nat) :
    k.quiet cells now = true ↔ k.dominant = false ∧ k.recessiveFrom + cells * cell ≤ now := by
  simp [Link.quiet]

/-! ## What is sent -/

/-- This station samples a cell of a frame at its 1/2 alone, by the cell timer (R69, R78, R79). -/
theorem State.samplesCell_of_flight {s : State} {k : Nat} {level : Bool} (h : s.samplesCell k level = true)
    (hf : s.tx.flight.isSome = true) :
    s.link.fallCell + (s.now - s.link.fallAt) / cell = 4 + k ∧ (s.now - s.link.fallAt) % cell = cell / 2 ∧
      ((s.link.rx = .startMark ∧ s.link.dominant = false) ∨
        ((s.link.rx = .gap ∨ s.link.rx = .data) ∧ s.link.dominant = level)) := by
  obtain ⟨f, hf⟩ := Option.isSome_iff_exists.mp hf
  simpa [State.samplesCell, hf, Link.cellNow, and_assoc] using h

/-- This station samples a cell of its reply at its 1/2 alone, by the cell timer (R69, R78, R79). -/
theorem State.samplesCell_of_reply {s : State} {k : Nat} {level : Bool} (h : s.samplesCell k level = true)
    (hf : s.tx.flight = none) :
    s.link.fallCell + (s.now - s.link.fallAt) / cell = k ∧ (s.now - s.link.fallAt) % cell = cell / 2 ∧
      s.link.rx = .reply ∧ ((s.link.replyUnread = true ∧ s.link.dominant = false) ∨ s.link.dominant = level) := by
  simpa [State.samplesCell, hf, Link.cellNow, and_assoc] using h

/-- A frame has run to a mark with its bytes read, or, unread, with the time for its cells passed (R71, R74). -/
theorem Link.runsTo_iff (k : Link) (bytes : List Byte) (start cells now : Nat) :
    k.runsTo bytes start cells now = true ↔ k.dominant = false ∧ k.recessiveFrom + cells * cell ≤ now ∧
      ((k.rx = .startMark ∧ start + (frameCells bytes + cells) * cell ≤ now) ∨
        (k.rx = .data ∧ k.frameBuf = bytes ∧ k.bits = [])) := by
  unfold Link.runsTo Link.quiet
  cases hk : k.rx <;> simp [and_assoc]

/-- A CLAIM reaches its outcome at EOF, any other frame at EOD: the wire recessive so long and its cells run, or the frame
handed already at that mark (R83). -/
theorem Link.sentNow_iff (k : Link) (f : Flight) (now : Nat) :
    k.sentNow f now = true ↔
      if f.frame.key = .claim then
        k.runsTo f.bytes f.start eofCells now = true ∨
          (k.quiet eofCells now = true ∧ (k.rx = .afterData ∨ k.rx = .afterReply ∨ k.rx = .idle))
      else
        k.runsTo f.bytes f.start eodCells now = true ∨
          (k.quiet eodCells now = true ∧ k.rx = .afterData ∧ k.frameBuf = f.bytes) := by
  cases hf : f.frame <;> simp [Link.sentNow, hf, TxFrame.key, and_assoc, or_assoc]

/-! ## The end of a frame -/

/-- At EOF the receiver is in IDLE; it keeps what it holds of a CLAIM, and gives up any other frame's buffers and marker
(R75, R76, R99). -/
theorem Link.atEof_eq (k : Link) (now : Nat) :
    k.atEof now =
      if k.claimInHand then { k.recessive (now - eofCells * cell) with rx := .idle, mayReply := false }
      else k.afterEof now := rfl

@[simp] theorem Link.atEof_rx (k : Link) (now : Nat) : (k.atEof now).rx = .idle := by
  unfold Link.atEof; split <;> rfl
@[simp] theorem Link.atEof_mayReply (k : Link) (now : Nat) : (k.atEof now).mayReply = false := by
  unfold Link.atEof; split <;> rfl

/-! ## Stuck-line runs -/

/-- With an edge seen in GAP, or in cells it reads, a recessive wire holds no run of its own (R85, R86). -/
theorem Link.freshRun_of_read {k : Link} (hd : k.dominant = false) (hx : k.rx = .gap ∨ k.cellsRead = true)
    (last : Option Nat) (cells now : Nat) : k.freshRun last cells now = false := by
  rcases hx with hx | hx <;> simp [Link.freshRun, hd, hx]

/-- An unseen run leaves room for its cells since the wire's last edge, and since a sample that showed it recessive. -/
theorem Link.freshRun_room {k : Link} {last : Option Nat} {cells now : Nat} (hd : k.dominant = false)
    (h : k.freshRun last cells now = true) :
    k.edgeAt + cells * cell ≤ now ∧ k.recessiveAt + cells * cell ≤ now ∧ k.wireFrom + cells * cell ≤ now ∧
      k.recessiveFrom + cells * cell ≤ now := by
  have hr : k.recessiveFrom ≤ k.runFrom := by
    unfold Link.runFrom; split <;> simp only [le_max_iff] <;> omega
  have : k.edgeAt ≤ k.runFrom ∧ k.recessiveAt ≤ k.runFrom ∧ k.wireFrom ≤ k.runFrom := by
    unfold Link.runFrom; simp only [le_max_iff]; omega
  simp [Link.freshRun, hd] at h
  omega

/-! ## What the receiver hears -/

/-- A receiver that follows a frame to its EOD hears it (R74). -/
theorem Link.hears_of_follows {k : Link} {bytes : List Byte} {now : Nat} (h : k.Follows bytes now) :
    k.hears bytes now = true := by
  obtain ⟨hm, hd, hq, ho, hx⟩ := h
  rcases hx with ⟨hx, ht⟩ | ⟨hx, ht⟩ | ⟨hx, hb, hs⟩
  · simp [Link.hears, Link.quiet, Link.earliestEod, Link.firstCell, Link.gapFrom, cell, eodCells, eofCells, *] at *
  · simp [Link.hears, Link.quiet, Link.runsTo, frameCells, cell, eodCells, *] at *
    exact decide_eq_true (by omega)
  · simp [Link.hears, Link.quiet, Link.runsTo, cell, eodCells, *] at *

/-- A receiver that holds a CLAIM at its EOF judges it (R99). -/
theorem Link.holdsClaim_of_holds {k : Link} {bytes : List Byte} {reply : Option (List Byte)} {now : Nat}
    (h : k.Holds bytes reply now) : k.holdsClaim bytes reply now = true := by
  obtain ⟨hm, hd, hq, ho, hb, hr, hx⟩ := h
  have hown : k.own.all (fun x => decide (x = bytes)) = true := by rcases ho with ho | ho <;> simp [ho]
  have hquiet : k.quiet eofCells now = true := (k.quiet_iff _ _).mpr ⟨hd, hq⟩
  unfold Link.holdsClaim
  rcases hx with ⟨hx, hf, hp⟩ | ⟨hx, hf, hn, ht⟩ | ⟨hx, ht⟩ | ⟨hx, hf, hp⟩ | ⟨hx, hf, ht⟩ | ⟨hx, hf, hp, b, rfl, ht⟩ |
    ⟨hx, hf, hn, hp⟩ | ⟨hx, hf, hp⟩
  case inr.inl =>
    cases reply <;> simp [Link.earliestEod, Link.firstCell, Link.gapFrom, eofAfterEod, cell, eodCells, eofCells, *] at *
  case inr.inr.inl =>
    cases reply <;> simp [frameCells, eofAfterData, cell, eodCells, eofCells, *] at *
    exact decide_eq_true (by omega)
  case inr.inr.inr.inr.inl =>
    cases reply <;> simp [eofAfterData, cell, eodCells, eofCells, *] at *
    exact decide_eq_true (by omega)
  all_goals simp_all [Link.replyIs, cell, eofCells]

/-- A reply judged at its EOD whose check is good leads to AFTER REPLY (R76). -/
theorem State.replyEod_of_good {s : State} (hb : s.link.bits = []) (hc : checkGood s.link.replyBuf = true) :
    s.replyEod = s ∨ s.replyEod = s.setLink { s.link with rx := .afterReply } := by
  have hne : s.link.replyBuf ≠ [] := by
    intro h
    simp [checkGood, h] at hc
  unfold State.replyEod
  dsimp only
  split
  · refine .inr ?_
    rename_i h
    have : s.link.replyBuf.length ≠ 0 := by simpa using hne
    have h8 : (8 * s.link.replyBuf.length + ([] : List Bool).length) % 8 = 0 := by simp
    simp [State.judgeWire, List.find?, faultIsError, hb, hc, hne]
  · exact .inl rfl

/-- With no cell of a reply read there is none to judge (R76). -/
theorem State.replyEod_of_unread {s : State} (h : s.link.replyUnread = true) : s.replyEod = s := by
  simp [State.replyEod, h]

end Sys2Proof.Machine
end

