-- ==== Sys2Proof/WellFormed.lean ====
section
/-! DEFINITION. Which commands are well formed: operands that an event of the spec can have. Fields of frames are not
checked here: the frame layer judges them (R94). -/

namespace Sys2Proof

/-- A run of bytes that the 16-byte buffers can hold, at least one (R74, R76). -/
def bufferable (bytes : List Byte) : Bool := 1 ≤ bytes.length && bytes.length ≤ 16

/-- A data or reply cell, counted from 0, of at most 16 bytes (R69, R74). -/
def cellInRange (k : Nat) : Bool := k < 16 * 8

/-- Evidence a receiver can have: bytes it can hold, and bytes counted from 1. -/
def LineFault.wf : LineFault → Bool
  | .byteBegun n => 1 ≤ n
  | .cellCount n => n ≤ 16 * 8
  | .checkSum bytes => bufferable bytes
  | .frameBytes bytes => bufferable bytes
  | .cellWidth _ | .edgeSpacing _ | .startMarkWidth _ | .gapEdge _ | .gapSilent _ | .strayEdge _ => true

def TransmitFault.wf : TransmitFault → Bool
  | .echo k => cellInRange k
  | .seen f => f.wf

def TestOutcome.wf : TestOutcome → Bool
  | .handed bytes => bufferable bytes
  | .checkFailure | .signalError => true

/-- Scan time 1, before which no input is sampled (R1), in eighths of a cell. -/
def firstSample : Nat := 64

/-- The well-formed commands. -/
def Instr.wf : Instr → Bool
  | .testFrameOutcome _ outcome => outcome.wf
  | .loopSample w _ _ => firstSample ≤ w
  | .trunkInputSample w _ _ _ _ => firstSample ≤ w
  | .arbitrationLost _ k => cellInRange k
  | .transmitError _ f => f.wf
  | .receiveError _ f => f.wf
  | .claim _ _ _ _ _ reply => reply.elim true bufferable
  | .unlistedCommand _ _ _ code _ _ => code.toNat = 0 || 8 ≤ code.toNat
  | .resetBegin | .resetEnd _ | .testFrameTimeout _ | .listenTimer _ | .offHook _ _ | .clear _ _
  | .digitComplete _ _ | .firstEntryTimer _ _ | .endOfDiallingTimer _ _ | .huntTimer _ _ | .frameStart _ _
  | .frameSent _ | .replySent _ | .stuckDominantAbort _ | .linkFailure _ | .linkRecovery _
  | .release _ _ _ _ _ | .objection _ _ _ _ _ | .retire _ _ _ _ _ | .restore _ _ _ _ | .report _ _ _ _ _ _ _
  | .statusRequest _ _ _ _ _ | .blockLine _ _ _ _ _ | .unblockLine _ _ _ _ _ | .retireTrunk _ _ _ _ _
  | .restoreTrunk _ _ _ _ _ | .resetProfile _ _ _ _ _ | .clearCounts _ _ _ _ _ | .restart _ _ _ _ _
  | .frameEof _ | .absence _ _ | .reportInterval _ | .releaseGuardExpiry _ _ | .probeRequest _ | .graceTimer _
  | .isolatedProbeTimer _ | .homeTrunkMark _ | .busyQuietMark _ | .rejoinTimer _ | .proceedToSend _ _
  | .switchClear _ _ | .ptsTimer _ _ | .probeTimer _ _ | .breakTimer _ _ | .probeInterval _ _
  | .crosspointShiftEnd _ | .toneSample _ _ | .burstEnd _ _ | .gapEnd _ _ | .recallSilenceEnd _ _
  | .receiverIdle _ => true

end Sys2Proof
end

