-- ==== Sys2Proof/Tests/Slice0.lean ====
section
/-! SUPPORT. Tests from the spec's worked examples, the checks of well-formedness refused one by one, and for each
statement with hypotheses a state and operands that meet them, clause by clause, at the ends of their ranges. -/

namespace Sys2Proof.Tests

-- One test after another: elaborated side by side they take several gigabytes more.
set_option Elab.async false

open Sys2Proof Sys2Proof.Machine

/-! ## Helpers -/

/-- A station in slot 2 of shelf 5 with eight trunks, in this state since the reset, on the wire, its receiver idle. -/
def station (st : StationState) : State :=
  { State.reset with
    ctl := { State.reset.ctl with
      station := st
      ready := st.ready
      alarm := st.alarm
      straps := { slot := 2, shelf := 5, trunks := 7, mode := .overlap, start := 0, profile := 0 } }
    link := { Link.reset with mode := .wire, rx := .idle } }

/-- The state a command answers. -/
def after (c : Instr) (s : State) : State :=
  match exec c s with
  | .next t => t
  | _ => s

/-- A start mark at `t` and the cells of these bytes behind it, sample by sample (R69, R72). -/
def cellsOf (t : Nat) (bytes : List Byte) : List WireSample :=
  ((List.range (8 * bytes.length)).map fun k =>
    [{ when := t + 8 * k, dominant := true },
     { when := t + 8 * k + (if cellBit bytes k = some true then 2 else 6), dominant := false }]).flatten
def wireOf (t : Nat) (bytes : List Byte) : List WireSample :=
  { when := t, dominant := true } :: { when := t + 24, dominant := false } :: cellsOf (t + 32) bytes

/-- The state after these samples of the wire. -/
def reading (s : State) (samples : List WireSample) : State :=
  samples.foldl (fun s x => ({ s with wire := [x] }.advance x.when).readWire x.dominant) s

/-- A call record in this state. -/
def callIn (st : CallState) : CallRecord := { CallRecord.reset with state := st }

/-- A line whose loop is closed, or open, since a time. -/
def loopAt (loop : Loop) (edge : Nat) : ScanLine :=
  { ScanLine.reset with loop, integ := if loop = .closed then 7 else 0, lastEdge := edge }

/-- A session for a line in this state, opened at 0, its timer at 3000. -/
def sessionFor (p : Purpose) (st : SessionState) : Session :=
  { purpose := p, state := st, answer := some 3000, breakTimer := none, retireAtRelease := false, opened := 0 }

/-- A digit entry. -/
def digitEntry (d : Fin 10) : Entry :=
  { kind := .digit d, pulses := some d.val, period := some 100, ratio := some 61, speed := false, early := false }

/-- Trunk `t` OWN with this session, its seize asserted unless in a recall break. -/
def owning (s : State) (t : Trunk) (x : Session) : State :=
  ((s.setEntry t { s.entry t with holding := .own none }).setSession t (some x)).setSeize t x.seizes

/-! ## Well-formedness: an ill-formed term for each check -/

theorem test_wf_refuses_empty_test_frame : (Instr.testFrameOutcome 0 (.handed [])).wf = false := by decide
theorem test_wf_refuses_seventeen_bytes :
    (Instr.testFrameOutcome 0 (.handed (List.replicate 17 0))).wf = false := by decide
theorem test_wf_refuses_sample_before_scan_time_1 : (Instr.loopSample 63 0 true).wf = false := by decide
theorem test_wf_refuses_trunk_sample_before_scan_time_1 :
    (Instr.trunkInputSample 63 0 false false false).wf = false := by decide
theorem test_wf_refuses_cell_past_the_buffer : (Instr.arbitrationLost 0 128).wf = false := by decide
theorem test_wf_refuses_echo_past_the_buffer : (Instr.transmitError 0 (.echo 128)).wf = false := by decide
theorem test_wf_refuses_byte_zero : (Instr.receiveError 0 (.byteBegun 0)).wf = false := by decide
theorem test_wf_refuses_count_past_the_buffer : (Instr.receiveError 0 (.cellCount 129)).wf = false := by decide
theorem test_wf_refuses_empty_check : (Instr.receiveError 0 (.checkSum [])).wf = false := by decide
theorem test_wf_refuses_empty_frame : (Instr.transmitError 0 (.seen (.frameBytes []))).wf = false := by decide
theorem test_wf_refuses_empty_reply : (Instr.claim 0 1 4 2 216 (some [])).wf = false := by decide
theorem test_wf_refuses_listed_command_as_unlisted : (Instr.unlistedCommand 0 8 0 7 0 0).wf = false := by decide
theorem test_wf_accepts_the_last_cell : (Instr.arbitrationLost 0 127).wf = true := by decide
theorem test_decode_spells_no_command : decodeTableWord 8 0 = none := by decide

/-! ## The spec's worked examples -/

/-- TABLE 1-2: the samples of times 100 to 107 leave I at 6 with the loop OPEN, and the one at 108 closes it. -/
def bounce : State :=
  [(100, true), (101, true), (102, true), (103, false), (104, true), (105, true), (106, true), (107, true)].foldl
    (fun s x => after (.loopSample (x.1 * 64) 0 x.2) s) (station .listen)
theorem test_table_1_2_at_107 : (bounce.scanLine 0).integ = 6 ∧ (bounce.scanLine 0).loop = .opened := by decide
theorem test_table_1_2_at_108 :
    ((after (.loopSample (108 * 64) 0 true) bounce).scanLine 0).loop = .closed ∧
      ((after (.loopSample (108 * 64) 0 true) bounce).scanLine 0).lastEdge = 108 := by decide

/-- The decoder of TABLE 2-8 at 20,060. -/
def noisy : Decoder :=
  { Decoder.reset with
    p := 92, count := 1, pulse := some { brk := 60, start := 20000 }, interval := some (.make 20060)
    threshold := some 184 }
theorem test_table_2_8_noise_break :
    ((noisy.openEdge 20090).closedEdge 20102 false).dec = { noisy with noise := 1 } := by decide
theorem test_table_2_8_make_of_45 : (noisy.openEdge 20105).pulses = [(60, 45)] := by decide

/-- The decoder of TABLE 2-3 at 30,160: the second pulse pending, its break 58 from 30,102. -/
def bouncing : Decoder :=
  { Decoder.reset with
    p := 95, count := 2, pulses := [(62, 40)], pulse := some { brk := 58, start := 30102 }
    interval := some (.make 30160), threshold := some 190 }
theorem test_table_2_3_withdraws_at_30169 :
    (bouncing.openEdge 30169).count = 1 ∧ (bouncing.openEdge 30169).interval = some (.brk 30102) := by decide
theorem test_table_2_3_doubtful_at_30239 :
    (((bouncing.openEdge 30169).closedEdge 30239 false).entry.map Entry.kind) = some .mutilated ∧
      ((bouncing.openEdge 30169).closedEdge 30239 false).dec.doubtful = 1 := by decide

/-- TABLE 2-7: the fast digit 4 at P = 103. -/
def fastDigit : State :=
  ((station .active).setDec 4 { Decoder.reset with
    p := 103, count := 4, pulses := [(36, 22), (36, 22), (36, 22)], pulse := some { brk := 36, start := 13174 }
    interval := some (.make 13210), threshold := some 206 }).setCall 4 (callIn .hunting)
theorem test_table_2_7_fast_digit_profile :
    ((after (.digitComplete (13416 * 64) 4) fastDigit).decoder 4).p = 92 ∧
      ((after (.digitComplete (13416 * 64) 4) fastDigit).decoder 4).lastR = some 62 := by decide
theorem test_table_2_7_fast_digit_entry :
    ((after (.digitComplete (13416 * 64) 4) fastDigit).call 4).queue.map (fun e => (e.kind, e.speed)) =
      [(.digit 4, true)] := by decide

/-- Check bytes: TABLE 4-4, and the self-test's frame 1 (R202) and REPORT of Section 12. -/
theorem test_check_byte_of_a_claim : encodeFrame (.claim 1 4 (some 2)) = [33, 4, 2, 216] := by decide
theorem test_check_byte_of_a_report :
    encodeFrame (.report 1 5 5 16 false false) = [81, 5, 5, 16, 0, 148] := by decide
theorem test_objection_bytes : objectionReply 1 6 = [22, 233] := by decide

/-- TABLE 4-4: the CLAIM read cell by cell from 1000; EOD at cell 38, EOF at cell 40, a start mark from cell 41. -/
def heardClaim : State := reading (station .active) (wireOf 1000 [33, 4, 2, 216])
theorem test_table_4_4_data : heardClaim.link.rx = .data ∧ heardClaim.link.frameBuf = [33, 4, 2, 216] ∧
    heardClaim.link.bits = [] ∧ heardClaim.link.recessiveFrom = 1000 + 36 * 8 := by decide +kernel
theorem test_table_4_4_eod :
    let s := after (.objection (1000 + 38 * 8) 1 4 2 216) heardClaim
    s.link.rx = .afterData ∧ (after (.claim (1000 + 40 * 8) 1 4 2 216 none) s).link.rx = .idle ∧
      (after (.claim (1000 + 40 * 8) 1 4 2 216 none) s).link.recessiveFrom + 5 * 8 = 1000 + 41 * 8 := by decide +kernel

/-- TABLE 4-7: the reply 22 read from cell 38; its EOD at cell 56, EOF at cell 58. -/
def heardReply : State :=
  reading (after (.objection (1000 + 38 * 8) 1 4 2 216) heardClaim) (cellsOf (1000 + 38 * 8) [22, 233])
theorem test_table_4_7_reply : heardReply.link.rx = .reply ∧ heardReply.link.replyBuf = [22, 233] ∧
    ((after (.claim (1000 + 58 * 8) 1 4 2 216 (some [22, 233])) heardReply).entry 4).holding = .held 6 none := by
  decide +kernel
theorem test_stray_edge_after_reply :
    (reading heardReply [{ when := 1000 + 57 * 8, dominant := true }]).link.rxErrors = 1 ∧
      (reading heardReply [{ when := 1000 + 58 * 8, dominant := true }]).link.rxErrors = 0 := by decide +kernel

/-- TABLE 7-1: slot 4 of six trunks, ACTIVE, every peer present. -/
def choosing : State :=
  let s := station .active
  let s : State := { s with
    now := 400 * 64
    ctl := { s.ctl with straps := { s.ctl.straps with slot := 4, trunks := 5 } }
    view := { s.view with presence := Vector.replicate 8 { Presence.reset with heard := some 400 } } }
  let put (s : State) (t : Trunk) (n : BitVec 16) (h : Holding) (r : Option Slot) : State :=
    s.setEntry t { TrunkEntry.reset with seizures := n, holding := h, retiredBy := r, freeSince := 100 }
  put (put (put (put (put (put s 0 12 .free none) 1 14 (.held 0 none) none) 2 11 .free none) 3 9 .free (some 3)) 4
    10 (.own none) none) 5 11 .free none
theorem test_table_7_1_choice : choosing.choice = some 5 := by decide +kernel
theorem test_table_7_1_choice_by_map : choosing.choiceByMap = some 5 := by decide +kernel

/-- TABLE 6-7: slot 3 of five trunks hears slot 1's REPORT at 300,000. -/
def hearing : State :=
  let s := station .active
  let s : State := { s with
    ctl := { s.ctl with straps := { s.ctl.straps with slot := 3, trunks := 4 } }
    hunt := { s.hunt with idleSince := none } }
  let s := (s.setCall 5 { callIn .dialling with trunk := some 2 }).setEntry 0
    { TrunkEntry.reset with holding := .held 1 (some 6) }
  let s := (owning s 2 (sessionFor (.line 5) .established)).setEntry 3
    { TrunkEntry.reset with holding := .held 1 (some 2) }
  s.setSession 2 (some (sessionFor (.line 5) .established))
def heardReport : State := after (.report (300000 * 64) 1 5 5 16 0 148) hearing
theorem test_table_6_7_entries :
    (heardReport.entry 0).holding = .held 1 (some 6) ∧ (heardReport.entry 2).holding = .held 1 none ∧
      (heardReport.entry 3).holding = .free ∧ (heardReport.entry 4).retiredBy = some 1 := by decide +kernel
theorem test_table_6_7_yield :
    (heardReport.call 5).state = .lockout ∧ heardReport.view.dualHolds = 1 ∧
      heardReport.tx.frames.map QFrame.frame = [.release 2 .yield] := by decide +kernel

/-- Section 6.6: the counts 65535, 40000, 3, 0, 7 are halved before the raise. -/
theorem test_halving_of_counts :
    let s := ((((station .active).setEntry 0 { TrunkEntry.reset with seizures := 65535 }).setEntry 1
      { TrunkEntry.reset with seizures := 40000 }).setEntry 4 { TrunkEntry.reset with seizures := 7 })
    let t := after (.claim 640 1 0 8 (checkByte [33, 0, 8]) none) s
    (t.entry 0).seizures = 32768 ∧ (t.entry 1).seizures = 20000 ∧ (t.entry 4).seizures = 3 := by decide +kernel

/-- TABLE 9-9. -/
theorem test_table_9_9_sine : sine 24 = 71 ∧ sine 42 = 109 ∧ sine 192 = -127 := by decide
theorem test_table_9_9_output : outputCode 6308 10945 = 836 ∧ outputCode 0 0 = 512 := by decide

/-- A station whose test frame `n` began at the end of the reset. -/
def testing (n : Nat) : State :=
  let s := station .selfTest
  { s with
    ctl := { s.ctl with testFrame := n, testStart := some 0 }
    link := { Link.reset with rx := .startMark } }

/-- R203: the self-test ends 221 cells after the reset, and the listen timer runs to scan time 4,528. -/
theorem test_listen_timer_of_table_11_3 :
    (after (.testFrameOutcome (221 * 8) .checkFailure) (testing 3)).ctl.listenTimer = some 4528 := by decide
theorem test_test_timeout_is_not_early :
    (after (.testFrameTimeout 431) (testing 1)).ctl.station = .selfTest ∧
      (after (.testFrameTimeout 432) (testing 1)).ctl.station = .testFault := by decide +kernel
/-- R201, TABLE 12-7: SHELF 9 is the last that passes. -/
theorem test_shelf_9_and_10 :
    (after (.resetEnd (9 * 8)) State.reset).ctl.station = .selfTest ∧
      (after (.resetEnd (10 * 8)) State.reset).ctl.station = .strapFault := by decide +kernel
/-- R215: tick 1 of a shift, before and after the clock's rising edge, and tick 65. -/
theorem test_port_clock_and_latch :
    (State.reset.advance 3).portClocks = false ∧ (State.reset.advance 4).portClocks = true ∧
      (State.reset.advance (64 * 8 + 4)).portClocks = false ∧
      (State.reset.advance (64 * 8 + 4)).portLatches = true := by decide +kernel
theorem test_counter_saturates : counted 254 = 255 ∧ counted 255 = 255 := by decide
/-- R214: a page of 26 or more. -/
theorem test_page_26 : (station .active).page 26 = [255, 0, 0, 0, 0, 0, 0, 0] := by decide
theorem test_page_0_codes :
    ((station .active).page 0).take 4 = [0, 53, 92, 0] := by decide

/-! ## Witnesses of the hypotheses of the statements -/

theorem witness_StepRunsTheFrontCommand :
    ({ station .active with pending := [.resetBegin, .listenTimer 5] } : State).pending =
      .resetBegin :: [.listenTimer 5] ∧
    (∀ st ∈ [StationState.active, .slotConflict],
      ({ station st with wire := [{ when := 5, dominant := true }] } : State).pending = [] ∧
        ({ station st with wire := [{ when := 5, dominant := true }] } : State).wire =
          { when := 5, dominant := true } :: []) ∧
    (station .active).running = true ∧ (station .slotConflict).running = false ∧
    (station .active).pending = [] ∧ (station .active).wire = [] := by decide

theorem witness_HaltedStationIsLeftByResetAlone :
    (((station .slotConflict).inReset = true ∨ (station .slotConflict).ctl.station.halted = true) ∧
      Instr.frameStart 5 false ≠ .resetBegin ∧ (∀ pins, Instr.frameStart 5 false ≠ .resetEnd pins) ∧
      ∀ w, Instr.frameStart 5 false = .crosspointShiftEnd w → (station .slotConflict).inReset = true) ∧
    ({ State.reset with inReset := true } : State).inReset = true :=
  ⟨⟨by decide, by decide, nofun, nofun⟩, rfl⟩

theorem witness_TestFramesPassOrHalt_pass :
    (∀ n : Fin 4, 1 ≤ n.val → let s := testing n
      s.running = true ∧ s.ctl.station = .selfTest ∧ s.ctl.testStart = some 0 ∧ s.ctl.testFrame = n ∧
        s.link.rx = .startMark ∧ s.link.dominant = false ∧ s.link.recessiveFrom + 2 * 8 ≤ max s.now 240) ∧
    (0 + (6 + 8 * 5) * 8 ≤ max (testing 1).now 368 ∧ 0 + (6 + 8 * 16) * 8 ≤ max (testing 2).now 1072 ∧
      0 + (6 + 8 * 3) * 8 ≤ max (testing 3).now 240) := by decide
/-- Test frame `n` read back cell by cell, up to its last one. -/
def looped (n : Nat) : State :=
  let s := testing n
  { s with link := { s.link with
    rx := .data, frameBuf := testBytes n, recessiveFrom := (4 + 8 * (testBytes n).length) * 8 } }
theorem witness_TestFramesPassOrHalt_read :
    (looped 1).link.frameBuf = [85, 170, 51, 204, 1] ∧ (looped 1).link.bits = [] ∧
      (looped 2).link.frameBuf = [0, 1, 2, 3, 4, 5, 6, 7, 8, 9, 10, 11, 12, 13, 14, 150] ∧ (looped 2).link.bits = [] ∧
      (looped 3).link.bits = [] ∧ checkGood (looped 3).link.frameBuf = false ∧ (looped 3).link.rx = .data ∧
      (looped 1).link.recessiveFrom + 2 * 8 ≤ max (looped 1).now 368 ∧
      (looped 2).link.recessiveFrom + 2 * 8 ≤ max (looped 2).now 1072 ∧
      (looped 3).link.recessiveFrom + 2 * 8 ≤ max (looped 3).now 240 := by decide

/-- Test frame 1 cut short after this byte, whose last cell ended at 96. -/
def cutShort (b : Byte) : State :=
  { looped 1 with link := { (looped 1).link with frameBuf := [b], recessiveFrom := 96 } }
theorem witness_TestFramesPassOrHalt_short :
    ((cutShort 85).link.rx = .data ∧ (cutShort 85).link.frameBuf = [85] ∧ (cutShort 85).link.bits = [] ∧
      (cutShort 85).link.dominant = false ∧ (cutShort 85).link.recessiveFrom + 2 * 8 ≤ max (cutShort 85).now 112 ∧
      checkGood (cutShort 85).link.frameBuf = false ∧ (cutShort 85).ctl.testFrame = 1) ∧
    0 + (6 + 8 * 1) * 8 ≤ max (testing 1).now 112 ∧ max (testing 3).now 239 < 0 + (6 + 8 * 3) * 8 ∧
    0 + (6 + 8) * 8 ≤ max (testing 3).now 239 ∧ max (testing 1).now 367 < 0 + (6 + 8 * 5) * 8 ∧
    (looped 3).link.frameBuf.length = 3 ∧ (cutShort 85).link.frameBuf.length ≠ 3 := by decide
/-- R202: a shorter frame handed, or refused, at its own EOD, 14 cells after the start mark, is TEST FAULT there. -/
theorem test_short_test_frame_is_a_fault :
    (∀ s ∈ [cutShort 85, testing 1], ∀ o ∈ [TestOutcome.handed [85], .checkFailure],
      (after (.testFrameOutcome 111 o) s).ctl.station = .selfTest ∧
        (after (.testFrameOutcome 112 o) s).ctl.station = .testFault) ∧
    (after (.testFrameOutcome 367 (.handed (testBytes 1))) (testing 1)).ctl.testFrame = 1 ∧
    (after (.testFrameOutcome 239 .checkFailure) (testing 3)).ctl.station = .testFault ∧
    (after (.testFrameOutcome 240 .checkFailure) (testing 3)).ctl.station = .listen := by decide +kernel

theorem witness_TestFramesPassOrHalt_outcome :
    (testing 3).running = true ∧ (testing 3).ctl.station = .selfTest ∧ (testing 3).ctl.testFrame = 3 ∧
      (testing 3).ctl.testStart = some 0 ∧ TestOutcome.signalError ≠ .checkFailure ∧ (testing 1).link.rx = .startMark ∧
      (testing 1).ctl.testFrame = 1 ∧ TestOutcome.checkFailure ≠ .handed [85, 170, 51, 204, 1] ∧
      (testing 1).link.dominant = false ∧ (testing 1).link.recessiveFrom + 2 * 8 ≤ max (testing 1).now 368 ∧
      (testing 2).ctl.testFrame = 2 := by decide
theorem witness_TestFramesPassOrHalt_timeout :
    (testing 1).ctl.testStart = some 0 ∧ 0 + (6 + 8 * 5) * 8 + 8 * 8 ≤ max (testing 1).now 432 ∧
      (testing 3).ctl.testStart = some 0 ∧ 0 + (6 + 8 * 3) * 8 + 8 * 8 ≤ max (testing 3).now 304 := by decide
/-- R88: in LOOPBACK the receiver reads what the transmitter sends, whatever level the sample gives: the mark from 0,
recessive in cell 3. -/
theorem test_loopback_level_is_the_transmitters :
    (reading (testing 1) [{ when := 0, dominant := false }]).link.dominant = true ∧
      (reading (testing 1) [{ when := 0, dominant := false }, { when := 24, dominant := true }]).link.dominant =
        false := by decide +kernel

/-- A station in LISTEN, and one in REJOIN, whose timer expires at 4500. -/
def listening : State := { station .listen with ctl := { (station .listen).ctl with listenTimer := some 4500 } }
def rejoining : State := { station .rejoin with iso := { Isolation.reset with rejoinTimer := some 4500 } }
theorem witness_ListenAndRejoinEndInActive :
    (listening.running = true ∧ listening.tx.flight = none ∧ 4500 ≤ max listening.now 288000 / 64 ∧
      listening.ctl.station = .listen ∧ listening.ctl.listenTimer = some 4500) ∧
    (rejoining.running = true ∧ rejoining.tx.flight = none ∧ 4500 ≤ max rejoining.now 288000 / 64 ∧
      rejoining.ctl.station = .rejoin ∧ rejoining.iso.rejoinTimer = some 4500) ∧
    ∀ g ∈ [Guard.marked, .running 4440, .running 4441],
      let s := listening.setScan 7 { loopAt .closed 4440 with guard := g }
      (s.call 7).state = .idle ∧ (s.scanLine 7).loop = .closed ∧ (s.scanLine 7).guard = g ∧ 4440 + 60 ≤ 4500 ∧
        ¬ 4441 + 60 ≤ 4500 := by decide

/-- The end of LISTEN with line 7 off-hook and past its guard; no peer is present, so that the home trunk, 2, is the one candidate. -/
def waking (m : SendingMode) : State :=
  (listening.setScan 7 { loopAt .closed 4440 with guard := .marked }).setCtl
    { listening.ctl with straps := { listening.ctl.straps with mode := m } }
theorem witness_ListenAndRejoinEndInActive_first :
    (waking .enBloc).ctl.station = .listen ∧ (waking .enBloc).ctl.straps.mode = .enBloc ∧ (waking .enBloc).Unserved ∧
      listening.ctl.station = .listen ∧ listening.Unserved ∧ ∀ l, (listening.scanLine l).loop = .opened := by
  unfold State.Unserved; decide
/-- R105, R204: in EN-BLOC no line hunts at once and the REPORT goes first; in OVERLAP the line's CLAIM does, a lower kind
(log entry 22). -/
theorem test_first_frame_after_listen :
    (after (.listenTimer 288000) (waking .enBloc)).offered = some (.report false) ∧
      (after (.listenTimer 288000) (waking .overlap)).offered = some (.claim 2 (some 7)) ∧
      (after (.listenTimer 288000) listening).offered = some (.report false) := by decide +kernel

theorem witness_LoopSampleMovesTheIntegrator :
    (station .active).running = true ∧
      ∀ l : Line, ((station .active).scanLine l).lastSample < max (station .active).now (64 + 8 * l.val) / 64 ∧
        max (station .active).now (64 + 8 * l.val) / 8 % 8 = l.val := by decide

/-- Line 0 one sample from an edge, its guard running since 50. -/
def edging (st : CallState) (loop : Loop) : State :=
  ((station .active).setScan 0 { ScanLine.reset with
    loop, integ := if loop = .closed then 1 else 6, guard := .running 50 }).setCall 0 (callIn st)
theorem witness_LoopEdgesActAsTheCallStateSays_idle :
    (edging .idle .opened).running = true ∧ ((edging .idle .opened).call 0).state = .idle ∧
      ((edging .idle .opened).scanLine 0).lastSample < max (edging .idle .opened).now (109 * 64) / 64 ∧
      max (edging .idle .opened).now (109 * 64) / 8 % 8 = (0 : Line).val ∧
      (∀ start, ((edging .idle .opened).scanLine 0).guard = .running start →
        max (edging .idle .opened).now (109 * 64) / 64 < start + 60) ∧
      ((edging .idle .opened).scanLine 0).loop = .opened ∧ ((edging .idle .opened).scanLine 0).integ = 6 ∧
      ((edging .idle .closed).scanLine 0).loop = .closed ∧ ((edging .idle .closed).scanLine 0).integ = 1 :=
  ⟨by decide, by decide, by decide, by decide, fun _ h => by cases h; decide, by decide, by decide, by decide,
    by decide⟩
theorem witness_LoopEdgesActAsTheCallStateSays_blocked :
    (edging .blocked .opened).running = true ∧ ((edging .blocked .opened).call 0).state = .blocked ∧
      ((edging .blocked .opened).scanLine 0).lastSample < max (edging .blocked .opened).now 64 / 64 ∧
      max (edging .blocked .opened).now 64 / 8 % 8 = (0 : Line).val ∧
      ((edging .blocked .opened).scanLine 0).loop = (if true then .opened else .closed) ∧
      ((edging .blocked .opened).scanLine 0).integ = (if true then 6 else 1) ∧
      ((edging .blocked .closed).scanLine 0).loop = (if false then .opened else .closed) ∧
      ((edging .blocked .closed).scanLine 0).integ = (if false then 6 else 1) := by decide

/-- Line 0 one sample from an edge in a decoding state, five pulses counted and a make since 20. -/
def counting (st : CallState) (loop : Loop) : State :=
  (edging st loop).setDec 0 { Decoder.reset with count := 5, interval := some (.make 20), threshold := some 200 }
theorem witness_LoopEdgesActAsTheCallStateSays_called :
    (∀ st ∈ [CallState.collecting, .hunting, .seizing, .dialling, .lockout], ∀ present : Bool,
      let s := counting st (if present then .opened else .closed)
      s.running = true ∧ (s.call 0).state = st ∧ (s.scanLine 0).lastSample < max s.now (109 * 64) / 64 ∧
        max s.now (109 * 64) / 8 % 8 = (0 : Line).val ∧
        (s.scanLine 0).loop = (if present then .opened else .closed) ∧
        (s.scanLine 0).integ = (if present then 6 else 1) ∧ 109 < (s.scanLine 0).lastEdge + 900 ∧
        (s.decoder 0).count ≠ 0 ∧ (s.decoder 0).interval = some (.make 20) ∧ (s.decoder 0).threshold = some 200 ∧
        max s.now (109 * 64) / 64 < 20 + 200) := by decide

/-- Line 0 off-hook since 50, its guard at its mark at 110. -/
def lifted (st : StationState) (mode : SendingMode) : State :=
  let s := (station st).setScan 0 { loopAt .closed 50 with guard := .running 50 }
  { s with ctl := { s.ctl with straps := { s.ctl.straps with mode } } }
theorem witness_OffHookStartsTheCallWhereCallsStart (mode : SendingMode) :
    ((lifted .active mode).running = true ∧ (lifted .active mode).ctl.station = .active ∧
      (lifted .isolated mode).running = true ∧ (lifted .isolated mode).ctl.station = .isolated ∧
      (lifted .listen mode).running = true ∧ (lifted .listen mode).ctl.station = .listen) ∧
    ∀ st, ((lifted st mode).call 0).state = .idle ∧ ((lifted st mode).scanLine 0).loop = .closed ∧
      ((lifted st mode).scanLine 0).guard = .running 50 ∧ 50 + 60 ≤ max (lifted st mode).now (110 * 64) / 64 ∧
      (lifted st mode).ctl.straps.mode = mode := by
  refine ⟨by cases mode <;> decide, fun st => ?_⟩
  cases st <;> cases mode <;> decide

theorem witness_MakesAndNoiseBreaksKeepTheRecord_noise :
    noisy.interval = some (.make 20060) ∧ noisy.threshold = some 184 ∧ noisy.resume = none ∧
      20109 - 20090 < 20 ∧ (noisy.overCount = false → noisy.pulse ≠ none → 15 ≤ 20090 - 20060) ∧
      (noisy.count = 0 ∨ 20109 < 20060 + 184) := by decide

/-- A decoder whose break began at 1000, with `n` pulses counted, at P = 100. -/
def breaking (n : Nat) : Decoder := { Decoder.reset with count := n, interval := some (.brk 1000) }
theorem witness_BreaksAreJudgedByTheirLength :
    (∀ n, (breaking n).interval = some (.brk 1000)) ∧ 1000 + 20 ≤ 1020 ∧
      1120 - 1000 ≤ max 120 ((breaking 14).p - 10) ∧ max 120 ((breaking 15).p - 10) < 1121 - 1000 ∧
      1249 - 1000 < 250 ∧ 250 ≤ 1250 - 1000 ∧ (breaking 14).count < 15 ∧ 15 ≤ (breaking 15).count ∧
      (breaking 0).count = 0 ∧ (breaking 1).count ≠ 0 := by
  refine ⟨fun _ => rfl, ?_⟩
  decide

theorem witness_MakesAndNoiseBreaksKeepTheRecord_make :
    (noisy.interval = some (.make 20060) ∧ noisy.threshold = some 184 ∧ noisy.overCount = false ∧
      noisy.pulse = some { brk := 60, start := 20000 } ∧ 15 ≤ 20075 - 20060 ∧ 20074 - 20060 < 15) ∧
    ({ noisy with pulse := none } : Decoder).pulse = none ∧
    ({ noisy with overCount := true } : Decoder).overCount := by decide

/-- A digit of `n` pulses at its mark, in a call of this state. -/
def marking (n : Nat) (st : CallState) : State :=
  ((station .active).setDec 4 { Decoder.reset with
    count := n, pulses := List.replicate (n - 1) (60, 40), pulse := some { brk := 60, start := 1000 }
    interval := some (.make 1060), threshold := some 200 }).setCall 4 (callIn st)
theorem witness_DigitCompletesAndTeachesTheProfile :
    (∀ st ∈ [CallState.hunting, .seizing], ∀ n ∈ [1, 2, 10, 11, 15],
      (marking n st).running = true ∧ ((marking n st).call 4).state = st ∧ ((marking n st).call 4).spoiled = false ∧
      ((marking n st).call 4).queue.length < 24 ∧ ((marking n st).decoder 4).interval = some (.make 1060) ∧
      ((marking n st).decoder 4).threshold = some 200 ∧ 1060 + 200 ≤ max (marking n st).now (1260 * 64) / 64 ∧
      ((marking n st).decoder 4).count = n ∧ ((marking n st).decoder 4).overCount = false) ∧
    ({ (marking 15 .hunting).decoder 4 with overCount := true } : Decoder).overCount = true := by decide

/-- Line 0 with `n` digits queued. -/
def queued (st : CallState) (n : Nat) : State :=
  (station .active).setCall 0 { callIn st with queue := List.replicate n (digitEntry 5) }
/-- An entry that is no digit. -/
def otherEntry (kind : EntryKind) : Entry :=
  { kind, pulses := none, period := none, ratio := none, speed := false, early := false }
theorem witness_EntriesJoinTheQueueAsTheCallStateSays_called :
    (∀ st ∈ [CallState.hunting, .seizing, .dialling], ∀ n ∈ [0, 23, 24],
      ((queued st n).call 0).state = st ∧ ((queued st n).call 0).spoiled = false ∧
        ((queued st n).call 0).queue.length = n ∧ ((queued st n).call 0).firstDigitSent = false ∧
        ((queued st n).call 0).dialTimer ≠ .expired ∧ (queued st n).ctl.straps.mode = .overlap) ∧
    (((queued .dialling 3).setCall 0 { callIn .dialling with spoiled := true }).call 0).spoiled = true := by decide
theorem witness_EntriesJoinTheQueueAsTheCallStateSays_collecting :
    ((queued .collecting 14).call 0).state = .collecting ∧ (digitEntry 5).kind = .digit 5 ∧
    (otherEntry .recall).kind = .recall ∧ (otherEntry .mutilated).kind = .mutilated ∧
    ((queued .collecting 14).call 0).queue.length + 1 ≠ 16 ∧
    ((queued .collecting 15).call 0).queue.length + 1 = 16 := by decide

/-- Line 3 in this state on trunk 1, its loop open since 100. -/
def hungUp (st : CallState) : State :=
  owning (((station .active).setScan 3 (loopAt .opened 100)).setCall 3 { callIn st with trunk := some 1 }) 1
    (sessionFor (.line 3) .established)
theorem witness_ClearEndsTheCall :
    ∀ st ∈ [CallState.collecting, .hunting, .seizing, .dialling, .lockout],
      (hungUp st).running = true ∧ ((hungUp st).call 3).state.inCall = true ∧
      ((hungUp st).scanLine 3).loop = .opened ∧
      ((hungUp st).scanLine 3).lastEdge + 900 ≤ max (hungUp st).now (1000 * 64) / 64 ∧
      ((hungUp st).call 3).trunk = some 1 ∧ (hungUp st).ctl.station ≠ .isolated := by decide

/-- Line 0 in this state with both timers expiring at 9000, and a claim of this stage for it. -/
def expiring (st : CallState) (stage : Stage) : State :=
  let s := (station .active).setCall 0
    { callIn st with firstTimer := some 9000, huntTimer := some 9000, dialTimer := .running 9000 }
  { s with hunt := { s.hunt with queue := if st = .hunting then [0] else []
                                 claim := some { trunk := 4, owner := .line 0, stage } } }
theorem witness_CallTimersEndOrReleaseTheCall_lockout :
    ∀ stage ∈ [Stage.queued, .inFlight], ∀ st ∈ [CallState.collecting, .hunting],
      (expiring st stage).running = true ∧ 9000 ≤ max (expiring st stage).now (9000 * 64) / 64 ∧
      ((expiring st stage).call 0).state = st ∧ ((expiring st stage).call 0).queue = [] ∧
      ((expiring st stage).call 0).firstTimer = some 9000 ∧ ((expiring st stage).call 0).huntTimer = some 9000 ∧
      (expiring st stage).hunt.claim = some { trunk := 4, owner := .line 0, stage } := by decide

theorem witness_CallTimersEndOrReleaseTheCall_dialling :
    ∀ st ∈ [CallState.collecting, .hunting, .seizing, .dialling],
      (expiring st .queued).running = true ∧ ((expiring st .queued).call 0).dialTimer = .running 9000 ∧
      9000 ≤ max (expiring st .queued).now (9000 * 64) / 64 ∧ ((expiring st .queued).call 0).state = st := by decide

theorem witness_TrunkSampleFollowsTheInputs :
    (station .active).running = true ∧ (station .active).fitted 7 = true ∧
      ((station .active).input 7).lastSample < max (station .active).now 64 / 64 := by decide

/-- Line 3 in this state on trunk 1, whose session stands in `ses`, both runs of 20 ms complete. -/
def answered (st : CallState) (p : Purpose) (ses : SessionState) : State :=
  (owning ((station .active).setCall 3 { callIn st with trunk := some 1 }) 1 (sessionFor p ses)).setInput 1
    { busy := true, ptsRun := some 80, clrRun := some 80, lastSample := 100 }
theorem witness_InputRunsEstablishOrEndTheCall_proceed :
    let s := answered .seizing (.line 3) .waitPts
    s.running = true ∧ s.session 1 = some (sessionFor (.line 3) .waitPts) ∧ (s.call 3).state = .seizing ∧
      (s.call 3).identitySent = false ∧ (s.input 1).ptsRun = some 80 ∧
      max 80 (sessionFor (.line 3) .waitPts).opened + 20 ≤ (s.input 1).lastSample ∧
      (s.call 3).trunk = some 1 ∧ (s.call 3).spoiled = false := by decide

theorem witness_ProbeEndsAnsweredOrUnanswered :
    let s := answered .idle .probe .probeWait
    s.running = true ∧ s.session 1 = some (sessionFor .probe .probeWait) ∧ s.ctl.station ≠ .isolated ∧
      (s.input 1).ptsRun = some 80 ∧ (s.input 1).clrRun = some 80 ∧
      max 80 (sessionFor .probe .probeWait).opened + 20 ≤ (s.input 1).lastSample ∧
      (sessionFor .probe .probeWait).answer = some 3000 ∧ 3000 ≤ max s.now (3000 * 64) / 64 ∧
      (s.entry 1).retiredBy ≠ some s.slot ∧ (sessionFor .probe .probeWait).retireAtRelease = false ∧
      ((s.setEntry 1 { s.entry 1 with retiredBy := some 2 }).entry 1).retiredBy = some s.slot ∧
      (({ sessionFor .probe .probeWait with retireAtRelease := true } : Session).retireAtRelease = true) := by decide

theorem witness_SeizureFailureCountsForTrunkAndCall :
    let s := answered .seizing (.line 3) .waitPts
    s.running = true ∧ s.session 1 = some (sessionFor (.line 3) .waitPts) ∧
      (sessionFor (.line 3) .waitPts).retireAtRelease = false ∧ (s.call 3).state = .seizing ∧
      ({ sessionFor (.line 3) .waitPts with retireAtRelease := true } : Session).retireAtRelease = true ∧
      (sessionFor (.line 3) .waitPts).answer = some 3000 ∧
      3000 ≤ max s.now (3000 * 64) / 64 ∧ (s.input 1).clrRun = some 80 ∧
      max 80 (sessionFor (.line 3) .waitPts).opened + 20 ≤ (s.input 1).lastSample ∧
      (s.entry 1).failures < 2 ∧ (s.call 3).failures < 2 ∧
      2 ≤ ((s.setEntry 1 { s.entry 1 with failures := 2 }).entry 1).failures ∧
      2 ≤ ((s.setCall 3 { s.call 3 with failures := 2 }).call 3).failures := by decide

theorem witness_InputRunsEstablishOrEndTheCall_clear :
    ∀ st ∈ [SessionState.established, .recallBreak],
      let s := answered .dialling (.line 3) st
      s.running = true ∧ s.session 1 = some (sessionFor (.line 3) st) ∧ (sessionFor (.line 3) st).state = st ∧
        (sessionFor (.line 3) st).retireAtRelease = false ∧
        ({ sessionFor (.line 3) st with retireAtRelease := true } : Session).retireAtRelease = true ∧
        (s.input 1).clrRun = some 80 ∧
        max 80 (sessionFor (.line 3) st).opened + 20 ≤ (s.input 1).lastSample := by decide

/-- Sender 0 of line 3 on trunk 1 in this state, with the recall break of the trunk until 100. -/
def sending (st : SenderState) (src : Option Source) (code : Option Code) : State :=
  (answered .dialling (.line 3) .established).setSender 0 { Sender.reset with
    state := st, trunk := some 1, line := some 3, source := src, code := code, endsAt := 6400 }
def breakingSeize : State :=
  let x := { sessionFor (.line 3) .recallBreak with answer := none, breakTimer := some 100 }
  owning (sending .recallWait none none) 1 x
theorem witness_RecallBreaksAreMadeAndEnd_end :
    breakingSeize.running = true ∧
      breakingSeize.session 1 =
        some { sessionFor (.line 3) .recallBreak with answer := none, breakTimer := some 100 } ∧
      100 ≤ max breakingSeize.now 6400 / 64 ∧ (breakingSeize.sender 0).trunk = some 1 ∧
      (breakingSeize.sender 0).state = .recallWait ∧ ∀ j, j ≠ 0 → (breakingSeize.sender j).trunk ≠ some 1 := by decide

/-- Trunk 1 retired by this station, its probe interval ending at 9000. -/
def probing (st : StationState) : State :=
  ((station st).setEntry 1 { TrunkEntry.reset with retiredBy := some 2 }).setProbeInterval 1 (some 9000)
theorem witness_ProbesAreAskedForAndClaimed_interval :
    ((probing .active).running = true ∧ (probing .active).sup.probeIntervals[(1 : Trunk)] = some 9000 ∧
      9000 ≤ max (probing .active).now (9000 * 64) / 64 ∧
      ((probing .active).entry 1).retiredBy = some (probing .active).slot) ∧
    ((probing .active).ctl.station = .active ∧ (probing .active).hunt.probe = none ∧
      (probing .active).hunt.claim = none ∧ ∀ v, (probing .active).session v = none) ∧
    ((probing .isolated).running = true ∧ (probing .isolated).ctl.station ≠ .active ∧
      (probing .isolated).sup.probeIntervals[(1 : Trunk)] = some 9000 ∧
      ((probing .isolated).entry 1).retiredBy = some (probing .isolated).slot) := by decide

theorem witness_CrosspointShiftEndsInALatch :
    (station .active).inReset = false ∧
      (station .active).sup.shift = some { start := 0, copy := Vector.replicate 64 false, again := false } ∧
      0 + 65 * 8 ≤ max (station .active).now 520 ∧
      (∀ d ∈ [0, 511, 512, 519], ((station .active).advance d).now = 0 + d) ∧
      ((0 : Nat) / 8 = 8 * (0 : Line).val + (0 : Trunk).val ∧ (511 : Nat) / 8 = 8 * (7 : Line).val + (7 : Trunk).val ∧
        64 ≤ 512 / 8 ∧ 64 ≤ 519 / 8) ∧
      ({ station .active with sup := { (station .active).sup with shift := none } } : State).sup.shift = none := by
  decide +kernel

def toned (n : Nat) : State :=
  let s := sending .tone (some .entry) (some (.digit 5))
  s.setSender 0 { s.sender 0 with samples := n }
theorem witness_BurstsSoundAndEnd_tone :
    ∀ n ∈ [0, 639],
      let s := toned n
      let ticks := 8 * (match s.ctl.straps.profile with | 0 => 80 | 1 => 60 | 2 => 100 | 3 => 50)
      s.running = true ∧ (s.sender 0).state = .tone ∧ (s.sender 0).code = some (.digit 5) ∧
        (s.sender 0).samples ≤ n ∧ n < ticks ∧ (s.sender 0).endsAt + 8 * n = max s.now (1280 + 8 * n) + 8 * ticks ∧
        (n = 0 →
          (s.sender 0).lowPhase.toNat = ((s.sender 0).samples - 1) * (lowIncrement (Code.digit 5).row).toNat % 65536 ∧
          (s.sender 0).highPhase.toNat =
            ((s.sender 0).samples - 1) * (highIncrement (Code.digit 5).column).toNat % 65536) := by decide
theorem witness_BurstsSoundAndEnd_no_sample :
    ∀ j, 0 ≤ j → j < 640 → ((toned 0).sender 0).endsAt + 8 * j ≠ max (toned 0).now 1281 + 8 * 640 := by
  intro j _ _ h
  have : ((toned 0).sender 0).endsAt = 6400 ∧ (toned 0).now = 0 := by decide
  omega
/-- R178, TABLE 9-9: of the rows that come too early, between two ticks or again, none is a sample; sample 1 is a tick
after the first. -/
theorem test_tone_samples_come_at_their_ticks :
    let tone := fun w s => after (.toneSample w 0) s
    let s := tone 1280 (toned 0)
    ((tone 1279 (toned 0)).sender 0).samples = 0 ∧ (s.sender 0).samples = 1 ∧ (s.sender 0).output = 512 ∧
      (tone 1280 s).sender 0 = s.sender 0 ∧ (tone 1287 s).sender 0 = s.sender 0 ∧
      ((tone 1288 s).sender 0).output = 836 := by decide +kernel

/-- The call of `sending` with this much of it sent and these entries queued. -/
def sent (st : SenderState) (src : Option Source) (identity : Bool) (q : List Entry) : State :=
  (sending st src none).setCall 3
    { callIn .dialling with trunk := some 1, identitySent := identity, queue := q }
def recallEntry : Entry := otherEntry .recall
theorem witness_BurstsSoundAndEnd_end :
    ((sending .tone (some .entry) (some (.digit 5))).running = true ∧
      ((sending .tone (some .entry) (some (.digit 5))).sender 0).state = .tone) ∧
    let s := sent .recallSilence none true [recallEntry, digitEntry 5]
    s.running = true ∧ (s.sender 0).endsAt ≤ max s.now 6400 ∧ (s.sender 0).state = .recallSilence ∧
      (s.sender 0).line = some 3 ∧ (s.sender 0).trunk = some 1 ∧ (s.sender 0).source = none ∧
      (s.call 3).state = .dialling ∧ (s.call 3).trunk = some 1 ∧ (s.call 3).spoiled = false ∧
      (s.call 3).identitySent = true ∧ (s.call 3).queue = [recallEntry, digitEntry 5] ∧
      (digitEntry 5).kind = .digit 5 := by decide

theorem witness_GapEndPlaysTheNextCode_identity :
    ∀ p ∈ [1, 4, 5], let s := sent .gap (some (.identity p)) false []
      s.running = true ∧ (s.sender 0).state = .gap ∧ (s.sender 0).endsAt ≤ max s.now 6400 ∧
        (s.sender 0).line = some 3 ∧ (s.sender 0).trunk = some 1 ∧ (s.call 3).state = .dialling ∧
        (s.call 3).trunk = some 1 ∧ (s.call 3).spoiled = false ∧ (s.sender 0).source = some (.identity p) ∧
        (s.call 3).identitySent = false ∧ s.ctl.straps.mode = .overlap ∧ (s.call 3).audio = false ∧
        s.session 1 = some (sessionFor (.line 3) .established) := by decide
theorem witness_GapEndPlaysTheNextCode_entry :
    ∀ q ∈ [[digitEntry 4, digitEntry 5], [digitEntry 4, otherEntry .mutilated, digitEntry 1], [digitEntry 4]],
      let s := sent .gap (some .entry) true q
      s.running = true ∧ (s.sender 0).source = some .entry ∧ (s.call 3).identitySent = true ∧ (s.call 3).queue = q ∧
        (digitEntry 5).kind = .digit 5 ∧ (otherEntry .mutilated).kind = .mutilated := by decide
theorem witness_RecallBreaksAreMadeAndEnd_made :
    let s := sent .gap (some .entry) true [digitEntry 4, recallEntry]
    s.running = true ∧ (s.sender 0).state = .gap ∧ (s.sender 0).endsAt ≤ max s.now 6400 ∧
      (s.sender 0).line = some 3 ∧ (s.sender 0).trunk = some 1 ∧ (s.sender 0).source = some .entry ∧
      (s.call 3).state = .dialling ∧ (s.call 3).spoiled = false ∧ (s.call 3).identitySent = true ∧
      (s.call 3).queue = digitEntry 4 :: recallEntry :: [] ∧ recallEntry.kind = .recall ∧
      s.session 1 = some (sessionFor (.line 3) .established) := by decide

/-- Line 5 dials on trunk 2, its identity sent or not, and line 1 on trunk 1; line 4 was granted a sender last. -/
def contending (identity : Bool) (q : List Entry) : State :=
  let call (t : Trunk) (identity : Bool) : CallRecord :=
    { callIn .dialling with trunk := some t, identitySent := identity, firstDigitSent := identity, queue := q }
  let s := ((station .active).setCall 5 (call 2 identity)).setCall 1 (call 1 true)
  { owning (owning s 2 (sessionFor (.line 5) .established)) 1 (sessionFor (.line 1) .established) with
    arb := { requests := [], pointer := 4 } }
theorem witness_ArbiterGrantsWhileASenderIsFree :
    (∀ identity, ∀ q ∈ [[digitEntry 4], [otherEntry .mutilated]], let s := contending identity q
      s.wantsSender 5 = true ∧ (s.call 5).trunk = some 2 ∧ (s.call 5).identitySent = identity ∧
        (∀ m, s.wantsSender m = true → (5 + 7 - s.arb.pointer.val) % 8 ≤ (m.val + 7 - s.arb.pointer.val) % 8) ∧
        (∀ i, (s.sender i).state = .free ∧ (s.sender i).trunk = none) ∧ (s.call 5).queue = q) ∧
    (((station .active).setSender 1 { Sender.reset with state := .gap }).sender (1 - 0)).state ≠ .free ∧
    let s := contending true [digitEntry 4]
    s.wantsSender 1 = true ∧ (s.call 1).trunk = some 1 ∧ (1 : Trunk) ≠ 2 ∧
      ∀ k, s.wantsSender k = true → (s.call k).trunk ≠ some 2 →
        (1 + 7 - s.arb.pointer.val) % 8 ≤ (k.val + 7 - s.arb.pointer.val) % 8 := by
  decide +kernel

/-! ### The link -/

/-- A CLAIM and a REPORT queued. -/
def queueing : State :=
  let s := station .active
  { s with
    tx := (s.tx.place { frame := .report false, age := 5 }).place { frame := .claim 1 (some 3), age := 5 } }
theorem witness_OfferedFrameIsTheLowestKindThenTheOldest :
    queueing.ctl.station = .active ∧ queueing.tx.frames.length = 2 ∧
      queueing.offered = some (.claim 1 (some 3)) ∧
      ({ queueing with tx := TxQueue.flushed } : State).offered = none := by decide
/-- TABLE 5-5 at 700,006: RELEASEs, CLAIM, RESTORE, REPORT in offering order, whatever the order of their placing; R105:
the REPORT alone in REJOIN. -/
theorem test_lowest_kind_is_offered_first :
    queueing.offered = some (.claim 1 (some 3)) ∧
      ((queueing.place (.restore 3)).place (.release 3 .ptsFail)).offered = some (.release 3 .ptsFail) ∧
      ({ queueing with ctl := { queueing.ctl with station := .rejoin } } : State).offered = some (.report false) := by
  decide
/-- R105, R106: a CLAIM lost in data cell 2 is out of flight, stays queued and is offered again before the REPORT. -/
theorem test_lost_claim_is_offered_again :
    let s := after (.arbitrationLost (40 + 6 * 8 + 4) 2) (after (.frameStart 40 false) queueing)
    s.link.arbLosses = 1 ∧ s.tx.flight = none ∧ s.tx.frames.length = 2 ∧ s.offered = some (.claim 1 (some 3)) := by decide +kernel

/-- A RELEASE of trunk 1 queued at 5, in flight or not, and another that waits beside it or not. -/
def placing (flies waits : Bool) : State :=
  let s := station .active
  { s with
    now := 90
    tx := { frames := [{ frame := .release 1 .lineClear, age := 5 }]
            flight := if flies then
              some { frame := .release 1 .lineClear, bytes := [18, 1, 1, 235], start := 60 } else none
            waiting := if waits then some { frame := .release 1 .ptsFail, age := 70 } else none }
    link := { s.link with rx := if flies then .startMark else .idle, fallAt := 60 } }
theorem witness_PlacedFramesJoinTheQueueByTheirKey :
    (∀ f ∈ [TxFrame.release 1 .yield, .retire 1 .ptsFail, .restore 1, .report true, .claim 1 none], ∀ b,
      ∃ s : State, s = placing b b ∧ (s.tx.flight.isSome = b)) ∧
    (TxFrame.release 1 .yield).key = (TxFrame.release 1 .lineClear).key ∧
    (TxFrame.restore 1).key ≠ (TxFrame.release 1 .lineClear).key ∧
    (placing true true).tx.waiting = some { frame := .release 1 .ptsFail, age := 70 } :=
  ⟨fun _ _ b => ⟨_, rfl, by cases b <;> rfl⟩, by decide, by decide, rfl⟩
/-- TABLE 5-4: a RELEASE keeps its age and takes the new cause, in the queue and where it waits. -/
theorem test_release_keeps_its_age :
    ((placing false false).place (.release 1 .yield)).tx.frames = [{ frame := .release 1 .yield, age := 5 }] ∧
      ((placing true true).place (.release 1 .yield)).tx.waiting = some { frame := .release 1 .yield, age := 70 } ∧
      ((placing false false).place (.report true)).tx.frames =
        [{ frame := .release 1 .lineClear, age := 5 }, { frame := .report true, age := 90 }] := by decide

/-- A station with its frame about to go: recessive since 100, CLAIM queued. -/
def offering (st : StationState) : State :=
  let s := station st
  { s with
    link := { s.link with recessiveFrom := 100 }
    tx := s.tx.place { frame := .claim 1 (some 3), age := 5 }
    hunt := { s.hunt with claim := some { trunk := 1, owner := .line 3, stage := .queued } } }
theorem witness_FrameStartPutsTheOfferedFrameOnTheWire_wire :
    (offering .active).running = true ∧ (offering .active).link.mode = .wire ∧ (offering .active).tx.flight = none ∧
      (offering .active).link.reply = none ∧ (offering .active).link.dominant = false ∧
      (offering .active).link.rx = .idle ∧
      (offering .active).link.recessiveFrom + (if false then 39 else 40) ≤ max (offering .active).now 140 ∧
      (offering .active).link.recessiveFrom + (if true then 39 else 40) ≤ max (offering .active).now 139 ∧
      (offering .active).offered = some (.claim 1 (some 3)) ∧ (offering .listen).running = true ∧
      (offering .listen).link.mode = .wire ∧ (offering .listen).offered = none := by decide
/-- Another station's start mark seen at 139. -/
def joined : State := reading (offering .active) [{ when := 139, dominant := true }]
theorem witness_FrameStartPutsTheOfferedFrameOnTheWire_joining :
    joined.link.dominant = true ∧ joined.link.rx = .startMark ∧ joined.link.own = none ∧
      joined.link.fallAt = max joined.now 139 ∧ joined.link.recessiveFrom + 39 ≤ max joined.now 139 ∧
      (after (.frameStart 139 true) joined).link.own = some [34, 1, 3, 217] := by decide +kernel
theorem witness_FrameStartPutsTheOfferedFrameOnTheWire_loopback :
    State.reset.running = true ∧ State.reset.link.mode = .loopback ∧ State.reset.ctl.station = .selfTest ∧
      State.reset.ctl.testStart = none ∧ State.reset.link.rx = .waitEof ∧ State.reset.link.dominant = false ∧
      State.reset.link.recessiveFrom + 5 * 8 ≤ max State.reset.now 40 := by decide

/-- Its CLAIM in flight, for this owner. -/
def flying (st : StationState) (owner : Owner) : State :=
  let s := offering st
  { s with
    tx := { s.tx with flight := some { frame := .claim 1 (some 3), bytes := [34, 1, 3, 217], start := 140 } }
    hunt := { s.hunt with claim := some { trunk := 1, owner, stage := .inFlight } }
    link := { s.link with rx := .startMark, own := some [34, 1, 3, 217], fallAt := 140 } }
/-- Its status reply on the wire. -/
def replying (kind : ReplyKind) : State :=
  let s := station .active
  { s with link := { s.link with
    rx := .reply, mayReply := true, fallAt := 140, reply := some { bytes := [1, 254], kind, start := 140 } } }
/-- Line 3's CLAIM in flight with every peer present, so that its trunk is still a candidate. -/
def flyingOn : State :=
  let s := flying .active (.line 3)
  { s with view := { s.view with presence := Vector.replicate 8 { Presence.reset with heard := some 5 } } }
/-- The wire falls at 140, and again at 172 at cell 4: the pin at the start of cell 4 + 15, bit 15 of the CLAIM. -/
theorem witness_LinkPinCarriesTheCells :
    (∀ c ∈ [0, 3, 4, 35], ∀ e ∈ [0, 7],
      let s := (flying .active (.line 3)).advance (140 + c * 8 + e)
      s.link.fallCell ≤ c ∧ s.now = s.link.fallAt + (c - s.link.fallCell) * 8 + e ∧ s.inReset = false ∧
        s.link.mode = .wire ∧ s.tx.flight.isSome = true) ∧
    (∀ c ∈ [0, 15],
      let s := (replying .status).advance (140 + c * 8)
      s.now = s.link.fallAt + (c - s.link.fallCell) * 8 + 0 ∧ s.link.reply.isSome = true ∧ s.tx.flight = none) ∧
    (∀ c ∈ [0, 3, 4, 43], let s := (testing 1).advance (c * 8 + 2)
      s.link.fallCell ≤ c ∧ s.now = s.link.fallAt + (c - s.link.fallCell) * 8 + 2 ∧ s.link.mode = .loopback ∧
        s.ctl.station = .selfTest ∧ s.ctl.testStart.isSome = true) ∧
    (station .active).tx.flight = none ∧ (station .active).link.reply = none ∧
    (replying .status).link.fallAt + 7 ≤ 147 ∧ 154 < (replying .status).link.fallAt + 15 := by decide +kernel
/-- R69: bit 15 of the CLAIM is a 1, bit 14 a 0. -/
theorem test_link_pin_of_a_claim :
    ((flying .active (.line 3)).advance (140 + 19 * 8 + 1)).linkPin = true ∧
      ((flying .active (.line 3)).advance (140 + 19 * 8 + 2)).linkPin = false ∧
      ((flying .active (.line 3)).advance (140 + 18 * 8 + 5)).linkPin = true ∧
      ((flying .active (.line 3)).advance (140 + 3 * 8)).linkPin = false := by decide +kernel

/-- Cell `c` of this station's frame or reply is at its 1/2 at `now`. -/
def atHalf (s : State) (c now : Nat) : Bool :=
  s.link.fallCell + (max s.now now - s.link.fallAt) / 8 = c && (max s.now now - s.link.fallAt) % 8 = 4
/-- Its CLAIM begun at 140 and read back to the end of data cell 1, and then these edges. -/
def flyingRead (edges : List WireSample) : State :=
  reading (after (.frameStart 140 false) (offering .active))
    ([{ when := 140, dominant := true }, { when := 164, dominant := false }, { when := 172, dominant := true },
      { when := 178, dominant := false }, { when := 180, dominant := true }, { when := 186, dominant := false }] ++ edges)
theorem witness_ArbitrationLossKeepsTheFrameAndDropsTheReply :
    (∀ p ∈ [(flying .active .lapsed, 6, 192), (flying .rejoin (.line 3), 35, 424), (placing true true, 7, 120),
        (replying .status, 7, 200), (flyingRead [{ when := 188, dominant := true }], 6, 192)],
      atHalf p.1 p.2.1 p.2.2 = true) ∧
    ((flying .active .lapsed).link.rx = .startMark ∧ (flying .active .lapsed).link.dominant = false ∧
      (placing true true).link.rx = .startMark ∧ (replying .status).link.rx = .reply ∧
      (replying .status).link.bits = [] ∧ (replying .status).link.replyBuf = []) ∧
    (let s := flyingRead [{ when := 188, dominant := true }];
      s.link.rx = .data ∧ s.link.dominant = true ∧ s.tx.flight.isSome = true ∧
        cellBit s.sentBytes 2 = some true) ∧
    ((flying .active .lapsed).running = true ∧ cellBit (flying .active .lapsed).sentBytes 2 = some true ∧
      (flying .active .lapsed).tx.flight = some { frame := .claim 1 (some 3), bytes := [34, 1, 3, 217], start := 140 } ∧
      (flying .active .lapsed).tx.waiting = none ∧
      (flying .active .lapsed).hunt.claim = some { trunk := 1, owner := .lapsed, stage := .inFlight }) ∧
    (cellBit (flying .rejoin (.line 3)).sentBytes 31 = some true ∧ (flying .rejoin (.line 3)).ctl.station ≠ .active) ∧
    ((placing true true).running = true ∧ cellBit (placing true true).sentBytes 3 = some true ∧
      (placing true true).tx.flight.isSome = true ∧ (placing true true).tx.waiting.isSome = true) ∧
    (flyingOn.running = true ∧ flyingOn.ctl.station = .active ∧ (flyingOn.advance 19200).candidate 1 = true) ∧
    ((replying .status).running = true ∧ (replying .status).tx.flight = none ∧
      (replying .status).link.reply = some { bytes := [1, 254], kind := .status, start := 140 } ∧
      cellBit (replying .status).sentBytes 7 = some true) := by decide +kernel
/-- R78: at its 1/2 alone, with the wire dominant there, a 1 is lost: not in the start mark, nor as the next cell begins,
nor where the wire rose at 1/4. -/
theorem test_loss_is_taken_at_half_its_cell :
    let lost := fun (s : State) (w : Nat) => (after (.arbitrationLost w 2) s).link.arbLosses
    (∀ w ∈ [140, 160, 191, 193, 200], lost (flying .active .lapsed) w = 0) ∧ lost (flying .active .lapsed) 192 = 1 ∧
      lost (flyingRead [{ when := 188, dominant := true }]) 192 = 1 ∧
      lost (flyingRead [{ when := 188, dominant := true }, { when := 190, dominant := false }]) 192 = 0 := by
  decide +kernel
/-- R79: at its 1/2 alone, with the wire recessive there, a 0 has an echo error. -/
theorem test_echo_error_is_taken_at_half_its_cell :
    let errors := fun (s : State) (w k : Nat) => (after (.transmitError w (.echo k)) s).link.txErrors
    (∀ w ∈ [140, 160, 175, 177], errors (flying .active .lapsed) w 0 = 0) ∧
      errors (flying .active .lapsed) 176 0 = 1 ∧
      errors (flyingRead [{ when := 188, dominant := true }, { when := 190, dominant := false }]) 200 3 = 1 ∧
      errors (flyingRead [{ when := 188, dominant := true }, { when := 190, dominant := false },
        { when := 196, dominant := true }]) 200 3 = 0 := by decide +kernel

theorem witness_TransmitErrorsRunToIsolation :
    (atHalf (flying .active .lapsed) 4 176 = true ∧ (flying .active .lapsed).link.rx = .startMark ∧
      (flying .active .lapsed).link.dominant = false ∧ atHalf (replying .status) 0 144 = true ∧
      (replying .status).link.rx = .reply ∧ (replying .status).link.dominant = false) ∧
    ((flying .active .lapsed).running = true ∧ (flying .active .lapsed).tx.flight.isSome = true ∧
      cellBit (flying .active .lapsed).sentBytes 0 = some false ∧ (flying .active .lapsed).link.errorRun < 7) ∧
    ((replying .status).link.reply.isSome = true ∧ cellBit (replying .status).sentBytes 0 = some false ∧
      7 ≤ ({ (replying .status).link with errorRun := 7 } : Link).errorRun) := by decide +kernel

/-- Its isolated-probe REPORT in flight. -/
def probeFlying : State :=
  { station .isolated with
    tx := { frames := [{ frame := .report true, age := 5 }], waiting := none,
            flight := some { frame := .report true, bytes := [82, 8, 0, 0, 1, 164], start := 140 } }
    link := { (station .isolated).link with rx := .startMark, fallAt := 140, recessiveFrom := 100 } }
theorem witness_FrameSentLeavesTheQueue :
    ((flying .active .lapsed).running = true ∧
      (flying .active .lapsed).tx.flight = some { frame := .claim 1 (some 3), bytes := [34, 1, 3, 217], start := 140 } ∧
      (flying .active .lapsed).ctl.station ≠ .isolated ∧ (flying .active .lapsed).link.dominant = false ∧
      (flying .active .lapsed).link.recessiveFrom + 4 * 8 ≤ max (flying .active .lapsed).now 460 ∧
      (flying .active .lapsed).link.rx = .startMark ∧ 140 + (4 + 8 * 4 + 4) * 8 ≤ max (flying .active .lapsed).now 460 ∧
      ¬ 140 + (4 + 8 * 4 + 4) * 8 ≤ max (flying .active .lapsed).now 459) ∧
    (let k := { (flying .active .lapsed).link with rx := .data, frameBuf := [34, 1, 3, 217] };
      k.rx = .data ∧ k.frameBuf = [34, 1, 3, 217] ∧ k.bits = []) ∧
    (let k := { (flying .active .lapsed).link with rx := .reply, replyBuf := [22, 233] };
      k.rx = .reply ∧ k.reply = none ∧ checkGood k.replyBuf = true ∧ k.bits = []) ∧
    (probeFlying.running = true ∧ probeFlying.link.dominant = false ∧
      probeFlying.link.recessiveFrom + 2 * 8 ≤ max probeFlying.now 572 ∧ probeFlying.link.rx = .startMark ∧
      140 + (4 + 8 * 6 + 2) * 8 ≤ max probeFlying.now 572 ∧
      probeFlying.tx.flight = some { frame := .report true, bytes := [82, 8, 0, 0, 1, 164], start := 140 } ∧
      probeFlying.ctl.station = .isolated ∧ probeFlying.link.health = .good) := by decide

/-- R83: a CLAIM is sent at its EOF, 40 cells after its start mark, and a reply of two bytes at its EOD, after 18. -/
theorem test_sent_at_its_mark :
    (∀ w ∈ [140, 172, 459], (after (.frameSent w) (flying .active .lapsed)).tx.flight.isSome = true) ∧
      (after (.frameSent 460) (flying .active .lapsed)).tx.flight = none ∧
      (∀ w ∈ [140, 283], (after (.replySent w) (replying .status)).link.reply.isSome = true) ∧
      (after (.replySent 284) (replying .status)).link.reply = none := by decide +kernel
/-- R73: a receiver that has seen the start mark rise, and no edge after it, is in GAP: nothing is handed or sent there, and
10 eighths after the rise there is an error. -/
def silent : State :=
  reading (after (.frameStart 140 false) (offering .active))
    [{ when := 140, dominant := true }, { when := 164, dominant := false }]
theorem test_gap_hands_nothing :
    silent.link.rx = .gap ∧ (after (.frameSent 460) silent).tx.flight.isSome = true ∧
      (after (.objection 444 2 1 3 217) silent).link.rx = .gap ∧
      (after (.claim 460 2 1 3 217 none) silent).link.rx = .gap ∧
      (after (.transmitError 173 (.seen (.gapSilent 9))) silent).link.txErrors = 0 ∧
      (after (.transmitError 174 (.seen (.gapSilent 10))) silent).link.txErrors = 1 := by decide +kernel

theorem witness_LineCommandsAreCarriedOutWhenTheReplyIsSent :
    (∀ k ∈ [ReplyKind.objection, .status, .command 1 0 .refused, .command 1 (octalByte 7) .done,
        .command 2 (octalByte 7) .done, .command 5 (octalByte 0) .done, .command 6 (octalByte 7) .done,
        .command 6 8 .done, .command 7 0 .done],
      (replying k).running = true ∧ (replying k).link.reply = some { bytes := [1, 254], kind := k, start := 140 } ∧
        (replying k).link.dominant = false ∧ (replying k).link.recessiveFrom + 2 * 8 ≤ max (replying k).now 284 ∧
        (replying k).link.rx = .reply ∧ 140 + (8 * 2 + 2) * 8 ≤ max (replying k).now 284 ∧
        (replying k).link.bits = [] ∧ (replying k).link.replyBuf = []) ∧
    Ack.done ≠ .refused ∧
    (∀ st ∈ [CallState.idle, .blocked, .dialling],
      (((replying (.command 1 (octalByte 7) .done)).setCall 7 (callIn st)).call 7).state = st) := by decide

theorem witness_TrunkCommandsAreCarriedOutWhenTheReplyIsSent :
    (∀ k ∈ [ReplyKind.command 3 (octalByte 7) .done, .command 4 (octalByte 7) .done],
      (replying k).running = true ∧ (replying k).ctl.station = .active ∧
        (replying k).link.reply = some { bytes := [1, 254], kind := k, start := 140 } ∧
        (replying k).link.dominant = false ∧ (replying k).link.recessiveFrom + 2 * 8 ≤ max (replying k).now 284 ∧
        (replying k).link.rx = .reply ∧ 140 + (8 * 2 + 2) * 8 ≤ max (replying k).now 284 ∧
        (replying k).link.bits = [] ∧ (replying k).link.replyBuf = []) ∧
    ((replying .status).entry 7).retiredBy ≠ some (replying .status).slot ∧
    ((replying .status).entry 7).isOwn = false ∧
    ((owning (replying .status) 7 (sessionFor (.line 3) .established)).entry 7).isOwn = true ∧
    (owning (replying .status) 7 (sessionFor (.line 3) .established)).session 7 =
      some (sessionFor (.line 3) .established) ∧
    (((replying .status).setEntry 7 { TrunkEntry.reset with retiredBy := some 2 }).entry 7).retiredBy =
      some (replying .status).slot := by decide

/-- The bounds of R70, R71, R73 and R74, and a receiver that meets the errors beyond them. -/
theorem test_receive_error_bounds :
    faultIsError (.cellWidth 3) .data false = false ∧ faultIsError (.cellWidth 4) .data false = true ∧
      faultIsError (.cellWidth 5) .data false = false ∧ faultIsError (.cellWidth 8) .data false = true ∧
      faultIsError (.startMarkWidth 20) .startMark false = false ∧
      faultIsError (.startMarkWidth 33) .startMark false = true ∧
      faultIsError (.byteBegun 16) .data false = false ∧ faultIsError (.byteBegun 17) .data false = true := by decide
theorem witness_ReceiveErrorsAreCountedOnce :
    ∀ due, let s := { station .active with ctl := { (station .active).ctl with restartDue := due } }
      s.running = true ∧ s.link.mode = .wire ∧ s.tx.flight = none ∧ s.link.reply = none ∧ s.ctl.restartDue = due ∧
        faultIsError (.startMarkWidth 19) s.link.rx s.link.mayReply = true ∧
        s.link.shows (.startMarkWidth 19) (max s.now 64) = true := by decide
/-- A frame read from 1000 to its EOD: what it shows is an error, and what it does not show is none (R74, R81). -/
def readBadly : State := reading (station .active) (wireOf 1000 [33, 4, 2])
theorem witness_ReceiveErrorsAreCountedOnce_shown :
    readBadly.link.rx = .data ∧ faultIsError (.checkSum [33, 4, 2]) readBadly.link.rx readBadly.link.mayReply = true ∧
      readBadly.link.shows (.checkSum [33, 4, 2]) (max readBadly.now (1000 + 30 * 8)) = true ∧
      faultIsError (.cellCount 3) readBadly.link.rx readBadly.link.mayReply = true ∧
      readBadly.link.shows (.cellCount 3) (max readBadly.now (1000 + 30 * 8)) = false := by decide +kernel
/-- R74: a good frame in the buffer is not given up for a count or bytes that were not read, nor before its EOD. -/
theorem test_false_evidence_is_no_error :
    (after (.receiveError (1000 + 38 * 8) (.cellCount 3)) heardClaim).link.rx = .data ∧
      (after (.receiveError (1000 + 38 * 8) (.checkSum [1])) heardClaim).link.rxErrors = 0 ∧
      (after (.receiveError (1000 + 30 * 8 - 1) (.checkSum [33, 4, 2])) readBadly).link.rxErrors = 0 ∧
      (after (.receiveError (1000 + 30 * 8) (.checkSum [33, 4, 2])) readBadly).link.rxErrors = 1 := by decide +kernel
/-- R71: an edge at 1 7/8 cells is a framing error, and no EOD comes before 2 cells. -/
theorem test_edge_before_eod_is_an_error :
    (after (.objection (1000 + 38 * 8 - 1) 1 4 2 216) heardClaim).link.rx = .data ∧
      (reading heardClaim [{ when := 1000 + 38 * 8 - 1, dominant := true }]).link.rxErrors = 1 ∧
      (reading (after (.objection (1000 + 38 * 8) 1 4 2 216) heardClaim)
        [{ when := 1000 + 38 * 8, dominant := true }]).link.rx = .reply := by decide +kernel
/-- R76: a reply read in part is a framing error at the EOF, whatever the row says of it. -/
def partReply : State :=
  reading (after (.objection (1000 + 38 * 8) 1 4 2 216) heardClaim) ((cellsOf (1000 + 38 * 8) [22]).take 6)
theorem test_part_of_a_reply_is_an_error :
    ∀ r ∈ [none, some [22, 233]], let s := after (.claim (1000 + 45 * 8) 1 4 2 216 r) partReply
      s.link.rxErrors = 1 ∧ s.link.rx = .waitEof ∧ (s.entry 4).holding = .free := by decide +kernel
/-- R87, R194: the last edge of a frame is its last rising edge, here 1/4 cell into its last cell. -/
theorem test_last_edge_of_a_frame :
    let s := after (.objection (1000 + 38 * 8) 1 4 1 217) (reading (station .active) (wireOf 1000 [33, 4, 1, 217]))
    s.link.edgeAt = 1000 + 35 * 8 + 2 ∧
      (after (.claim (1000 + 40 * 8) 1 4 1 217 none) s).link.edgeAt = 1000 + 35 * 8 + 2 := by decide +kernel

/-- The station isolated by a failed link. -/
def failed : State :=
  { station .isolated with link := { (station .isolated).link with health := .failed } }
/-- A receiver in this state, whose wire fell at 100 and has not risen. -/
def stuck (rx : RxState) : State :=
  let s := station .active
  { s with link := { s.link with rx, dominant := true, fallAt := 100 } }
/-- A receiver in this state, the wire recessive since 100, its last edge an eighth later and a sample at 140. -/
def unseen (rx : RxState) : State :=
  let s := station .active
  { s with link := { s.link with rx, recessiveFrom := 100, edgeAt := 101, recessiveAt := 140 } }
/-- R85, R86: an unseen run has its time behind it: 16 cells since the last recessive sample at the earliest, and 384 more
after an abort; none where the edges are seen. -/
theorem test_stuck_marks_need_their_time :
    let aborts := fun w s => (after (.stuckDominantAbort w) s).link.stuckAbort
    let fails := fun w s => (after (.linkFailure w) s).link.failures
    let s := after (.stuckDominantAbort 268) (unseen .idle)
    (∀ rx ∈ [RxState.idle, .startMark], aborts 267 (unseen rx) = none ∧ aborts 268 (unseen rx) = some 268) ∧
      (∀ rx ∈ [RxState.gap, .data], aborts 5000 (unseen rx) = none ∧ fails 5000 (unseen rx) = 0) ∧
      fails 268 s = 0 ∧ fails 3339 s = 0 ∧ fails 3340 s = 1 ∧
      fails 3340 (after (.receiverIdle 300) s) = 0 := by decide +kernel
theorem witness_StuckWireFailsAndRecovers :
    (∀ rx ∈ [RxState.idle, .waitEof, .data, .reply], let s := stuck rx
      s.running = true ∧ s.link.mode = .wire ∧ s.link.dominant = true ∧ s.link.rx = rx ∧ s.ctl.restartDue = false ∧
        max s.link.fallAt s.link.wireFrom + 16 * 8 ≤ max s.now 228 ∧ s.link.stuckAbort = none ∧
        max s.link.fallAt s.link.wireFrom + 400 * 8 ≤ max s.now 3300 ∧ s.link.stuckFailure = none ∧
        s.tx.flight = none ∧ s.link.reply = none) ∧
    (∀ rx ∈ [RxState.idle, .waitEof, .afterData, .startMark], let s := unseen rx
      s.link.dominant = false ∧ s.link.rx = rx ∧ s.link.stuckAbort = none ∧ s.link.stuckFailure = none ∧
        max (max 0 (100 + 4 * 8)) (max s.link.edgeAt s.link.recessiveAt) + 16 * 8 ≤ max s.now 268 ∧
        max (max 0 (100 + 4 * 8)) (max s.link.edgeAt s.link.recessiveAt) + 400 * 8 ≤ max s.now 3340) ∧
    (let s := after (.stuckDominantAbort 268) (unseen .idle);
      s.link.rx = .waitEof ∧ s.link.dominant = false ∧ s.link.stuckAbort = some 268 ∧
        max (max 0 s.link.recessiveFrom) (max s.link.edgeAt s.link.recessiveAt) ≤ 268 ∧
        268 + 384 * 8 ≤ max s.now 3340 ∧ s.link.stuckFailure = none) ∧
    ((flying .active .lapsed).tx.flight.isSome = true ∧ (flying .active .lapsed).link.errorRun < 7 ∧
      (replying .status).link.reply.isSome = true) ∧
    (failed.running = true ∧ failed.link.mode = .wire ∧ failed.link.health = .failed ∧
      failed.link.dominant = false ∧ failed.link.edgeAt + 8000 * 8 ≤ max failed.now 64000) := by decide

/-- A receiver in this state, recessive since 100. -/
def receiving (rx : RxState) (mayReply : Bool) : State :=
  let s := station .active
  { s with link := { s.link with rx, mayReply, recessiveFrom := 100 } }
def restarting : State :=
  { receiving .afterReply true with ctl := { (station .active).ctl with restartDue := true } }
theorem witness_EndOfFrameReturnsTheReceiverToIdle :
    ((receiving .afterData true).running = true ∧ (receiving .afterData true).link.mode = .wire ∧
      (receiving .afterData true).link.dominant = false ∧
      (receiving .afterData true).link.recessiveFrom + 4 * 8 ≤ max (receiving .afterData true).now 132 ∧
      (receiving .afterData true).link.reply = none ∧ (receiving .afterData true).link.rx = .afterData ∧
      (receiving .afterData true).link.mayReply = true ∧ (receiving .afterData true).ctl.restartDue = false) ∧
    (restarting.running = true ∧ restarting.ctl.restartDue = true ∧ restarting.link.rx = .afterReply) ∧
    ((receiving .reply true).link.rx = .reply ∧ (receiving .reply true).link.bits = [] ∧
      (receiving .reply true).link.replyBuf = [] ∧
      (receiving .reply true).link.fallAt + (8 + 4) * 8 ≤ max (receiving .reply true).now 132) ∧
    (partReply.running = true ∧ partReply.link.mode = .wire ∧ partReply.link.dominant = false ∧
      partReply.link.recessiveFrom + 4 * 8 ≤ max partReply.now (1000 + 45 * 8) ∧ partReply.link.rx = .reply ∧
      partReply.link.bits.length % 8 ≠ 0 ∧ partReply.tx.flight = none ∧ partReply.link.reply = none ∧
      partReply.ctl.restartDue = false) ∧
    ((receiving .waitEof false).tx.flight = none ∧ (receiving .waitEof false).link.rx = .waitEof ∧
      (receiving .afterData false).link.rx = .afterData ∧ (receiving .afterData false).link.mayReply = false ∧
      (receiving .afterData false).ctl.restartDue = false) := by decide +kernel

/-- A receiver in this state at 100, its last edge then: the falling edge of the cell if it is dominant. -/
def watching (rx : RxState) (dominant : Bool) (mayReply : Bool) : State :=
  let s := { station .active with
    wire := [{ when := 100 + (if dominant then 6 else 8), dominant := !dominant }] }
  { s with link := { s.link with
    rx, dominant, mayReply, fallAt := if dominant then 100 else 99, edgeAt := 100, recessiveFrom := 92 } }
theorem witness_ReceiverReadsTheWire :
    (∀ rx ∈ [RxState.idle, .startMark, .gap, .data, .reply, .afterData, .afterReply, .waitEof], ∀ d m,
      let s := watching rx d m
      s.running = true ∧ s.pending = [] ∧ s.wire = { when := 100 + (if d then 6 else 8), dominant := !d } :: [] ∧
        s.link.mode = .wire ∧ s.tx.flight = none ∧ s.link.reply = none ∧ s.ctl.restartDue = false ∧
        s.link.dominant ≠ !d ∧ s.link.rx = rx ∧ s.link.mayReply = m ∧ s.link.bits.length < 7) ∧
    (108 - (watching .data false false).link.fallAt < 24 ∧
      108 - (watching .afterData false true).link.recessiveFrom < 32 ∧
      16 ≤ 108 - (watching .afterData false true).link.recessiveFrom ∧
      108 < (watching .waitEof false false).link.recessiveFrom + 32) ∧
    (5 ≤ 106 - (watching .data true false).link.fallAt ∧ 106 - (watching .data true false).link.fallAt ≤ 7) ∧
    (104 - (watching .data true false).link.fallAt = 4) ∧
    ({ (watching .data true false).link with bits := List.replicate 7 true } : Link).bits.length = 7 := by decide

theorem witness_FramesAndBytesAgree :
    (LinkFrame.claim 7 7 none).valid = true ∧ checkGood [33, 4, 2, 216] = true ∧
      parseFrame [33, 4, 2, 216] = some (.claim 1 4 (some 2)) := by decide

/-! ### Frames heard -/

/-- An idle receiver whose frame's edges are not given follows it to EOD; so does one that has read its bytes. -/
theorem follows_idle (st : StationState) (bytes : List Byte) (now : Nat) (h : 76 + 56 * bytes.length ≤ now) :
    (station st).link.Follows bytes now :=
  ⟨rfl, rfl, by show 0 + 2 * 8 ≤ now; omega, rfl, .inl ⟨rfl, by show 0 + _ + _ + _ ≤ _; omega⟩⟩
/-- A CLAIM of this station lost in arbitration: its START MARK stands for the cells of the winner's (R78). -/
theorem follows_lost :
    (after (.arbitrationLost 192 2) (flying .active .lapsed)).link.Follows [33, 4, 2, 216] (140 + 38 * 8) := by
  unfold Link.Follows; decide +kernel
theorem follows_read : heardClaim.link.Follows [33, 4, 2, 216] (1000 + 38 * 8) := by
  unfold Link.Follows; decide +kernel

theorem witness_ReleaseRetireAndRestoreTeachTheView :
    (station .active).running = true ∧ (∀ b n, 76 + 56 * b.length ≤ n → (station .active).link.Follows b n) ∧
      (1 : Slot) ≠ (station .active).slot ∧ (station .active).ctl.station ≠ .isolated ∧ Cause.lineClear ≠ .maintenance ∧
      (station .active).fitted 7 = true ∧ ((station .active).entry 7).isHeldBy 1 = false ∧
      (((station .active).setEntry 7 { TrunkEntry.reset with holding := .held 1 none }).entry 7).isHeldBy 1 = true ∧
      State.reset.fitted 1 = false :=
  ⟨by decide, follows_idle _, by decide, by decide, by decide, by decide, by decide, by decide, by decide⟩

theorem witness_ReportTeachesTheViewAndResolvesDualHolds :
    hearing.running = true ∧ (∀ b n, 76 + 56 * b.length ≤ n → hearing.link.Follows b n) ∧ (1 : Slot) ≠ hearing.slot ∧ 1 ≤ 8 ∧ 8 ≤ 8 ∧
      hearing.fitted 2 = true ∧ hearing.ctl.station ≠ .isolated ∧
      (mapHas 5 2 = true ∧ (hearing.entry 2).isOwn = true ∧ (1 : Slot) < hearing.slot ∧ hearing.slot < 7) ∧
      (mapHas 5 0 = true ∧ (hearing.entry 0).isHeldBy 1 = true) ∧
      (mapHas 5 3 = false ∧ (hearing.entry 3).isHeldBy 1 = true) ∧
      (mapHas 5 4 = false ∧ (hearing.entry 4).isHeldBy 1 = false ∧ mapHas 16 4 = true) ∧
      (mapHas 255 4 = true ∧ (hearing.entry 4).isHeldBy 1 = false ∧ (hearing.entry 4).isOwn = false) ∧
      hearing.session 2 = some (sessionFor (.line 5) .established) :=
  ⟨by decide, fun _ _ h => ⟨rfl, rfl, by show 0 + 2 * 8 ≤ _; omega, rfl, .inl ⟨rfl, by show 0 + _ + _ + _ ≤ _; omega⟩⟩, by decide⟩

theorem witness_ObjectionIsDrivenForOwnOrRetiredTrunks :
    (station .active).running = true ∧ (∀ b n, 76 + 56 * b.length ≤ n → (station .active).link.Follows b n) ∧
      (station .active).ctl.station = .active ∧ (station .active).fitted 7 = true ∧
      (1 : Slot) ≠ (station .active).slot ∧
      ((owning (station .active) 7 (sessionFor .probe .probeWait)).entry 7).isOwn = true ∧
      (((station .active).setEntry 7 { TrunkEntry.reset with retiredBy := some 2 }).entry 7).retiredBy = some 2 ∧
      ((station .active).entry 7).isOwn = false ∧ ((station .active).entry 7).retiredBy ≠ some (station .active).slot ∧
      (station .listen).running = true ∧ State.reset.fitted 1 = false :=
  ⟨by decide, follows_idle _, by decide, by decide, by decide, by decide, by decide, by decide, by decide, by decide,
    by decide⟩

/-- An idle receiver whose frame's edges are not given holds it at EOF; so does one that has read it and its reply. -/
theorem holds_idle (st : StationState) (bytes : List Byte) (reply : Option (List Byte)) (hb : bytes ≠ []) :
    ∀ now, 125 + 56 * bytes.length + 56 * (reply.getD []).length ≤ now → (station st).link.Holds bytes reply now := by
  intro now h
  refine ⟨rfl, rfl, ?_, .inl rfl, rfl, rfl, .inr (.inl ⟨rfl, fun e => hb e.symm, rfl, ?_⟩)⟩
  · show 0 + 4 * 8 ≤ now
    omega
  · cases reply
    · show 0 + _ + _ + _ + _ ≤ _
      simp at h ⊢; omega
    · show 0 + _ + _ + _ + _ ≤ _
      simp at h ⊢; omega
theorem holds_read : heardReply.link.Holds [33, 4, 2, 216] (some [22, 233]) (1000 + 58 * 8) := by
  unfold Link.Holds; decide +kernel
/-- R76, R99: the reply of a STATUS REQUEST is given up at its EOF, and the next frame's outcome is its own. -/
theorem test_claim_after_a_status_reply :
    let s := after (.frameEof 1008) (after (.replySent 992) (after (.statusRequest 400 8 2 0 149) (station .active)))
    s.link.rx = .idle ∧ s.link.replyBuf = [] ∧
      ((after (.claim 1291 1 4 2 216 none) s).entry 4).holding = .free ∧
      ((after (.claim 1292 1 4 2 216 none) s).entry 4).holding = .held 1 (some 2) := by decide +kernel
/-- A CLAIM of slot 1 for a trunk of this station, whose objection it has driven. -/
def objecting : State :=
  let s := owning (station .active) 7 (sessionFor .probe .probeWait)
  { s with link := { s.link with
    rx := .afterReply, frameBuf := [33, 7, 8, 207], replyBuf := objectionReply 1 2, replyDriven := true } }
theorem holds_objecting : objecting.link.Holds [33, 7, 8, 207] (some (objectionReply 1 2)) 32 := by
  unfold Link.Holds; decide +kernel

theorem witness_PeerClaimTeachesTheViewAtEof :
    (station .active).running = true ∧ (station .active).link.own = none ∧
      (∀ b r, b ≠ [] → ∀ n, 125 + 56 * b.length + 56 * (r.getD []).length ≤ n → (station .active).link.Holds b r n) ∧ (1 : Slot) ≠ (station .active).slot ∧
      (station .active).fitted 7 = true ∧ (station .active).ctl.station ≠ .isolated ∧
      ((station .isolated).running = true ∧ (station .isolated).ctl.station = .isolated ∧
        ((station .isolated).entry (station .isolated).slot).seizures ≠ 65535 ∧ (2 : Slot) = (station .isolated).slot) ∧
      (objecting.link.replyDriven = true ∧ objecting.link.own = none ∧ objecting.running = true ∧
        (objecting.entry 7).isOwn = true) ∧
      ((station .active).entry 7).isOwn = false ∧
      ((owning (station .active) 7 (sessionFor .probe .probeWait)).entry 7).isOwn = true ∧
      ((0 : Slot) ≠ 1 ∧ (0 : Slot) ≠ (station .active).slot ∧ (0 : Slot) < (station .active).slot) ∧
      ((7 : Slot) ≠ 1 ∧ (station .active).slot < 7) ∧
      (station .active).link.reply = none ∧ (station .active).tx.flight = none ∧
      checkGood [17, 238] = true ∧ judgeObjection 1 [17, 238] = none :=
  ⟨by decide, by decide, holds_idle _, by decide⟩

theorem holds_own (st : StationState) (o : Owner) (reply : Option (List Byte)) :
    ∀ now, 476 + 64 * (reply.getD []).length ≤ now → (flying st o).link.Holds [34, 1, 3, 217] reply now := by
  intro now h
  refine ⟨rfl, rfl, ?_, .inr rfl, rfl, rfl, .inr (.inr (.inl ⟨rfl, ?_⟩))⟩
  · show 100 + 4 * 8 ≤ now
    omega
  · cases reply
    · show 140 + (4 + 8 * 4 + 4) * 8 ≤ _
      omega
    · show 140 + (4 + 8 * 4 + (6 + 8 * _)) * 8 ≤ _
      simp at h; omega
theorem witness_OwnClaimSeizesOrGivesUpTheTrunk :
    (∀ o ∈ [Owner.line 3, .lapsed, .probe],
      (flying .active o).running = true ∧ (flying .active o).link.mode = .wire ∧
      (flying .active o).link.own = some (encodeFrame (.claim (flying .active o).slot 1 (some 3))) ∧
      encodeFrame (.claim (flying .active o).slot 1 (some 3)) = [34, 1, 3, 217] ∧
      (flying .active o).hunt.claim = some { trunk := 1, owner := o, stage := .inFlight } ∧
      (flying .active o).tx.waiting = none ∧ (flying .active o).tx.flight.isSome = true ∧
      (flying .active o).ctl.station ≠ .isolated ∧ ((flying .active o).input 1).busy = false) ∧
    (((flying .active (.line 3)).setCall 3 (callIn .hunting)).call 3).state = .hunting ∧
    ((flying .active (.line 3)).call 3).state ≠ .hunting ∧
    (((flying .active (.line 3)).setInput 1 { TrunkInput.reset with busy := true }).input 1).busy = true ∧
    (((flying .active .probe).setEntry 1 { TrunkEntry.reset with retiredBy := some 2 }).entry 1).retiredBy =
      some 2 := by decide

theorem witness_OwnClaimEndsWithoutEffect :
    (∀ o ∈ [Owner.line 3, .probe], let s := flying .active o
      s.running = true ∧ s.link.own = some (encodeFrame (.claim s.slot 1 (some 3))) ∧
        s.hunt.claim = some { trunk := 1, owner := o, stage := .inFlight } ∧ s.ctl.station ≠ .isolated ∧
        s.tx.waiting = none ∧ s.fitted 1 = true ∧ (s.entry 1).isOwn = false ∧
        s.tx.flight.map (fun f => f.frame.key) = some .claim) ∧
    (∀ r ∈ [withCheck [header 1 (headerSlot 7)], withCheck [header 2 (headerSlot 0)],
        withCheck [header 1 (headerSlot 2)]], checkGood r = true) ∧
    (7 : Slot) ≠ 2 ∧ (0 : Slot) ≠ 2 ∧ judgeObjection 2 (withCheck [header 1 (headerSlot 2)]) = none := by decide

theorem witness_MaintenanceFramesAreAnsweredAtEod :
    (station .active).running = true ∧ (∀ b n, 76 + 56 * b.length ≤ n → (station .active).link.Follows b n) ∧
      8 ≤ (8 : HeaderSlot).toNat ∧
      (2 : Slot) = (station .active).slot ∧ (station .active).ctl.station = .active ∧
      ((station .isolated).running = true ∧ (station .isolated).iso.grace = none ∧
        (station .isolated).ctl.station ≠ .active) ∧
      (7 : Slot) ≠ (station .active).slot ∧ ((0 : Byte) = 0 ∨ 8 ≤ (0 : Byte).toNat) ∧ 8 ≤ (8 : Byte).toNat :=
  ⟨by decide, follows_idle _, by decide⟩

theorem witness_OwnSlotHeardFromAnotherHalts :
    (station .active).running = true ∧ (∀ b n, 76 + 56 * b.length ≤ n → (station .active).link.Follows b n) ∧
      (station .active).link.own = none ∧ (∀ b r, b ≠ [] → ∀ n, 125 + 56 * b.length + 56 * (r.getD []).length ≤ n → (station .active).link.Holds b r n) ∧
      (station .active).slot = 2 ∧
      (LinkFrame.release 2 1 .yield).valid = true ∧ (LinkFrame.retire 2 1 .ptsFail).valid = true ∧
      (LinkFrame.restore 2 1).valid = true ∧ (LinkFrame.report 2 8 255 0 true false).valid = true ∧
      (station .active).link.replyDriven = false ∧ (5 : Slot) ≠ 2 :=
  ⟨by decide, follows_idle _, rfl, holds_idle _, by decide⟩

/-! ### The pool view, the Hunt Unit and isolation -/

/-- Peer 1 last heard at 100, holding trunk 4 and retiring trunk 5. -/
def peered : State :=
  (((station .active).setPeer 1 { Presence.reset with heard := some 100 }).setEntry 4
    { TrunkEntry.reset with holding := .held 1 none }).setEntry 5 { TrunkEntry.reset with retiredBy := some 1 }
theorem witness_AbsenceForgetsThePeer :
    peered.running = true ∧ (1 : Slot) ≠ peered.slot ∧ (peered.peer 1).heard = some 100 ∧
      100 + 6500 ≤ max peered.now (6600 * 64) / 64 ∧ peered.fitted 4 = true ∧ peered.ctl.station ≠ .isolated ∧
      (peered.entry 4).isHeldBy 1 = true ∧ (peered.entry 5).retiredBy = some 1 := by decide

/-- A station whose report interval, or whose isolation timers, expire at 2000. -/
def reporting : State :=
  { station .active with view := { (station .active).view with reportInterval := some 2000 } }
def isolated : State :=
  { station .isolated with iso := { Isolation.reset with grace := some 2000, probeTimer := some 2000 } }
theorem witness_TimersPlaceTheReports :
    (reporting.running = true ∧ 2000 ≤ max reporting.now (2000 * 64) / 64 ∧ reporting.ctl.station = .active ∧
      reporting.view.reportInterval = some 2000) ∧
    (isolated.running = true ∧ 2000 ≤ max isolated.now (2000 * 64) / 64 ∧ isolated.ctl.station = .isolated ∧
      isolated.iso.grace = some 2000 ∧ isolated.iso.probeTimer = some 2000) := by decide

/-- Line 3 at the head of the hunt queue, every trunk free since 0, every peer present, isolated since 0. -/
def waiting (st : StationState) : State :=
  let s := (station st).setCall 3 (callIn .hunting)
  { s with
    hunt := { s.hunt with queue := [3, 5], idleSince := some 6000 }
    iso := { s.iso with entryTime := some 0 }
    view := { s.view with presence := Vector.replicate 8 { Presence.reset with heard := some 5 } } }
theorem witness_HuntMarksServeTheHeadLine :
    ((waiting .active).running = true ∧ (waiting .active).hunt.queue = [3, 5] ∧ (3 : Line) ∉ [(5 : Line)] ∧
      ((waiting .active).call 3).state = .hunting ∧ (waiting .active).ctl.station = .active ∧
      (waiting .active).hunt.claim = none ∧ (waiting .active).fitted 7 = true ∧
      ((waiting .active).entry 7).holding = .free ∧
      ((waiting .active).entry 7).freeSince + 300 ≤ max (waiting .active).now (300 * 64) / 64 ∧
      ((waiting .active).advance (300 * 64)).choice = some 2) ∧
    ((waiting .isolated).running = true ∧ (waiting .isolated).hunt.queue = [3, 5] ∧
      ((waiting .isolated).call 3).state = .hunting ∧ (waiting .isolated).ctl.station = .isolated ∧
      (waiting .isolated).iso.entryTime = some 0 ∧ (waiting .isolated).hunt.idleSince = some 6000 ∧
      0 + 7000 ≤ max (waiting .isolated).now (7000 * 64) / 64 ∧
      6000 + 1000 ≤ max (waiting .isolated).now (7000 * 64) / 64 ∧
      (waiting .isolated).fitted (waiting .isolated).slot = true ∧
      ((waiting .isolated).entry (waiting .isolated).slot).holding = .free ∧
      ((waiting .isolated).entry (waiting .isolated).slot).retiredBy ≠ some (waiting .isolated).slot ∧
      ((waiting .isolated).input (waiting .isolated).slot).busy = false) := by decide +kernel

/-- A probe of trunk 1 held. -/
def asking : State :=
  let s := probing .active
  { s with
    hunt := { s.hunt with probe := some 1 }
    view := { s.view with presence := Vector.replicate 8 { Presence.reset with heard := some 5 } } }
theorem witness_ProbesAreAskedForAndClaimed_request :
    (asking.running = true ∧ asking.hunt.probe = some 1 ∧ asking.ctl.station = .active ∧ asking.hunt.claim = none ∧
      asking.hunt.queue = []) ∧
    (asking.fitted 1 = true ∧ (asking.entry 1).holding = .free ∧
      (asking.entry 1).freeSince + 300 ≤ max asking.now (300 * 64) / 64 ∧ (asking.input 1).busy = false ∧
      (asking.entry 1).busyMismatch = false ∧ (asking.peer 1).heard ≠ none ∧
      (asking.entry 1).retiredBy = some asking.slot) ∧
    ¬ ((asking.entry 1).freeSince + 300 ≤ max asking.now (299 * 64) / 64) := by decide

theorem witness_ChoiceIsTheFirstLeastUsedCandidate :
    choosing.choice = some 5 ∧ choosing.candidate 2 = true ∧ (choosing.entry 2).seizures = (choosing.entry 5).seizures ∧
      choosing.candidate 0 = true ∧ State.reset.choice = none := by decide +kernel

/-! ### The invariants: a state that holds them, with a command waiting, and the step it takes -/

/-- A station in ACTIVE whose line 3 waits for a trunk; a loop sample is at the front of its queue. -/
def living : State :=
  let s := { waiting .active with pending := [.loopSample 88 3 true] }
  { s with hunt := { s.hunt with queue := [3] } }
theorem witness_living_steps :
    (match step living with | .next t => decide ((t.scanLine 3).integ = 1) | _ => false) = true := by decide
theorem witness_EveryStepKeepsTheLinesSound :
    living.ProfilesInRange ∧ living.QueuesBounded ∧ living.TonesApart := by
  refine ⟨?_, ?_, ?_⟩
  · unfold State.ProfilesInRange; decide
  · unfold State.QueuesBounded; decide
  · unfold State.TonesApart; decide
theorem witness_EveryStepKeepsTheLockoutOutputExact : living.LockoutTonesExact := by
  unfold State.LockoutTonesExact; decide
theorem witness_EveryStepKeepsTheQueuesExact :
    living.HuntQueueExact ∧ living.tx.Sound ∧ living.ClaimExact ∧ living.UnservedUntilActive :=
  ⟨by unfold State.HuntQueueExact; decide, ⟨by decide, nofun, nofun⟩, ⟨nofun, nofun, nofun, nofun, nofun, nofun⟩, nofun⟩
theorem witness_EveryStepKeepsTheOutputsAsTheStateSays : living.OutputsFollow ∧ living.HaltSilent :=
  ⟨by unfold State.OutputsFollow; decide, nofun⟩
theorem witness_EveryStepKeepsSeizuresExact : living.SeizureExact :=
  ⟨by decide, by decide, nofun, nofun⟩
theorem witness_EveryStepKeepsSendersAndCrosspointsExact :
    living.SeizureExact ∧ living.CallsOnTrunks ∧ living.PairsExact ∧ living.SendersExact ∧ living.RequestsExact := by
  have none_open : ∀ v, living.session v = none := by decide
  refine ⟨witness_EveryStepKeepsSeizuresExact, ⟨fun v _ h => ?_, fun _ l => ⟨by revert l; decide, fun v h => ?_⟩⟩, ?_,
    ⟨fun i => ?_, ?_⟩, ?_⟩
  · rw [none_open v] at h; cases h
  · exact absurd h (by revert l v; decide)
  · unfold State.PairsExact; decide +kernel
  · have h : living.sender i = Sender.reset := by revert i; decide
    rw [h]; exact ⟨rfl, rfl, rfl⟩
  · decide
  · unfold State.RequestsExact; decide

end Sys2Proof.Tests
end

section
/-! Loop supervision: every invariant holds at the state after a reset. -/

namespace Sys2Proof.Machine
open Sys2Proof

/-! ## The state after a reset -/

@[simp] theorem State.reset_call (l : Line) : State.reset.call l = CallRecord.reset := by
  simp [State.call, State.reset]
@[simp] theorem State.reset_decoder (l : Line) : State.reset.decoder l = Decoder.reset := by
  simp [State.decoder, State.reset]
@[simp] theorem State.reset_entry (t : Trunk) : State.reset.entry t = TrunkEntry.reset := by
  simp [State.entry, State.reset, PoolView.reset]
@[simp] theorem State.reset_session (t : Trunk) : State.reset.session t = none := by
  simp [State.session, State.reset, Supervisor.reset]
@[simp] theorem State.reset_sender (i : Fin 2) : State.reset.sender i = Sender.reset := by
  simp [State.sender, State.reset]
@[simp] theorem State.reset_closed (l : Line) (t : Trunk) : State.reset.closed l t = false := by
  simp [State.closed, State.reset, Supervisor.reset]
@[simp] theorem State.reset_ldt : State.reset.ldt = Vector.replicate 8 false := rfl
@[simp] theorem State.reset_lko : State.reset.lko = Vector.replicate 8 false := rfl
@[simp] theorem State.reset_seize : State.reset.sup.seize = Vector.replicate 8 false := rfl
@[simp] theorem State.reset_hunt : State.reset.hunt = HuntUnit.reset := rfl

/-- No line has anything to send after a reset (R173). -/
@[simp] theorem State.reset_wantsSender (l : Line) : State.reset.wantsSender l = false := by
  simp [State.wantsSender, State.sendable, CallRecord.reset]

theorem State.reset_linesSound :
    State.reset.ProfilesInRange ∧ State.reset.QueuesBounded ∧ State.reset.TonesApart ∧
      State.reset.LockoutTonesExact := by
  refine ⟨fun l => ?_, fun l => ?_, fun l => ?_, fun l => ?_⟩
  · simp [Decoder.reset]
  · simp [Decoder.reset, CallRecord.reset]
  · simp
  · simp [CallRecord.reset]

theorem State.reset_unserved : State.reset.Unserved := by
  refine ⟨fun l => ?_, rfl, rfl, rfl, fun t => ⟨?_, ?_⟩, rfl, rfl⟩
  · simp [CallRecord.reset]
  · simp [TrunkEntry.isOwn, TrunkEntry.reset]
  · simp

theorem State.reset_queuesExact :
    State.reset.HuntQueueExact ∧ State.reset.tx.Sound ∧ State.reset.ClaimExact ∧
      State.reset.UnservedUntilActive := by
  refine ⟨⟨List.nodup_nil, fun l => ?_⟩, ⟨List.nodup_nil, nofun, nofun⟩,
    ⟨nofun, nofun, nofun, nofun, nofun, nofun⟩, fun _ => State.reset_unserved⟩
  simp [HuntUnit.reset, CallRecord.reset]

theorem State.reset_outputs : State.reset.OutputsFollow ∧ State.reset.HaltSilent := ⟨⟨rfl, rfl⟩, nofun⟩

theorem State.reset_seizureExact : State.reset.SeizureExact := by
  refine ⟨fun _ t => ?_, fun _ t => ?_, nofun, nofun⟩
  · simp
  · simp [TrunkEntry.isOwn, TrunkEntry.reset]

theorem State.reset_sendersSound :
    State.reset.CallsOnTrunks ∧ State.reset.PairsExact ∧ State.reset.SendersExact ∧ State.reset.RequestsExact := by
  refine ⟨⟨fun t ses h => ?_, fun _ l => ?_⟩, ⟨fun l t h => ?_, fun l m t h => ?_⟩,
    ⟨fun i => ?_, fun i j t h => ?_⟩, ⟨fun l => ?_, .inl rfl⟩⟩
  · simp at h
  · simp [CallRecord.reset]
  · simp at h
  · simp at h
  · simp [Sender.reset]
  · simp [Sender.reset] at h
  · simp [show State.reset.arb.requests = [] from rfl]

/-- Settles O60: block by block, from what each record holds after a reset. -/
theorem resetStateIsSound : Obligations.ResetStateIsSound := by
  unfold Obligations.ResetStateIsSound
  obtain ⟨profiles, queues, tones, lockout⟩ := State.reset_linesSound
  obtain ⟨hunt, tx, claim, unserved⟩ := State.reset_queuesExact
  obtain ⟨outputs, silent⟩ := State.reset_outputs
  obtain ⟨calls, pairs, senders, requests⟩ := State.reset_sendersSound
  exact ⟨profiles, queues, tones, hunt, tx, outputs, silent, State.reset_seizureExact, lockout, claim, unserved,
    calls, pairs, senders, requests⟩

end Sys2Proof.Machine
end

section
/-! Loop supervision: a sample of the loop moves the filter of its line, and touches no other (Section 1). -/

namespace Sys2Proof.Machine
open Sys2Proof

/-! ## What an act on one line leaves alone of the others -/

/-- From `s` to `t` the filters, decoders and lockout outputs of all lines but `l` stand, and so does the presence of the
peers. -/
def State.OthersStand (s t : State) (l : Line) : Prop :=
  (∀ m, m ≠ l → t.scanLine m = s.scanLine m ∧ t.decoder m = s.decoder m ∧ t.lko[m] = s.lko[m]) ∧
    t.view.presence = s.view.presence

section
variable {s t u : State} {l : Line}

theorem State.OthersStand.refl : s.OthersStand s l := ⟨fun _ _ => ⟨rfl, rfl, rfl⟩, rfl⟩

theorem State.OthersStand.trans (h : s.OthersStand t l) (g : t.OthersStand u l) : s.OthersStand u l := by
  refine ⟨fun m hm => ?_, g.2.trans h.2⟩
  obtain ⟨hscan, hdec, hlko⟩ := h.1 m hm
  obtain ⟨gscan, gdec, glko⟩ := g.1 m hm
  exact ⟨gscan.trans hscan, gdec.trans hdec, glko.trans hlko⟩

theorem State.othersStand_of_fields (hscan : t.scan = s.scan) (hdec : t.dec = s.dec) (hlko : t.lko = s.lko)
    (hview : t.view.presence = s.view.presence) : s.OthersStand t l := by
  refine ⟨fun m _ => ⟨?_, ?_, ?_⟩, hview⟩
  · simp [State.scanLine, hscan]
  · simp [State.decoder, hdec]
  · rw [hlko]
end

section
variable (s : State) (l : Line)

theorem State.othersStand_setScan (x : ScanLine) : s.OthersStand (s.setScan l x) l :=
  ⟨fun m hm => by simp [hm], rfl⟩

theorem State.othersStand_setDec (x : Decoder) : s.OthersStand (s.setDec l x) l :=
  ⟨fun m hm => by simp [hm], rfl⟩

theorem State.othersStand_setLko (on : Bool) : s.OthersStand (s.setLko l on) l :=
  ⟨fun m hm => by simp [hm], rfl⟩

theorem State.othersStand_setCall (c : CallRecord) : s.OthersStand (s.setCall l c) l :=
  State.othersStand_of_fields rfl rfl rfl rfl

theorem State.othersStand_setLdt (on : Bool) : s.OthersStand (s.setLdt l on) l :=
  State.othersStand_of_fields rfl rfl rfl rfl

theorem State.othersStand_queueTail : s.OthersStand (s.queueTail l) l :=
  State.othersStand_of_fields rfl rfl rfl rfl

theorem State.othersStand_huntDrop : s.OthersStand (s.huntDrop l) l :=
  State.othersStand_of_fields (by simp) (by simp) (by simp) (by simp)

theorem State.othersStand_endSession (v : Trunk) (cause : Cause) : s.OthersStand (s.endSession v cause) l :=
  State.othersStand_of_fields (by simp) (by simp) (by simp) (by simp)

theorem State.othersStand_settle : s.OthersStand s.settle l :=
  State.othersStand_of_fields (by simp) (by simp) (by simp) (by simp)

theorem State.othersStand_settleSenders : s.OthersStand s.settleSenders l :=
  State.othersStand_of_fields (by simp) (by simp) (by simp) (by simp)

theorem State.othersStand_startCall : s.OthersStand (s.startCall l) l := by
  have begun (c : CallRecord) := (((s.othersStand_setScan l { s.scanLine l with guard := .off }).trans
    (State.othersStand_setDec _ l ((s.decoder l).takeOver (s.scanLine l).lastEdge))).trans
      (State.othersStand_setLdt _ l true)).trans (State.othersStand_setCall _ l c)
  unfold State.startCall
  dsimp only
  split
  · exact (begun _).trans (State.othersStand_queueTail _ l)
  · exact begun _

theorem State.othersStand_lockout : s.OthersStand (s.lockout l) l :=
  ((((s.othersStand_setCall l _).trans (State.othersStand_setLdt _ l false)).trans
    (State.othersStand_setLko _ l true)).trans (State.othersStand_setDec _ l _)).trans (State.othersStand_huntDrop _ l)

/-- The end of a call touches its own line alone, once its trunk is released. -/
theorem State.othersStand_clearCall : s.OthersStand (s.clearCall l) l := by
  have ended : ∀ u : State, ∀ c : CallRecord, s.OthersStand u l →
      s.OthersStand ((((((u.huntDrop l).setCall l c).setLdt l false).setLko l false).stopDecoder l).endGuard l) l :=
    fun u c h => (((((h.trans (u.othersStand_huntDrop l)).trans (State.othersStand_setCall _ l c)).trans
      (State.othersStand_setLdt _ l false)).trans (State.othersStand_setLko _ l false)).trans
        (State.othersStand_setDec _ l _)).trans (State.othersStand_setScan _ l _)
  unfold State.clearCall
  dsimp only
  split
  · exact ended _ _ (s.othersStand_endSession l _ .lineClear)
  · exact ended _ _ .refl

theorem State.othersStand_enterHunting : s.OthersStand (s.enterHunting l) l :=
  (s.othersStand_setCall l _).trans (State.othersStand_queueTail _ l)

theorem State.othersStand_handEntry (e : Entry) : s.OthersStand (s.handEntry l e) l := by
  unfold State.handEntry
  dsimp only
  split
  · split
    · split
      · exact ((s.othersStand_setCall l _).trans (State.othersStand_enterHunting _ l)).trans
          (State.othersStand_settle _ l)
      · exact s.othersStand_setCall l _
    · exact s.othersStand_lockout l
    · exact .refl
  iterate 3
    split
    · exact .refl
    · split
      · exact (s.othersStand_setCall l _).trans (State.othersStand_settleSenders _ l)
      · exact s.othersStand_setCall l _
  · exact .refl

theorem State.othersStand_toneOff : s.OthersStand (s.toneOff l) l :=
  (s.othersStand_setCall l _).trans (State.othersStand_setLdt _ l false)

theorem State.othersStand_takeDecoded (r : Decoded) : s.OthersStand (s.takeDecoded l r) l := by
  have judged := s.othersStand_setDec l r.dec
  have told : s.OthersStand (if r.notice then (s.setDec l r.dec).toneOff l else s.setDec l r.dec) l := by
    split
    · exact judged.trans (State.othersStand_toneOff _ l)
    · exact judged
  unfold State.takeDecoded
  dsimp only
  split
  · exact told.trans (State.othersStand_handEntry _ l _)
  · exact told

theorem State.othersStand_offHookMark : s.OthersStand (s.offHookMark l) l := by
  unfold State.offHookMark
  dsimp only
  split
  · split
    · split
      · exact ((s.othersStand_setScan l _).trans (State.othersStand_startCall _ l)).trans
          (State.othersStand_settle _ l)
      · exact s.othersStand_setScan l _
    · exact .refl
  · exact .refl

theorem State.othersStand_clearMark : s.OthersStand (s.clearMark l) l := by
  unfold State.clearMark
  split
  · exact (s.othersStand_clearCall l).trans (State.othersStand_settle _ l)
  · exact .refl

theorem State.othersStand_thresholdMark : s.OthersStand (s.thresholdMark l) l := by
  unfold State.thresholdMark
  split
  · exact s.othersStand_takeDecoded l _
  · exact .refl

theorem State.othersStand_takeMarks : s.OthersStand (s.takeMarks l) l :=
  ((s.othersStand_offHookMark l).trans (State.othersStand_clearMark _ l)).trans (State.othersStand_thresholdMark _ l)

theorem State.othersStand_handEdge (edge : Loop) : s.OthersStand (s.handEdge l edge) l := by
  unfold State.handEdge
  split
  · exact s.othersStand_setScan l _
  · exact s.othersStand_setLko l _
  · exact .refl
  · split
    · exact s.othersStand_takeDecoded l _
    · exact s.othersStand_setDec l _

theorem State.othersStand_applySample (present : Bool) : s.OthersStand (s.applySample l present) l := by
  unfold State.applySample
  dsimp only
  split
  · exact s.othersStand_setScan l _
  · exact (s.othersStand_setScan l _).trans (State.othersStand_handEdge _ l _)
end

/-! ## What the marks leave of a line's own filter -/

/-- From `s` to `t` nothing of line `l`'s filter changes but its guard. -/
def State.FilterStands (s t : State) (l : Line) : Prop := ∃ g, t.scanLine l = { s.scanLine l with guard := g }

section
variable {s t u : State} {l : Line}

theorem State.FilterStands.trans (h : s.FilterStands t l) (g : t.FilterStands u l) : s.FilterStands u l := by
  obtain ⟨x, hx⟩ := h
  obtain ⟨y, hy⟩ := g
  exact ⟨y, by rw [hy, hx]⟩

theorem State.filterStands_of_scan (h : t.scan = s.scan) : s.FilterStands t l :=
  ⟨(s.scanLine l).guard, by simp [State.scanLine, h]⟩
end

section
variable (s : State) (l : Line)

theorem State.startCall_scanLine (m : Line) :
    (s.startCall l).scanLine m = if m = l then { s.scanLine l with guard := .off } else s.scanLine m := by
  unfold State.startCall
  dsimp only
  split
  · simp [State.queueTail, State.endGuard]
  · simp [State.endGuard]

theorem State.filterStands_startCall : s.FilterStands (s.startCall l) l := ⟨.off, by simp [s.startCall_scanLine]⟩

theorem State.filterStands_endGuard : s.FilterStands (s.endGuard l) l := ⟨.off, by simp [State.endGuard]⟩

theorem State.filterStands_clearCall : s.FilterStands (s.clearCall l) l := by
  unfold State.clearCall
  exact (State.filterStands_of_scan (by simp; split <;> simp)).trans (State.filterStands_endGuard _ l)

theorem State.filterStands_settle : s.FilterStands s.settle l := State.filterStands_of_scan (by simp)

theorem State.filterStands_offHookMark : s.FilterStands (s.offHookMark l) l := by
  have marked : s.FilterStands (s.setScan l { s.scanLine l with guard := .marked }) l := ⟨.marked, by simp⟩
  unfold State.offHookMark
  dsimp only
  split
  · split
    · split
      · exact (marked.trans (State.filterStands_startCall _ l)).trans (State.filterStands_settle _ l)
      · exact marked
    · exact State.filterStands_of_scan rfl
  · exact State.filterStands_of_scan rfl

theorem State.filterStands_clearMark : s.FilterStands (s.clearMark l) l := by
  unfold State.clearMark
  split
  · exact (s.filterStands_clearCall l).trans (State.filterStands_settle _ l)
  · exact State.filterStands_of_scan rfl

theorem State.filterStands_thresholdMark : s.FilterStands (s.thresholdMark l) l := State.filterStands_of_scan (by simp)

theorem State.filterStands_takeMarks : s.FilterStands (s.takeMarks l) l :=
  ((s.filterStands_offHookMark l).trans (State.filterStands_clearMark _ l)).trans (State.filterStands_thresholdMark _ l)
end

/-! ## A sample of the loop -/

/-- The sample of a line's one tick in a millisecond takes the marks due and is then applied (R1, R4). -/
theorem exec_loopSample {s : State} {w : Nat} {l : Line} (present : Bool) (hr : s.running = true)
    (hs : (s.scanLine l).lastSample < max s.now w / 64) (ht : max s.now w / 8 % 8 = l.val) :
    exec (.loopSample w l present) s = .next (((s.advance w).takeMarks l).applySample l present) := by
  have := State.act_running w (fun s => if (s.scanLine l).lastSample < s.scanTime ∧ tickOf s.now = l.val then
    (s.takeMarks l).applySample l present else s) hr
  simp only [State.advance_reads, State.advance_scanTime, State.advance_now, tickOf, cell, milli, hs, ht, and_self,
    if_true] at this
  exact this

theorem integrate_val (i : Fin 8) (present : Bool) :
    (integrate i present).val = if present then min 7 (i.val + 1) else i.val - 1 := by
  revert i present; decide

/-- An edge comes at the step to an end of the integrator that the filtered state does not stand at (R3). -/
theorem filteredEdge_integrate (i : Fin 8) (present : Bool) (loop : Loop) :
    filteredEdge i (integrate i present) loop =
      if loop = .opened ∧ present = true ∧ i = 6 then some .closed
      else if loop = .closed ∧ present = false ∧ i = 1 then some .opened
      else none := by
  revert i present; cases loop <;> decide

/-- An edge turns the filtered state (R3). -/
theorem filteredEdge_ne {i j : Fin 8} {loop edge : Loop} (h : filteredEdge i j loop = some edge) : edge ≠ loop := by
  rintro rfl
  cases edge <;> simp [filteredEdge] at h

/-- An edge is handed on past the filter: the line's guard and glitches alone can change (R5, R7). -/
theorem State.handEdge_scanLine (s : State) (l : Line) (edge : Loop) :
    ∃ g n, (s.handEdge l edge).scanLine l = { s.scanLine l with guard := g, glitches := n } := by
  have unscanned {t : State} (h : t.scan = s.scan) :
      ∃ g n, t.scanLine l = { s.scanLine l with guard := g, glitches := n } :=
    ⟨(s.scanLine l).guard, (s.scanLine l).glitches, by simp [State.scanLine, h]⟩
  unfold State.handEdge
  split
  · simp only [State.setScan_scanLine, if_true, ScanLine.idleEdge]
    split
    · exact ⟨_, _, rfl⟩
    · split
      · exact ⟨_, _, rfl⟩
      · exact ⟨_, _, rfl⟩
  · exact unscanned (by simp)
  · exact unscanned rfl
  · split
    · exact unscanned (by simp)
    · exact unscanned (by simp)

/-- What a sample makes of the line's filter: the integrator's step, and, with an edge, its turn and its time (R2, R3). -/
theorem State.applySample_scanLine (s : State) (l : Line) (present : Bool) :
    ∃ g n, (s.applySample l present).scanLine l =
      { s.scanLine l with
        integ := integrate (s.scanLine l).integ present
        loop := (filteredEdge (s.scanLine l).integ (integrate (s.scanLine l).integ present) (s.scanLine l).loop).getD
          (s.scanLine l).loop
        lastEdge := if filteredEdge (s.scanLine l).integ (integrate (s.scanLine l).integ present) (s.scanLine l).loop =
          none then (s.scanLine l).lastEdge else s.scanTime
        guard := g, glitches := n, lastSample := s.scanTime } := by
  unfold State.applySample
  dsimp only
  split
  · rename_i none_edge
    exact ⟨_, _, by simp [none_edge]; exact ⟨rfl, rfl⟩⟩
  · rename_i edge some_edge
    obtain ⟨g, n, h⟩ := State.handEdge_scanLine (s.setScan l { s.scanLine l with
      integ := integrate (s.scanLine l).integ present, loop := edge, lastEdge := s.scanTime,
      lastSample := s.scanTime }) l edge
    exact ⟨g, n, by rw [h]; simp [some_edge]⟩

/-- Settles O8: the marks taken first leave the filter but for its guard, and the sample is one step of it. -/
theorem loopSampleMovesTheIntegrator : Obligations.LoopSampleMovesTheIntegrator := by
  unfold Obligations.LoopSampleMovesTheIntegrator
  intro s w l present hr hs ht
  refine ⟨_, exec_loopSample present hr hs ht, ?_⟩
  obtain ⟨g, hmarks⟩ := (s.advance w).filterStands_takeMarks l
  obtain ⟨g', n, happ⟩ := ((s.advance w).takeMarks l).applySample_scanLine l present
  have others := ((s.advance w).othersStand_takeMarks l).trans (State.othersStand_applySample _ l present)
  have now : ((s.advance w).takeMarks l).scanTime = max s.now w / 64 := by simp [State.scanTime, milli]
  rw [hmarks, now] at happ
  simp only [State.advance_reads] at happ
  rw [happ]
  refine ⟨integrate_val _ _, ?_, ?_, rfl, others.1, by simp, by simp, by simp, others.2⟩
  · rw [filteredEdge_integrate]
    split
    · rfl
    · split <;> rfl
  · cases edge : filteredEdge (s.scanLine l).integ (integrate (s.scanLine l).integ present) (s.scanLine l).loop with
    | none => simp
    | some e => simp [filteredEdge_ne edge]

end Sys2Proof.Machine
end

section
/-! Loop supervision: where an edge of a line goes in each call state (TABLE 1-3). -/

namespace Sys2Proof.Machine
open Sys2Proof

/-! ## Marks that are not due -/

section
variable {s : State} {l : Line}

theorem State.offHookMark_eq_self
    (h : (s.call l).state = .idle → ∀ start, (s.scanLine l).guard = .running start → s.scanTime < start + guardTime) :
    s.offHookMark l = s := by
  unfold State.offHookMark
  dsimp only
  split
  · rename_i start running
    refine if_neg fun ⟨idle, _, reached⟩ => ?_
    exact absurd (h idle start running) (by omega)
  · rfl

theorem State.clearMark_eq_self
    (h : (s.call l).state.inCall = true → (s.scanLine l).loop = .opened → s.scanTime < (s.scanLine l).lastEdge + clearTime) :
    s.clearMark l = s := by
  refine if_neg fun ⟨calling, opened, reached⟩ => ?_
  exact absurd (h calling opened) (by omega)

theorem State.thresholdMark_eq_self
    (h : (s.call l).state.decoding = true → (s.decoder l).thresholdReached s.scanTime = false) :
    s.thresholdMark l = s := by
  refine if_neg fun ⟨decoding, reached⟩ => ?_
  rw [h decoding] at reached
  cases reached

/-- Where no mark of the line is due, a sample finds the line as it stood (R4). -/
theorem State.takeMarks_eq_self
    (offHook : (s.call l).state = .idle → ∀ start, (s.scanLine l).guard = .running start → s.scanTime < start + guardTime)
    (clear : (s.call l).state.inCall = true → (s.scanLine l).loop = .opened →
      s.scanTime < (s.scanLine l).lastEdge + clearTime)
    (threshold : (s.call l).state.decoding = true → (s.decoder l).thresholdReached s.scanTime = false) :
    s.takeMarks l = s := by
  unfold State.takeMarks
  rw [State.offHookMark_eq_self offHook, State.clearMark_eq_self clear, State.thresholdMark_eq_self threshold]

theorem Decoder.thresholdReached_eq_false {d : Decoder} {time : Nat}
    (h : ∀ start threshold, d.count ≠ 0 → d.interval = some (.make start) → d.threshold = some threshold →
      time < start + threshold) : d.thresholdReached time = false := by
  unfold Decoder.thresholdReached
  by_cases counting : d.count = 0
  · simp [counting]
  · split
    · rename_i start threshold make kept
      have := h start threshold counting make kept
      simp; omega
    · simp
end

/-! ## Where an edge goes -/

/-- The line's filter after the edge that a sample of this level causes, at `time` (R3). -/
def ScanLine.turned (x : ScanLine) (present : Bool) (time : Nat) : ScanLine :=
  { x with integ := if present then 7 else 0, loop := if present then .closed else .opened, lastEdge := time,
           lastSample := time }

section
variable {s : State} {l : Line}

theorem State.setScan_setScan (x y : ScanLine) : (s.setScan l x).setScan l y = s.setScan l y := by
  simp [State.setScan]

/-- A sample that carries the integrator to its end turns the filter and hands on the edge (R2, R3). -/
theorem State.applySample_edge {present : Bool} (hl : (s.scanLine l).loop = if present then .opened else .closed)
    (hi : (s.scanLine l).integ = if present then 6 else 1) :
    s.applySample l present = (s.setScan l ((s.scanLine l).turned present s.scanTime)).handEdge l
      (if present then .closed else .opened) := by
  unfold State.applySample ScanLine.turned
  cases present <;> simp_all [filteredEdge, integrate]

theorem State.handEdge_idle (h : (s.call l).state = .idle) (edge : Loop) :
    s.handEdge l edge = s.setScan l ((s.scanLine l).idleEdge s.scanTime) := by simp [State.handEdge, h]

theorem State.handEdge_blocked (h : (s.call l).state = .blocked) (edge : Loop) :
    s.handEdge l edge = s.setLko l (edge = .closed) := by simp [State.handEdge, h]

theorem State.handEdge_lockout (h : (s.call l).state = .lockout) (edge : Loop) : s.handEdge l edge = s := by
  simp [State.handEdge, h]

theorem State.handEdge_opened (h : (s.call l).state.decoding = true) :
    s.handEdge l .opened = s.setDec l ((s.decoder l).openEdge s.scanTime) := by
  unfold State.handEdge
  cases hs : (s.call l).state <;> simp_all [CallState.decoding]

theorem State.handEdge_closed (h : (s.call l).state.decoding = true) :
    s.handEdge l .closed = s.takeDecoded l ((s.decoder l).closedEdge s.scanTime (s.early l)) := by
  unfold State.handEdge
  cases hs : (s.call l).state <;> simp_all [CallState.decoding]
end

/-- The edge that a line's sample causes with no mark due: the filter turns, and the edge is handed on (R3 to R5). -/
theorem exec_loopSample_edge {s : State} {w : Nat} {l : Line} {present : Bool} (hr : s.running = true)
    (hs : (s.scanLine l).lastSample < max s.now w / 64) (ht : max s.now w / 8 % 8 = l.val)
    (hl : (s.scanLine l).loop = if present then .opened else .closed)
    (hi : (s.scanLine l).integ = if present then 6 else 1)
    (offHook : (s.call l).state = .idle → ∀ start, (s.scanLine l).guard = .running start →
      max s.now w / 64 < start + 60)
    (clear : (s.call l).state.inCall = true → present = true → max s.now w / 64 < (s.scanLine l).lastEdge + 900)
    (threshold : (s.call l).state.decoding = true → ∀ start threshold, (s.decoder l).count ≠ 0 →
      (s.decoder l).interval = some (.make start) → (s.decoder l).threshold = some threshold →
      max s.now w / 64 < start + threshold) :
    exec (.loopSample w l present) s = .next
      (((s.advance w).setScan l ((s.scanLine l).turned present (max s.now w / 64))).handEdge l
        (if present then .closed else .opened)) := by
  have unmarked : (s.advance w).takeMarks l = s.advance w :=
    State.takeMarks_eq_self offHook
      (fun calling opened => clear calling (by cases present <;> simp_all))
      (fun decoding => Decoder.thresholdReached_eq_false (threshold decoding))
  rw [exec_loopSample present hr hs ht, unmarked, State.applySample_edge (s := s.advance w) hl hi]
  rfl

/-- A counter at its limit shows 255 still (R13). -/
theorem counted_eq (c : Byte) : counted c = if c = 255 then 255 else c + 1 := by
  unfold counted
  split
  · assumption
  · rfl

/-! ## Edges of an IDLE line -/

section
variable {s : State} {w : Nat} {l : Line}

theorem exec_loopSample_idle {present : Bool} (hr : s.running = true) (idle : (s.call l).state = .idle)
    (hs : (s.scanLine l).lastSample < max s.now w / 64) (ht : max s.now w / 8 % 8 = l.val)
    (hl : (s.scanLine l).loop = if present then .opened else .closed)
    (hi : (s.scanLine l).integ = if present then 6 else 1)
    (offHook : ∀ start, (s.scanLine l).guard = .running start → max s.now w / 64 < start + 60) :
    exec (.loopSample w l present) s = .next ((s.advance w).setScan l
      (((s.scanLine l).turned present (max s.now w / 64)).idleEdge (max s.now w / 64))) := by
  rw [exec_loopSample_edge hr hs ht hl hi (fun _ => offHook) (by simp [idle, CallState.inCall])
    (by simp [idle, CallState.decoding]), State.handEdge_idle (by simpa using idle), State.setScan_setScan]
  simp [milli]

/-- A CLOSED edge starts the guard of an IDLE line (R7). -/
theorem ScanLine.idleEdge_turned_closed (x : ScanLine) (time : Nat) :
    (x.turned true time).idleEdge time =
      { x with integ := 7, loop := .closed, lastEdge := time, lastSample := time, guard := .running time } := rfl

/-- An OPEN edge ends the guard of an IDLE line, and is a glitch where the guard ran and its mark is not due (R7, R9). -/
theorem ScanLine.idleEdge_turned_opened (x : ScanLine) (time : Nat)
    (h : ∀ start, x.guard = .running start → time < start + 60) :
    (x.turned false time).idleEdge time =
      { x with integ := 0, loop := .opened, lastEdge := time, lastSample := time, guard := .off
               glitches := match x.guard with | .running _ => counted x.glitches | _ => x.glitches } := by
  cases hg : x.guard with
  | running start => simp [ScanLine.idleEdge, ScanLine.turned, hg, guardTime, h start hg]
  | off => simp [ScanLine.idleEdge, ScanLine.turned, hg]
  | marked => simp [ScanLine.idleEdge, ScanLine.turned, hg]
end

/-! ## Edges by call state -/

/-- Settles O9: the edge is handed on past the filter, and each call state has its rule. -/
theorem loopEdgesActAsTheCallStateSays : Obligations.LoopEdgesActAsTheCallStateSays := by
  unfold Obligations.LoopEdgesActAsTheCallStateSays
  refine ⟨fun s w l hr idle hs ht offHook => ⟨fun opened six => ?_, fun closed one => ?_⟩,
    fun s w l present hr blocked hs ht hl hi => ?_, fun s w l present hr hs ht hl hi => ⟨fun lockout clear => ?_,
    fun calling clear threshold => ?_⟩⟩
  · rw [exec_loopSample_idle (present := true) hr idle hs ht opened six offHook, ScanLine.idleEdge_turned_closed]
  · rw [exec_loopSample_idle (present := false) hr idle hs ht closed one offHook, ScanLine.idleEdge_turned_opened _ _ offHook]
    cases (s.scanLine l).guard <;> simp [counted_eq]
  · rw [exec_loopSample_edge hr hs ht hl hi (by simp [blocked]) (by simp [blocked, CallState.inCall])
      (by simp [blocked, CallState.decoding]), State.handEdge_blocked (by simpa using blocked)]
    cases present <;> rfl
  · rw [exec_loopSample_edge hr hs ht hl hi (by simp [lockout]) (fun _ => clear)
      (by simp [lockout, CallState.decoding]), State.handEdge_lockout (by simpa using lockout)]
    rfl
  · have decoding : (s.call l).state.decoding = true := by
      rcases calling with h | h | h | h <;> simp [h, CallState.decoding]
    have busy : (s.call l).state ≠ .idle := by
      rcases calling with h | h | h | h <;> simp [h]
    have edge := exec_loopSample_edge hr hs ht hl hi (fun idle => absurd idle busy) (fun _ => clear) (fun _ => threshold)
    refine ⟨?_, ?_⟩
    · rintro rfl
      rw [edge, if_neg (by simp), State.handEdge_opened (by simpa using decoding)]
      simp [ScanLine.turned, milli]
    · rintro rfl
      intro r judged told
      rw [edge, if_pos rfl, State.handEdge_closed (by simpa using decoding)]
      rfl
end Sys2Proof.Machine
end

section
/-! Loop supervision: the start of a call, and the re-offers of an entry to ACTIVE or ISOLATED (R8, R44). -/

namespace Sys2Proof.Machine
open Sys2Proof

/-! ## The start of a call -/

/-- The record a started call begins with (R44). -/
def State.startedCall (s : State) (l : Line) : CallRecord :=
  let c := { CallRecord.reset with
    localTone := true, overflows := (s.call l).overflows, lockouts := (s.call l).lockouts }
  match s.ctl.straps.mode with
  | .overlap => { c with state := .hunting, huntTimer := s.after huntTime }
  | .enBloc => { c with state := .collecting, firstTimer := s.after firstEntryTime }

/-- From `s` to `t` a call starts on line `l`: its record, its guard ended, its decoder and its dial tone (R18, R44). -/
def State.CallStarts (s t : State) (l : Line) : Prop :=
  t.call l = s.startedCall l ∧ t.scanLine l = { s.scanLine l with guard := .off } ∧
    t.decoder l = (s.decoder l).takeOver (s.scanLine l).lastEdge ∧ t.ldt[l] = true

/-- From `s` to `t` line `l` stands: its call, filter, decoder and dial tone. -/
def State.LineStands (s t : State) (l : Line) : Prop :=
  t.call l = s.call l ∧ t.scanLine l = s.scanLine l ∧ t.decoder l = s.decoder l ∧ t.ldt[l] = s.ldt[l]

section
variable {s t u : State} {l : Line}

theorem State.LineStands.refl : s.LineStands s l := ⟨rfl, rfl, rfl, rfl⟩

theorem State.LineStands.trans (h : s.LineStands t l) (g : t.LineStands u l) : s.LineStands u l := by
  obtain ⟨hcall, hscan, hdec, hldt⟩ := h
  obtain ⟨gcall, gscan, gdec, gldt⟩ := g
  exact ⟨gcall.trans hcall, gscan.trans hscan, gdec.trans hdec, gldt.trans hldt⟩

theorem State.CallStarts.trans (h : s.CallStarts t l) (g : t.LineStands u l) : s.CallStarts u l := by
  obtain ⟨hcall, hscan, hdec, hldt⟩ := h
  obtain ⟨gcall, gscan, gdec, gldt⟩ := g
  exact ⟨gcall.trans hcall, gscan.trans hscan, gdec.trans hdec, gldt.trans hldt⟩

/-- A call starts on a line as it stands, whatever has happened to other lines. -/
theorem State.LineStands.callStarts (h : s.LineStands t l) (hctl : t.ctl = s.ctl) (hnow : t.now = s.now)
    (g : t.CallStarts u l) : s.CallStarts u l := by
  obtain ⟨hcall, hscan, hdec, hldt⟩ := h
  obtain ⟨gcall, gscan, gdec, gldt⟩ := g
  have started : t.startedCall l = s.startedCall l := by
    simp [State.startedCall, State.after, State.scanTime, hctl, hnow, hcall]
  exact ⟨gcall.trans started, by rw [gscan, hscan], by rw [gdec, hdec, hscan], gldt⟩
end

section
variable (s : State) (l : Line)

/-- Starting a call in terms of its record: the guard ends, the decoder takes the line over, and the line joins the hunt
queue in OVERLAP (R18, R44). -/
theorem State.startCall_eq :
    s.startCall l =
      let t := (((s.endGuard l).setDec l ((s.decoder l).takeOver (s.scanLine l).lastEdge)).setLdt l true).setCall l
        (s.startedCall l)
      match s.ctl.straps.mode with
      | .overlap => t.queueTail l
      | .enBloc => t := by
  unfold State.startCall State.startedCall
  cases h : s.ctl.straps.mode <;> simp [h, State.after, State.scanTime]

theorem State.startCall_queue : (s.startCall l).hunt.queue =
    match s.ctl.straps.mode with
    | .overlap => s.hunt.queue ++ [l]
    | .enBloc => s.hunt.queue := by
  rw [State.startCall_eq]
  cases s.ctl.straps.mode <;> simp [State.queueTail]

theorem State.callStarts_startCall : s.CallStarts (s.startCall l) l := by
  rw [State.startCall_eq]
  cases s.ctl.straps.mode <;> simp [State.CallStarts, State.queueTail, State.endGuard]

theorem State.lineStands_startCall {m : Line} (h : m ≠ l) : s.LineStands (s.startCall l) m := by
  rw [State.startCall_eq]
  cases s.ctl.straps.mode <;> simp [State.LineStands, State.queueTail, State.endGuard, h]
end

/-! ## Calls started one after another -/

theorem startCalls_lineStands {lines : List Line} {l : Line} (h : l ∉ lines) (s : State) :
    s.LineStands (lines.foldl State.startCall s) l := by
  induction lines generalizing s with
  | nil => exact .refl
  | cons m rest ih =>
    simp only [List.mem_cons, not_or] at h
    exact (s.lineStands_startCall m h.1).trans (ih h.2 _)

theorem startCalls_callStarts {lines : List Line} {l : Line} (h : l ∈ lines) (nodup : lines.Nodup) (s : State) :
    s.CallStarts (lines.foldl State.startCall s) l := by
  induction lines generalizing s with
  | nil => cases h
  | cons m rest ih =>
    obtain ⟨fresh, nodup⟩ := List.nodup_cons.1 nodup
    by_cases first : l = m
    · subst first
      exact (s.callStarts_startCall l).trans (startCalls_lineStands fresh _)
    · have behind : l ∈ rest := (List.mem_cons.1 h).resolve_left first
      exact (s.lineStands_startCall m first).callStarts (by simp) (by simp) (ih behind nodup _)

theorem startCalls_queue (lines : List Line) (s : State) : (lines.foldl State.startCall s).hunt.queue =
    match s.ctl.straps.mode with
    | .overlap => s.hunt.queue ++ lines
    | .enBloc => s.hunt.queue := by
  induction lines generalizing s with
  | nil => cases h : s.ctl.straps.mode <;> simp
  | cons l rest ih =>
    have ctl : (s.startCall l).ctl = s.ctl := by simp
    rw [List.foldl_cons, ih, ctl, State.startCall_queue]
    cases s.ctl.straps.mode <;> simp

/-! ## The lines re-offered -/

theorem insertRanked_perm (rank : Line → Nat) (l : Line) (lines : List Line) :
    (insertRanked rank l lines).Perm (l :: lines) := by
  induction lines with
  | nil => exact .refl _
  | cons m rest ih =>
    unfold insertRanked
    split
    · exact .refl _
    · exact (ih.cons m).trans (.swap l m rest)

/-- Whatever the ranking, the lines re-offered are those that can be, each once (R8; log entry 6). -/
theorem State.reoffers_perm (s : State) : s.reoffers.Perm ((List.finRange 8).filter s.reofferable) := by
  unfold State.reoffers
  induction (List.finRange 8).filter s.reofferable with
  | nil => exact .refl _
  | cons l rest ih => exact (insertRanked_perm _ l _).trans (ih.cons l)

theorem State.mem_reoffers {s : State} {l : Line} : l ∈ s.reoffers ↔ s.reofferable l = true := by
  simp [s.reoffers_perm.mem_iff]

theorem State.reoffers_nodup (s : State) : s.reoffers.Nodup :=
  s.reoffers_perm.nodup_iff.2 ((List.nodup_finRange 8).filter _)

theorem Guard.past_iff {g : Guard} {time : Nat} :
    g.past time = true ↔ g = .marked ∨ ∃ x, g = .running x ∧ x + 60 ≤ time := by
  cases g with
  | off => simp [Guard.past]
  | running start => rw [Guard.past, decide_eq_true_iff]; simp [guardTime]
  | marked => simp [Guard.past]

theorem State.reofferable_iff {s : State} {l : Line} (idle : (s.call l).state = .idle) :
    s.reofferable l = true ↔ (s.scanLine l).loop = .closed ∧
      ((s.scanLine l).guard = .marked ∨ ∃ x, (s.scanLine l).guard = .running x ∧ x + 60 ≤ s.scanTime) := by
  simp [State.reofferable, idle, Guard.past_iff]

/-- Re-offering is the start of a call on each line that can be re-offered, and leaves every other line (R8). -/
theorem State.reoffer_reoffers (s : State) : s.Reoffers s.reoffer s.scanTime := by
  intro l idle
  dsimp only
  rw [← State.reofferable_iff idle, ← State.mem_reoffers]
  refine ⟨fun offered => ?_, fun stays => ?_⟩
  · obtain ⟨call, scan, dec, ldt⟩ : s.CallStarts s.reoffer l := startCalls_callStarts offered s.reoffers_nodup s
    have queue : s.reoffer.hunt.queue = _ := startCalls_queue s.reoffers s
    rw [call, scan, dec, queue]
    refine ⟨?_, ldt, ?_, ?_, rfl, rfl, fun enBloc => ?_, fun overlap => ?_⟩
    · cases h : s.ctl.straps.mode <;> simp [State.startedCall, h]
    · cases h : s.ctl.straps.mode <;> simp [State.startedCall, h, CallRecord.reset]
    · cases h : s.ctl.straps.mode <;> simp [State.startedCall, h, CallRecord.reset]
    · simp [State.startedCall, enBloc, State.after, firstEntryTime]
    · simp [State.startedCall, overlap, State.after, huntTime, offered]
  · obtain ⟨call, scan, dec, _⟩ : s.LineStands s.reoffer l := startCalls_lineStands stays s
    exact ⟨call, scan, dec⟩

/-- Re-offers are said of the lines' records and the sending mode alone. -/
theorem State.Reoffers.of_fields {s s' t : State} {time : Nat} (h : s'.Reoffers t time) (calls : s'.calls = s.calls)
    (scan : s'.scan = s.scan) (dec : s'.dec = s.dec) (mode : s'.ctl.straps.mode = s.ctl.straps.mode) :
    s.Reoffers t time := by
  simpa only [State.Reoffers, State.call, State.scanLine, State.decoder, calls, scan, dec, mode] using h

/-- A line that was IDLE is not DIALLING after the re-offers (R8, R44). -/
theorem State.Reoffers.not_dialling {s t : State} {time : Nat} (h : s.Reoffers t time) {l : Line}
    (idle : (s.call l).state = .idle) : (t.call l).state ≠ .dialling := by
  obtain ⟨offered, stays⟩ := h l idle
  by_cases past : (s.scanLine l).loop = .closed ∧
      ((s.scanLine l).guard = .marked ∨ ∃ x, (s.scanLine l).guard = .running x ∧ x + 60 ≤ time)
  · obtain ⟨_, _, _, _, _, _, enBloc, overlap⟩ := offered past
    cases mode : s.ctl.straps.mode with
    | enBloc => simp [(enBloc mode).1]
    | overlap => simp [(overlap mode).1]
  · simp [(stays past).1, idle]

/-- Judging and granting in ACTIVE leave the re-offered lines and the lines left alone (R134, R174). -/
theorem State.Reoffers.settle {s t : State} {time : Nat} (h : s.Reoffers t time) (active : t.ctl.station = .active) :
    s.Reoffers t.settle time := by
  intro l idle
  obtain ⟨offered, stays⟩ := h l idle
  have scan : t.settle.scanLine l = t.scanLine l := by simp [State.scanLine]
  have dec : t.settle.decoder l = t.decoder l := by simp [State.decoder]
  have queue : t.settle.hunt.queue = t.hunt.queue := by simp [State.settle, State.judge, active]
  obtain ⟨call, ldt⟩ := sameLine_settle t (m := l) (.inr (by simp [active])) (h.not_dialling idle)
  dsimp only
  rw [scan, dec, queue, call, ldt]
  exact ⟨offered, stays⟩

end Sys2Proof.Machine
end

section
/-! Loop supervision: the entry to ISOLATED, and a stuck wire (R85 to R87, R189). -/

namespace Sys2Proof.Machine
open Sys2Proof

/-! ## The entry to ISOLATED -/

theorem startCalls_hunt (lines : List Line) (s : State) :
    (lines.foldl State.startCall s).hunt.claim = s.hunt.claim ∧
      (lines.foldl State.startCall s).hunt.probe = s.hunt.probe := by
  induction lines generalizing s with
  | nil => exact ⟨rfl, rfl⟩
  | cons l rest ih => simp [ih]

/-- Re-offering places no claim and holds no probe request. -/
@[simp] theorem State.reoffer_hunt (s : State) :
    s.reoffer.hunt.claim = s.hunt.claim ∧ s.reoffer.hunt.probe = s.hunt.probe := startCalls_hunt s.reoffers s

/-- The pending claim and a held probe request go with the flush, and nothing else of the Hunt Unit (R140, R146). -/
@[simp] theorem State.dropClaim_hunt (s : State) :
    s.dropClaim.hunt = { s.hunt with claim := none, probe := none } := by
  unfold State.dropClaim
  dsimp only
  repeat' split
  all_goals simp

@[simp] theorem State.dropClaim_inner (s : State) :
    s.dropClaim.sup.sessions = s.sup.sessions ∧ s.dropClaim.sup.seize = s.sup.seize ∧
      s.dropClaim.sup.points = s.sup.points := by
  unfold State.dropClaim
  dsimp only
  repeat' split
  all_goals simp

/-- The station ISOLATED, before any line is re-offered (R189). -/
def State.isolating (s : State) : State :=
  { s with
    ctl := { s.ctl with station := .isolated, ready := true, alarm := true, listenTimer := none }
    iso := { entryTime := some s.scanTime, grace := some (s.scanTime + 7000), probeTimer := none, rejoinTimer := none }
    tx := { frames := [], flight := none, waiting := none }
    link := { s.link with own := none, reply := none, errorRun := 0 }
    view := { s.view with reportInterval := none } }.dropClaim

theorem State.enterIsolated_eq (s : State) :
    s.enterIsolated = if s.ctl.station.reoffersAtIsolation then s.isolating.reoffer else s.isolating := rfl

/-- What the entry to ISOLATED sets and keeps, whether lines are re-offered or not (R102, R107, R140, R169, R189). -/
theorem State.enterIsolated_sets (s : State) :
    s.enterIsolated.link = { s.link with own := none, reply := none, errorRun := 0 } ∧
      s.enterIsolated.ctl = { s.ctl with station := .isolated, ready := true, alarm := true, listenTimer := none } ∧
      s.enterIsolated.iso = { entryTime := some s.scanTime, grace := some (s.scanTime + 7000), probeTimer := none,
                              rejoinTimer := none } ∧
      s.enterIsolated.tx = { frames := [], flight := none, waiting := none } ∧
      s.enterIsolated.hunt.claim = none ∧ s.enterIsolated.hunt.probe = none ∧
      s.enterIsolated.view = { s.view with reportInterval := none } ∧
      s.enterIsolated.sup.sessions = s.sup.sessions ∧ s.enterIsolated.sup.seize = s.sup.seize ∧
      s.enterIsolated.sup.points = s.sup.points := by
  rw [State.enterIsolated_eq]
  split <;> simp [State.isolating]

/-- From a state in which calls start, the entry to ISOLATED keeps the lines and the hunt queue (R189, R191). -/
theorem State.enterIsolated_keeps {s : State} (h : s.ctl.station.reoffersAtIsolation = false) :
    s.enterIsolated.calls = s.calls ∧ s.enterIsolated.dec = s.dec ∧ s.enterIsolated.scan = s.scan ∧
      s.enterIsolated.hunt.queue = s.hunt.queue := by
  rw [State.enterIsolated_eq, if_neg (by simp [h])]
  simp [State.isolating]

/-- From LISTEN and REJOIN the entry to ISOLATED re-offers the lines off-hook (R8). -/
theorem State.enterIsolated_reoffers {s : State} (h : s.ctl.station.reoffersAtIsolation = true) :
    s.Reoffers s.enterIsolated s.scanTime := by
  rw [State.enterIsolated_eq, if_pos h]
  have time : s.isolating.scanTime = s.scanTime := by simp [State.isolating, State.scanTime]
  rw [← time]
  exact s.isolating.reoffer_reoffers.of_fields (by simp [State.isolating]) (by simp [State.isolating])
    (by simp [State.isolating]) (by simp [State.isolating])

/-! ## No frame in flight after a failure -/

@[simp] theorem TxQueue.unsent_flight (q : TxQueue) : q.unsent.flight = none := by
  unfold TxQueue.unsent
  split <;> rfl

@[simp] theorem TxQueue.withdraw_flight (q : TxQueue) (k : TxKey) : (q.withdraw k).flight = q.flight := by
  unfold TxQueue.withdraw
  split <;> rfl

@[simp] theorem TxQueue.place_flight (q : TxQueue) (f : QFrame) : (q.place f).flight = q.flight := by
  unfold TxQueue.place
  split
  · split <;> rfl
  · split <;> rfl

@[simp] theorem State.withdrawClaim_flight (s : State) : s.withdrawClaim.tx.flight = s.tx.flight := by
  unfold State.withdrawClaim
  dsimp only
  split
  · rfl
  · split <;> simp

@[simp] theorem State.makeChoice_flight (s : State) : s.makeChoice.tx.flight = s.tx.flight := by
  unfold State.makeChoice
  split
  · split
    · simp [State.place]
    · rfl
  · rfl

/-- The Hunt Unit and the arbiter start and end no frame. -/
@[simp] theorem State.settle_flight (s : State) : s.settle.tx.flight = s.tx.flight := by
  unfold State.settle State.judge
  split
  · unfold State.judgeActive
    split
    · simp
    · split
      · simp
      · split <;> simp
  · simp
  · simp

@[simp] theorem State.flightEnds_flight (s : State) : s.flightEnds.tx.flight = none := by
  unfold State.flightEnds
  dsimp only
  split
  · split
    · split <;> simp
    · simp
  · simp

@[simp] theorem Link.recessive_counts (k : Link) (m : Nat) :
    (k.recessive m).rxErrors = k.rxErrors ∧ (k.recessive m).txErrors = k.txErrors ∧
      (k.recessive m).errorRun = k.errorRun := by
  unfold Link.recessive
  split <;> simp

/-- A frame or reply of this station fails: it is counted, the receiver waits for EOF with nothing in flight, and the
eighth in a run isolates the station (R83, R84). -/
theorem State.transmitFails_sets (s : State) (m : Nat) :
    (s.transmitFails m).link.rx = .waitEof ∧ (s.transmitFails m).link.own = none ∧
      (s.transmitFails m).link.reply = none ∧ (s.transmitFails m).tx.flight = none ∧
      (s.transmitFails m).link.txErrors = counted s.link.txErrors ∧
      (s.transmitFails m).link.rxErrors = s.link.rxErrors ∧
      (s.link.errorRun < 7 → (s.transmitFails m).link.errorRun = s.link.errorRun + 1 ∧ (s.transmitFails m).ctl = s.ctl) ∧
      (7 ≤ s.link.errorRun → (s.transmitFails m).link.errorRun = 0 ∧ (s.transmitFails m).ctl.station = .isolated) := by
  unfold State.transmitFails
  dsimp only
  split
  · rename_i eighth
    obtain ⟨link, ctl, _, tx, _⟩ := State.enterIsolated_sets (s.setLink { (s.link.recessive m).waitEof with
      reply := none, txErrors := counted (s.link.recessive m).waitEof.txErrors
      errorRun := (s.link.recessive m).waitEof.errorRun + 1 }).flightEnds
    rw [link, ctl, tx]
    simp [Link.waitEof] at eighth ⊢
    omega
  · rename_i more
    simp [Link.waitEof] at more ⊢
    omega

/-! ## Stuck wire: when a mark is one of its own run -/

theorem runsApart_iff {last : Option Nat} {n now : Nat} :
    runsApart last n now = true ↔ ∀ x, last = some x → x + n * 8 < now := by
  simp only [runsApart, Option.all_eq_true, decide_eq_true_eq]
  rfl

/-- On a recessive wire the cells in hand are read in DATA, and in REPLY once one is (R74, R76). -/
theorem Link.cellsRead_iff {k : Link} (h : k.dominant = false) :
    k.cellsRead = true ↔ k.rx = .data ∨ (k.rx = .reply ∧ (k.bits ≠ [] ∨ k.replyBuf ≠ [])) := by
  simp [Link.cellsRead, Link.replyUnread, h]
  tauto

/-- A mark is one of its own run: since the falling edge seen, or, where none was, with room for the run since the wire
was last recessive and since the marks before (R85, R86; log entry 9). -/
theorem Link.freshRun_iff (k : Link) (last : Option Nat) (n now : Nat) :
    k.freshRun last n now = true ↔
      if k.dominant then
        max k.fallAt k.wireFrom + n * 8 ≤ now ∧ ∀ x, last = some x → x < max k.fallAt k.wireFrom
      else
        ¬ (k.rx = .gap ∨ k.rx = .data ∨ (k.rx = .reply ∧ (k.bits ≠ [] ∨ k.replyBuf ≠ []))) ∧
          k.runFrom + n * 8 ≤ now ∧ (∀ x, k.stuckAbort = some x → x + n * 8 < now) ∧
          ∀ x, k.stuckFailure = some x → x + n * 8 < now := by
  unfold Link.freshRun
  cases seen : k.dominant with
  | true =>
    simp only [if_true, Bool.and_eq_true, Option.all_eq_true, decide_eq_true_eq]
    rfl
  | false =>
    rw [← Link.cellsRead_iff seen, ← runsApart_iff, ← runsApart_iff]
    simp only [Bool.false_eq_true, if_false, Bool.and_eq_true, Bool.not_eq_true', decide_eq_true_eq, not_or, and_assoc,
      Bool.not_eq_true]
    rfl

theorem Link.abortRunFails_iff (k : Link) (now : Nat) :
    k.abortRunFails now = true ↔ k.dominant = false ∧ k.rx = .waitEof ∧ ∃ a, k.stuckAbort = some a ∧ k.runFrom ≤ a ∧
      a + 384 * 8 ≤ now ∧ ∀ x, k.stuckFailure = some x → x < a := by
  simp only [Link.abortRunFails, Option.any_eq_true, Option.all_eq_true, Bool.and_eq_true, Bool.not_eq_true',
    decide_eq_true_eq, and_assoc]
  rfl

/-- The bound of an unseen run, with the recessive time that each receiver state has behind it (R74 to R77). -/
theorem Link.runFrom_eq (k : Link) : k.runFrom =
    max (max k.wireFrom (k.recessiveFrom + match k.rx with
      | .idle => 4 * 8
      | .afterData | .reply | .afterReply => 2 * 8
      | _ => 0)) (max k.edgeAt k.recessiveAt) := by
  unfold Link.runFrom
  cases k.rx <;> rfl

/-! ## Stuck wire: the marks -/

section
variable {s : State} {w : Nat}

/-- The abort of a stuck wire at its mark (R85). -/
def State.stuckAborts (s : State) : State :=
  let t := s.setLink { s.link.dominantAt s.now with stuckAbort := some s.now }
  if s.sending || s.link.rx.midFrame then t.wireError s.now else t.setLink t.link.waitEof

/-- The link fails, before the station is ISOLATED (R86). -/
def State.linkFails (s : State) : State :=
  s.setLink { s.link.dominantAt s.now with
    stuckFailure := some s.now, health := .failed, failures := counted s.link.failures }

theorem exec_stuckDominantAbort_early (hr : s.running = true)
    (h : ¬ s.link.freshRun s.link.stuckAbort 16 (max s.now w) = true) :
    exec (.stuckDominantAbort w) s = .next (s.advance w) :=
  (State.act_running w _ hr).trans (congrArg _ (if_neg fun fresh => h fresh.2))

theorem exec_stuckDominantAbort_mark (hr : s.running = true) (hm : s.link.mode = .wire)
    (h : s.link.freshRun s.link.stuckAbort 16 (max s.now w) = true) :
    exec (.stuckDominantAbort w) s = .next (s.advance w).stuckAborts :=
  (State.act_running w _ hr).trans (congrArg _ (if_pos ⟨hm, h⟩))

theorem exec_linkFailure_early (hr : s.running = true)
    (h : ¬ (s.link.freshRun s.link.stuckFailure 400 (max s.now w) || s.link.abortRunFails (max s.now w)) = true) :
    exec (.linkFailure w) s = .next (s.advance w) :=
  (State.act_running w _ hr).trans (congrArg _ (if_neg fun fresh => h fresh.2))

theorem exec_linkFailure_mark (hr : s.running = true) (hm : s.link.mode = .wire)
    (h : (s.link.freshRun s.link.stuckFailure 400 (max s.now w) || s.link.abortRunFails (max s.now w)) = true) :
    exec (.linkFailure w) s = .next (s.advance w).linkFails.enterIsolated :=
  (State.act_running w _ hr).trans (congrArg _ (if_pos ⟨hm, h⟩))

theorem exec_linkRecovery_mark (hr : s.running = true) (hm : s.link.mode = .wire) (hf : s.link.health = .failed)
    (hd : s.link.dominant = false) (h : s.link.edgeAt + 8000 * 8 ≤ max s.now w) :
    exec (.linkRecovery w) s = .next ((s.advance w).setLink { s.link with health := .good }) :=
  (State.act_running w _ hr).trans (congrArg _ (if_pos ⟨hm, hf, by simp [hd], h⟩))
end

section
variable {s : State}

/-- The link after the abort of a stuck wire (R85): the wire dominant at the mark, and the receiver in WAIT EOF. -/
def Link.aborted (k : Link) (now : Nat) : Link :=
  ({ k.dominantAt now with stuckAbort := some now } : Link).waitEof

theorem Link.recessive_aborted (k : Link) (now : Nat) :
    (({ k.dominantAt now with stuckAbort := some now } : Link).recessive now).waitEof = k.aborted now := by
  unfold Link.recessive Link.aborted
  split
  · rfl
  · simp [Link.waitEof, Link.dominantAt]

/-- With no frame or reply in progress an abort counts nothing (R85). -/
theorem State.stuckAborts_idle (sending : s.sending = false) (idle : s.link.rx.midFrame = false) :
    s.stuckAborts = s.setLink (s.link.aborted s.now) := by
  simp [State.stuckAborts, sending, idle, Link.aborted, State.setLink]

/-- A frame or reply being received ends with a receive error (R82, R85). -/
theorem State.stuckAborts_receiving (sending : s.sending = false) (mid : s.link.rx.midFrame = true)
    (due : s.ctl.restartDue = false) :
    s.stuckAborts = s.setLink { s.link.aborted s.now with rxErrors := counted s.link.rxErrors } := by
  have unsent : (s.setLink { s.link.dominantAt s.now with stuckAbort := some s.now }).sending = false := sending
  simp [State.stuckAborts, mid, State.wireError, unsent, State.receiveFails, due, Link.recessive_aborted]
  rfl

/-- A frame or reply being sent ends with a transmit error (R82, R83, R85). -/
theorem State.stuckAborts_sending (sending : s.sending = true) :
    s.stuckAborts = (s.setLink { s.link.dominantAt s.now with stuckAbort := some s.now }).transmitFails s.now := by
  have still : (s.setLink { s.link.dominantAt s.now with stuckAbort := some s.now }).sending = true := sending
  simp [State.stuckAborts, sending, State.wireError, still]

end

/-- Settles O37: each mark is taken exactly in a run of its own, and has its effect. -/
theorem stuckWireFailsAndRecovers : Obligations.StuckWireFailsAndRecovers := by
  unfold Obligations.StuckWireFailsAndRecovers
  intro s w hr hm apart quiet since reads fresh goesOn waiting
  have runFrom : s.link.runFrom = since := s.link.runFrom_eq
  have freshRun (last : Option Nat) (n : Nat) : s.link.freshRun last n (max s.now w) = true ↔ fresh last n := by
    rw [Link.freshRun_iff, runFrom]
  have abortRun : s.link.abortRunFails (max s.now w) = true ↔ goesOn := by
    rw [Link.abortRunFails_iff, runFrom]
  refine ⟨fun early => ?_, fun mark => ⟨fun flight reply => ⟨fun nothing => ?_, fun idle wait due => ?_⟩, fun sends => ?_⟩,
    fun early ended => ?_, fun mark => ?_, fun failed seen quiet => ?_⟩
  · exact exec_stuckDominantAbort_early hr (fun h => early ((freshRun _ _).1 h))
  · have sending : (s.advance w).sending = false := by simp [State.sending, flight, reply]
    have between : s.link.rx.midFrame = false := by rcases nothing with h | h <;> simp [h, RxState.midFrame]
    rw [exec_stuckDominantAbort_mark hr hm ((freshRun _ _).2 mark), State.stuckAborts_idle sending between]
    rfl
  · have sending : (s.advance w).sending = false := by simp [State.sending, flight, reply]
    have mid : s.link.rx.midFrame = true := by cases h : s.link.rx <;> simp_all [RxState.midFrame]
    rw [exec_stuckDominantAbort_mark hr hm ((freshRun _ _).2 mark), State.stuckAborts_receiving sending mid due]
    rfl
  · have sending : (s.advance w).sending = true := by simpa [State.sending] using sends
    refine ⟨_, exec_stuckDominantAbort_mark hr hm ((freshRun _ _).2 mark), ?_⟩
    rw [State.stuckAborts_sending sending]
    exact State.transmitFails_sets _ _
  · refine exec_linkFailure_early hr fun h => ?_
    rcases (Bool.or_eq_true _ _).mp h with h | h
    · exact early ((freshRun _ _).1 h)
    · exact ended (abortRun.1 h)
  · have reached : (s.link.freshRun s.link.stuckFailure 400 (max s.now w) ||
        s.link.abortRunFails (max s.now w)) = true :=
      (Bool.or_eq_true _ _).mpr (mark.imp (freshRun _ _).2 abortRun.2)
    refine ⟨_, exec_linkFailure_mark hr hm reached, ?_⟩
    obtain ⟨link, ctl, iso, tx, claim, probe, view, sessions, seize, points⟩ :=
      State.enterIsolated_sets (s.advance w).linkFails
    refine ⟨link, ctl, iso, tx, claim, probe, by rw [view], by rw [view]; rfl, by rw [view]; rfl, sessions, seize, points,
      by simp [State.linkFails], by simp [State.linkFails], fun calling => ?_, fun listening => ?_⟩
    · have stays : s.ctl.station.reoffersAtIsolation = false := by
        rcases calling with h | h <;> simp [h, StationState.reoffersAtIsolation]
      exact State.enterIsolated_keeps (s := (s.advance w).linkFails) stays
    · have offers : s.ctl.station.reoffersAtIsolation = true := by
        rcases listening with h | h <;> simp [h, StationState.reoffersAtIsolation]
      exact (State.enterIsolated_reoffers (s := (s.advance w).linkFails) offers).of_fields rfl rfl rfl rfl
  · exact exec_linkRecovery_mark hr hm failed seen quiet

end Sys2Proof.Machine
end

section
/-! Loop supervision: the entry to ACTIVE, and the REPORT it offers (R8, R105, R196, R204). -/

namespace Sys2Proof.Machine
open Sys2Proof

/-! ## What a queue offers -/

theorem TxFrame.key_eq_report_iff {f : TxFrame} : f.key = .report ↔ 5 ≤ f.kind := by
  cases f <;> simp [TxFrame.key, TxFrame.kind]

theorem QFrame.kind_le_of_before {a b : QFrame} (h : a.before b = true) : a.frame.kind ≤ b.frame.kind := by
  simp only [QFrame.before, Bool.or_eq_true, Bool.and_eq_true, decide_eq_true_eq] at h
  omega

theorem QFrame.kind_le_of_not_before {a b : QFrame} (h : ¬ a.before b = true) : b.frame.kind ≤ a.frame.kind := by
  simp only [QFrame.before, Bool.or_eq_true, Bool.and_eq_true, decide_eq_true_eq] at h
  omega

/-- No frame is of a lower kind than the one offered first (R105). -/
theorem firstOffered_kind_le {frames : List QFrame} {f g : QFrame} (h : firstOffered frames = some f)
    (hg : g ∈ frames) : f.frame.kind ≤ g.frame.kind := by
  induction frames generalizing f with
  | nil => cases hg
  | cons x rest ih =>
    cases first : firstOffered rest with
    | none =>
      obtain rfl : rest = [] := by simpa using first
      obtain rfl : g = x := by simpa using hg
      simp_all [firstOffered]
    | some y =>
      have least : g ∈ rest → y.frame.kind ≤ g.frame.kind := ih first
      simp only [firstOffered, first] at h
      split at h
      · rename_i before
        cases h
        rcases List.mem_cons.1 hg with rfl | behind
        · exact QFrame.kind_le_of_before before
        · exact least behind
      · rename_i before
        cases h
        rcases List.mem_cons.1 hg with rfl | behind
        · exact le_rfl
        · exact (QFrame.kind_le_of_not_before before).trans (least behind)

/-- In ACTIVE the one REPORT of a queue is offered exactly when no frame of another kind is queued (R105). -/
theorem State.offered_report_iff {s : State} {b : Bool} (active : s.ctl.station = .active)
    (queued : ∃ f ∈ s.tx.frames, f.frame = .report b)
    (only : ∀ f ∈ s.tx.frames, f.frame.key = .report → f.frame = .report b) :
    s.offered = some (.report b) ↔ ∀ f ∈ s.tx.frames, f.frame.key = .report := by
  have all : s.offerable = s.tx.frames := by simp [State.offerable, Control.offers, active]
  cases first : firstOffered s.tx.frames with
  | none =>
    obtain ⟨f, hf, _⟩ := queued
    simp_all
  | some g =>
    have offered : s.offered = some g.frame := by simp [State.offered, all, first]
    rw [offered]
    refine ⟨fun report f hf => ?_, fun reports => ?_⟩
    · have kind : g.frame.kind = 5 := by rw [Option.some.inj report]; rfl
      exact TxFrame.key_eq_report_iff.2 (kind ▸ firstOffered_kind_le first hf)
    · have member := firstOffered_mem first
      rw [only g member (reports g member)]

/-! ## The REPORT placed, and what a settling leaves of the queue -/

/-- A newer frame, other than a CLAIM, stands in the place of the queued one of its key (TABLE 5-4). -/
theorem combine_frame (q : QFrame) {n : QFrame} (hc : n.frame.key ≠ .claim) : (combine q n).frame = n.frame := by
  unfold combine
  split
  · rfl
  · rename_i claim
    simp [claim, TxFrame.key] at hc
  · rfl

theorem of_mem_combineIn {frames : List QFrame} {n f : QFrame} (hf : f ∈ combineIn frames n) :
    (f ∈ frames ∧ f.frame.key ≠ n.frame.key) ∨ ∃ x ∈ frames, x.frame.key = n.frame.key ∧ f = combine x n := by
  obtain ⟨x, hx, rfl⟩ := List.mem_map.1 hf
  split
  · exact .inr ⟨x, hx, ‹_›, rfl⟩
  · exact .inl ⟨hx, ‹_›⟩

/-- A frame placed under a key not in flight, other than a CLAIM, is the only queued one of that key (R104). -/
theorem TxQueue.place_only {q : TxQueue} {n f : QFrame} (h : q.inFlight n.frame.key = false)
    (hc : n.frame.key ≠ .claim) (hf : f ∈ (q.place n).frames) (hk : f.frame.key = n.frame.key) : f.frame = n.frame := by
  unfold TxQueue.place at hf
  rw [if_neg (by simp [h])] at hf
  split at hf
  · rcases of_mem_combineIn hf with ⟨_, other⟩ | ⟨x, _, _, rfl⟩
    · exact absurd hk other
    · exact combine_frame x hc
  · rename_i none_queued
    rcases List.mem_append.1 hf with queued | added
    · simp only [List.any_eq_true, decide_eq_true_eq, not_exists, not_and] at none_queued
      exact absurd hk (none_queued f queued)
    · rw [List.mem_singleton.1 added]

theorem TxQueue.mem_of_mem_place {q : TxQueue} {n f : QFrame} (hf : f ∈ (q.place n).frames)
    (hk : f.frame.key ≠ n.frame.key) : f ∈ q.frames := by
  unfold TxQueue.place at hf
  split at hf
  · split at hf <;> exact hf
  · split at hf
    · rcases of_mem_combineIn hf with ⟨queued, _⟩ | ⟨x, _, same, rfl⟩
      · exact queued
      · exact absurd (combine_key x n same) hk
    · rcases List.mem_append.1 hf with queued | added
      · exact queued
      · exact absurd (congrArg (fun x => x.frame.key) (List.mem_singleton.1 added)) hk

theorem TxQueue.mem_of_mem_withdraw {q : TxQueue} {k : TxKey} {f : QFrame} (hf : f ∈ (q.withdraw k).frames) :
    f ∈ q.frames := by
  unfold TxQueue.withdraw at hf
  split at hf
  · exact hf
  · exact List.mem_of_mem_filter hf

theorem State.mem_of_mem_makeChoice {s : State} {f : QFrame} (hf : f ∈ s.makeChoice.tx.frames)
    (hk : f.frame.key ≠ .claim) : f ∈ s.tx.frames := by
  unfold State.makeChoice at hf
  split at hf
  · split at hf
    · exact TxQueue.mem_of_mem_place hf hk
    · exact hf
  · exact hf

theorem State.mem_of_mem_withdrawClaim {s : State} {f : QFrame} (hf : f ∈ s.withdrawClaim.tx.frames) :
    f ∈ s.tx.frames := by
  unfold State.withdrawClaim at hf
  dsimp only at hf
  split at hf
  · exact hf
  · split at hf
    · exact TxQueue.mem_of_mem_withdraw (by simpa using hf)
    · exact TxQueue.mem_of_mem_withdraw hf

/-- The Hunt Unit and the arbiter queue no frame but a CLAIM. -/
theorem State.mem_of_mem_settle {s : State} {f : QFrame} (hf : f ∈ s.settle.tx.frames) (hk : f.frame.key ≠ .claim) :
    f ∈ s.tx.frames := by
  simp only [State.settle, State.settleSenders_frame] at hf
  unfold State.judge at hf
  split at hf
  · unfold State.judgeActive at hf
    split at hf
    · exact State.mem_of_mem_makeChoice hf hk
    · split at hf
      · exact hf
      · split at hf
        · exact hf
        · exact State.mem_of_mem_withdrawClaim (State.mem_of_mem_makeChoice hf hk)
  · simpa using hf
  · exact hf

/-- With no claim pending and no line hunting the Hunt Unit places nothing (R134). -/
theorem State.settle_tx_of_still {s : State} (active : s.ctl.station = .active) (claim : s.hunt.claim = none)
    (queue : s.hunt.queue = []) : s.settle.tx = s.tx := by
  simp [State.settle, State.judge, active, State.judgeActive, claim, State.makeChoice, queue]

/-! ## The entry to ACTIVE -/

/-- The station ACTIVE, before any line is re-offered (R196, R204). -/
def State.activating (s : State) : State :=
  { s with
    ctl := { s.ctl with station := .active, ready := true, alarm := false, listenTimer := none }
    iso := { s.iso with rejoinTimer := none }
    tx := s.tx.place { frame := .report false, age := s.now }
    view := { s.view with reportInterval := some (s.scanTime + 2000) } }

theorem State.enterActive_eq (s : State) : s.enterActive = s.activating.reoffer.settle := rfl

/-- With every IDLE line on-hook or inside its guard there is none to re-offer (R8). -/
theorem State.reoffers_eq_nil {s : State} (idle : ∀ l, (s.call l).state = .idle)
    (guarded : ∀ l, (s.scanLine l).loop = .opened ∨ (s.scanLine l).guard = .off ∨
      ∃ x, (s.scanLine l).guard = .running x ∧ s.scanTime < x + 60) : s.reoffers = [] := by
  refine List.eq_nil_iff_forall_not_mem.2 fun l offered => ?_
  obtain ⟨closed, past⟩ := (State.reofferable_iff (idle l)).1 (State.mem_reoffers.1 offered)
  rcases guarded l with opened | off | ⟨x, running, early⟩
  · simp [opened] at closed
  · simp [off] at past
  · simp only [running, reduceCtorEq, Guard.running.injEq, exists_eq_left', false_or] at past
    omega

theorem State.filterStands_reoffer (s : State) (l : Line) : s.FilterStands s.reoffer l := by
  by_cases offered : l ∈ s.reoffers
  · exact ⟨.off, (startCalls_callStarts offered s.reoffers_nodup s).2.1⟩
  · exact ⟨(s.scanLine l).guard, (startCalls_lineStands offered s).2.1⟩

theorem State.filterStands_enterActive (s : State) (l : Line) : s.FilterStands s.enterActive l :=
  State.FilterStands.trans (State.filterStands_of_scan rfl)
    ((s.activating.filterStands_reoffer l).trans (State.filterStands_settle _ l))

/-- What the entry to ACTIVE sets and keeps (R196, R204). -/
theorem State.enterActive_sets (s : State) :
    s.enterActive.ctl = { s.ctl with station := .active, ready := true, alarm := false, listenTimer := none } ∧
      s.enterActive.iso = { s.iso with rejoinTimer := none } ∧
      s.enterActive.view.reportInterval = some (s.scanTime + 2000) ∧
      s.enterActive.view.presence = s.view.presence ∧ s.enterActive.sup.inputs = s.sup.inputs := by
  rw [State.enterActive_eq]
  simp [State.activating]

theorem State.enterActive_reoffers (s : State) : s.Reoffers s.enterActive s.scanTime := by
  rw [State.enterActive_eq]
  exact (s.activating.reoffer_reoffers.settle (by simp [State.activating])).of_fields rfl rfl rfl rfl

/-- At the entry to ACTIVE with nothing in flight a normal REPORT is queued, and no other REPORT with it (R104, R196). -/
theorem State.enterActive_report {s : State} (flight : s.tx.flight = none) :
    (∃ f ∈ s.enterActive.tx.frames, f.frame = .report false) ∧
      ∀ f ∈ s.enterActive.tx.frames, f.frame.key = .report → f.frame = .report false := by
  have idle : s.tx.inFlight .report = false := by simp [TxQueue.inFlight, flight]
  have queue : s.activating.reoffer.tx = s.tx.place { frame := .report false, age := s.now } := by
    simp [State.activating]
  rw [State.enterActive_eq]
  refine ⟨?_, fun f hf hk => ?_⟩
  · obtain ⟨f, hf, report⟩ := TxQueue.place_mem (n := { frame := .report false, age := s.now }) idle (by simp [TxFrame.key])
    refine ⟨f, State.mem_settle (queue ▸ hf) ?_, report⟩
    simp [report, TxFrame.key]
  · have member := State.mem_of_mem_settle hf (by simp [hk])
    rw [queue] at member
    exact TxQueue.place_only (n := { frame := .report false, age := s.now }) idle (by simp [TxFrame.key]) member hk

/-- From a state with nothing to serve or to send, and no line to hunt for at once, the REPORT is alone (R204). -/
theorem State.enterActive_report_alone {s : State} (unserved : s.Unserved)
    (still : s.ctl.straps.mode = .enBloc ∨ ∀ l, (s.scanLine l).loop = .opened ∨ (s.scanLine l).guard = .off ∨
      ∃ x, (s.scanLine l).guard = .running x ∧ s.scanTime < x + 60) :
    ∀ f ∈ s.enterActive.tx.frames, f.frame.key = .report := by
  obtain ⟨idle, hunting, claim, _, _, tx, _⟩ := unserved
  have queue : s.activating.reoffer.hunt.queue = [] := by
    have queue : s.activating.reoffer.hunt.queue = _ := startCalls_queue s.activating.reoffers s.activating
    have mode : s.activating.ctl.straps.mode = s.ctl.straps.mode := rfl
    rw [queue, mode]
    rcases still with enBloc | guarded
    · rw [enBloc]; exact hunting
    · have none_offered : s.activating.reoffers = [] := State.reoffers_eq_nil idle guarded
      rw [none_offered]
      cases s.ctl.straps.mode with
      | overlap => simpa [State.activating] using hunting
      | enBloc => exact hunting
  have claim : s.activating.reoffer.hunt.claim = none := by simpa [State.activating] using claim
  rw [State.enterActive_eq, State.settle_tx_of_still (by simp [State.activating]) claim queue]
  simp [State.activating, tx, TxQueue.place, TxQueue.flushed, TxQueue.inFlight, TxFrame.key]

/-- A timer has expired at its expiry. -/
theorem due_some {e time : Nat} (h : e ≤ time) : due (some e) time = true := decide_eq_true h

/-- Settles O7: both timers enter ACTIVE, which is the REPORT placed, the re-offers, and a settling. -/
theorem listenAndRejoinEndInActive : Obligations.ListenAndRejoinEndInActive := by
  unfold Obligations.ListenAndRejoinEndInActive
  intro s w e hr flight expired c hc
  have entered : exec c s = .next (s.advance w).enterActive := by
    rcases hc with ⟨rfl, listen, timer⟩ | ⟨rfl, rejoin, timer⟩
    · refine (State.act_running w _ hr).trans (congrArg _ (if_pos ⟨listen, ?_⟩))
      simpa [timer, milli] using due_some expired
    · refine (State.act_running w _ hr).trans (congrArg _ (if_pos ⟨rejoin, ?_⟩))
      simpa [timer, milli] using due_some expired
  obtain ⟨ctl, iso, interval, presence, inputs⟩ := (s.advance w).enterActive_sets
  obtain ⟨queued, only⟩ := State.enterActive_report (s := s.advance w) flight
  have active : (s.advance w).enterActive.ctl.station = .active := by rw [ctl]
  have offered := State.offered_report_iff active queued only
  refine ⟨_, entered, ctl, iso, queued, offered, fun _ unserved still => ?_, interval,
    (s.advance w).enterActive_reoffers.of_fields rfl rfl rfl rfl, by simp, by simp, presence, inputs, fun l => ?_⟩
  · exact offered.2 (State.enterActive_report_alone (s := s.advance w) unserved still)
  · obtain ⟨g, h⟩ := (s.advance w).filterStands_enterActive l
    rw [h]
    exact ⟨rfl, rfl, rfl⟩

end Sys2Proof.Machine
end

section
/-! Dial pulse decoding: the bounds of a line's decoder, kept by everything the decoder does (R16, R22, R32, R33). -/

namespace Sys2Proof.Machine
open Sys2Proof

/-! ## The decoder's bounds -/

/-- P within 60..150, and 15 pulses at most (R16, R22). -/
def Decoder.Sound (d : Decoder) : Prop := 60 ≤ d.p ∧ d.p ≤ 150 ∧ d.count ≤ 15

theorem clampPeriod_eq (m : Nat) : clampPeriod m = max 60 (min 150 m) := by
  unfold clampPeriod
  split
  · omega
  · split <;> omega

/-- The clamped M and a profile within 60..150 leave the profile there (R32). -/
theorem learn_bounds {p : Nat} (low : 60 ≤ p) (high : p ≤ 150) (m : Nat) :
    60 ≤ learn p (clampPeriod m) ∧ learn p (clampPeriod m) ≤ 150 := by
  rw [clampPeriod_eq, learn]
  omega

section
variable {d : Decoder}

/-- A record with the same profile and no more pulses keeps the bounds. -/
theorem Decoder.Sound.of_le {d' : Decoder} (h : d.Sound) (profile : d'.p = d.p) (count : d'.count ≤ d.count) :
    d'.Sound := by
  obtain ⟨low, high, few⟩ := h
  exact ⟨profile ▸ low, profile ▸ high, count.trans few⟩

theorem Decoder.Sound.emptied (h : d.Sound) : d.emptied.Sound := h.of_le rfl (Nat.zero_le _)

theorem Decoder.Sound.beginMake (h : d.Sound) (time : Nat) : (d.beginMake time).Sound := h.of_le rfl le_rfl

theorem Decoder.Sound.takeOver (h : d.Sound) (lastEdge : Nat) : (d.takeOver lastEdge).Sound :=
  h.emptied.beginMake lastEdge

theorem Decoder.Sound.spoilDigit (h : d.Sound) (early : Bool) : (d.spoilDigit early).dec.Sound :=
  h.emptied.of_le rfl le_rfl

/-- RESET PROFILE sets a profile within its bounds (R33). -/
theorem Decoder.Sound.resetProfile (h : d.Sound) : d.resetProfile.Sound := by
  obtain ⟨_, _, few⟩ := h
  exact ⟨by simp [Decoder.resetProfile], by simp [Decoder.resetProfile], few⟩

theorem Decoder.Sound.cleared (h : d.Sound) : d.cleared.Sound := h.of_le rfl le_rfl

theorem Decoder.Sound.update (h : d.Sound) (m r : Nat) : (d.update m r).1.Sound := by
  obtain ⟨low, high, few⟩ := h
  obtain ⟨above, below⟩ := learn_bounds low high m
  exact ⟨above, below, few⟩

theorem Decoder.Sound.complete (h : d.Sound) (early : Bool) : (d.complete early).dec.Sound := by
  have counted : { d.emptied with digits := counted d.digits }.Sound := h.emptied.of_le rfl le_rfl
  unfold Decoder.complete
  dsimp only
  split
  · split
    · exact counted.update _ _
    · exact counted
  · exact h.spoilDigit early

theorem Decoder.restore_p (d : Decoder) (time : Nat) : (d.restore time).p = d.p := by
  unfold Decoder.restore
  split
  · rfl
  · dsimp only
    split <;> rfl

theorem Decoder.restore_count (d : Decoder) (time : Nat) : (d.restore time).count = d.count := by
  unfold Decoder.restore
  split
  · rfl
  · dsimp only
    split <;> rfl

theorem Decoder.Sound.noiseBreak (h : d.Sound) (time : Nat) (early : Bool) : (d.noiseBreak time early).dec.Sound := by
  have restored : ({ d with noise := counted d.noise }.restore time).Sound :=
    h.of_le (Decoder.restore_p _ _) (Decoder.restore_count _ _).le
  unfold Decoder.noiseBreak
  dsimp only
  split
  · exact restored.complete early
  · exact restored

/-- A pulse is counted below 15 alone (R22). -/
theorem Decoder.Sound.dialPulse (h : d.Sound) (b start time : Nat) : (d.dialPulse b start time).dec.Sound := by
  obtain ⟨low, high, few⟩ := h
  unfold Decoder.dialPulse
  split
  · exact ⟨low, high, by simp [Decoder.beginMake]; omega⟩
  · exact ⟨low, high, few⟩

theorem Decoder.Sound.doubtfulBreak (h : d.Sound) (time : Nat) (early : Bool) :
    (d.doubtfulBreak time early).dec.Sound := by
  have doubted : { d with doubtful := counted d.doubtful }.Sound := h.of_le rfl le_rfl
  unfold Decoder.doubtfulBreak
  dsimp only
  split
  · exact doubted.beginMake time
  · exact (doubted.spoilDigit early).beginMake time

theorem Decoder.Sound.flash (h : d.Sound) (time : Nat) (early : Bool) : (d.flash time early).dec.Sound := by
  unfold Decoder.flash
  split
  · exact h.emptied.of_le rfl le_rfl
  · exact (h.spoilDigit early).beginMake time

theorem Decoder.Sound.closedEdge (h : d.Sound) (time : Nat) (early : Bool) : (d.closedEdge time early).dec.Sound := by
  unfold Decoder.closedEdge
  dsimp only
  split
  · exact h.noiseBreak time early
  · split
    · exact h.dialPulse _ _ time
    · split
      · exact h.doubtfulBreak time early
      · exact h.flash time early

/-- A make withdraws a pulse or leaves the count (R26 to R28). -/
theorem Decoder.Sound.openEdge (h : d.Sound) (time : Nat) : (d.openEdge time).Sound := by
  unfold Decoder.openEdge
  dsimp only
  split
  · exact h.of_le rfl le_rfl
  · split
    · exact h.of_le rfl le_rfl
    · split
      · exact h.of_le rfl le_rfl
      · exact h.of_le rfl (Nat.sub_le _ _)
end

end Sys2Proof.Machine
end

section
/-! Dial pulse decoding: the bounds of the lines (R16, R22, R42, R43, R48, R63, R64), kept by what the Call Controller,
the senders and the Hunt Unit do. -/

namespace Sys2Proof.Machine
open Sys2Proof

/-! ## The bounds of a call and of the lines -/

/-- The bounds of a call record beside its line's two outputs: 24 entries, below 16 in COLLECTING, a failure count of 2,
local dial tone in a decoding state alone, the lockout output in LOCKOUT or BLOCKED alone. -/
structure CallRecord.Sound (c : CallRecord) (dialTone lockoutTone : Bool) : Prop where
  queue : c.queue.length ≤ 24
  collecting : c.state = .collecting → c.queue.length < 16
  failures : c.failures ≤ 2
  dial : dialTone = true → c.state.decoding = true
  locked : lockoutTone = true → c.state = .lockout ∨ c.state = .blocked

/-- Every line keeps the bounds of its decoder, its call and its outputs. -/
def State.LinesSound (s : State) : Prop := ∀ l, (s.decoder l).Sound ∧ (s.call l).Sound s.ldt[l] s.lko[l]

theorem State.linesSound_iff (s : State) :
    s.LinesSound ↔ s.ProfilesInRange ∧ s.QueuesBounded ∧ s.TonesApart := by
  refine ⟨fun h => ⟨fun l => ?_, fun l => ?_, fun l => ?_⟩, fun ⟨profiles, queues, tones⟩ l => ?_⟩
  · obtain ⟨low, high, _⟩ := (h l).1
    exact ⟨low, high⟩
  · obtain ⟨⟨_, _, count⟩, call⟩ := h l
    exact ⟨call.queue, call.collecting, call.failures, count⟩
  · exact ⟨(h l).2.dial, (h l).2.locked⟩
  · obtain ⟨low, high⟩ := profiles l
    obtain ⟨queue, collecting, failures, count⟩ := queues l
    obtain ⟨dial, locked⟩ := tones l
    exact ⟨⟨low, high, count⟩, queue, collecting, failures, dial, locked⟩

section
variable {c c' : CallRecord} {a b : Bool}

/-- A record in the same state, with no more entries and as many failures, keeps the bounds. -/
theorem CallRecord.Sound.of_le (h : c.Sound a b) (state : c'.state = c.state)
    (queue : c'.queue.length ≤ c.queue.length) (failures : c'.failures = c.failures) : c'.Sound a b where
  queue := queue.trans h.queue
  collecting := fun hc => queue.trans_lt (h.collecting (state ▸ hc))
  failures := failures ▸ h.failures
  dial := fun on => state ▸ h.dial on
  locked := fun on => state ▸ h.locked on

/-- The lockout output of a line is off in every state but LOCKOUT and BLOCKED (R64). -/
theorem CallRecord.Sound.unlocked (h : c.Sound a b) (lockout : c.state ≠ .lockout) (blocked : c.state ≠ .blocked) :
    b = false := by
  cases b with
  | false => rfl
  | true => exact absurd (h.locked rfl) (by simp [lockout, blocked])

/-- Local dial tone is off outside the decoding states (R63). -/
theorem CallRecord.Sound.undialled (h : c.Sound a b) (idle : c.state.decoding = false) : a = false := by
  cases a with
  | false => rfl
  | true => exact absurd (h.dial rfl) (by simp [idle])

/-- A decoding state that is not COLLECTING, and the lockout output off, ask of a record its queue and failures alone. -/
theorem CallRecord.sound_of_decoding (decoding : c.state.decoding = true) (collecting : c.state ≠ .collecting)
    (queue : c.queue.length ≤ 24) (failures : c.failures ≤ 2) : c.Sound a false :=
  ⟨queue, fun h => absurd h collecting, failures, fun _ => decoding, nofun⟩

/-- With both outputs off an empty record is within its bounds in every state. -/
theorem CallRecord.sound_of_empty (queue : c.queue = []) (failures : c.failures = 0) : c.Sound false false :=
  ⟨by simp [queue], by simp [queue], by simp [failures], nofun, nofun⟩

/-- An IDLE line may become BLOCKED, whatever its lockout output. -/
theorem CallRecord.Sound.blocked (h : c.Sound a b) (idle : c.state = .idle) :
    { c with state := .blocked }.Sound a b := by
  have silent := h.undialled (by simp [idle, CallState.decoding])
  exact ⟨h.queue, nofun, h.failures, by simp [silent], fun _ => .inr rfl⟩

/-- A BLOCKED line may become IDLE with its lockout output off. -/
theorem CallRecord.Sound.unblocked (h : c.Sound a b) (blocked : c.state = .blocked) :
    { c with state := .idle }.Sound a false := by
  have silent := h.undialled (by simp [blocked, CallState.decoding])
  exact ⟨h.queue, nofun, h.failures, by simp [silent], nofun⟩
end

/-! ## Records written twice, and entries by call state -/

section
variable {s : State} {l : Line}

theorem State.setCall_setCall (c d : CallRecord) : (s.setCall l c).setCall l d = s.setCall l d := by
  simp [State.setCall]

theorem State.setCall_self : s.setCall l (s.call l) = s := by
  simp [State.setCall, State.call]

/-- A HUNTING, SEIZING or DIALLING call takes an entry unless it is spoiled, and has it overflow at 24 (R46, R49, R59). -/
theorem State.handEntry_calling {e : Entry}
    (calling : (s.call l).state = .hunting ∨ (s.call l).state = .seizing ∨ (s.call l).state = .dialling) :
    s.handEntry l e =
      if (s.call l).spoiled then s
      else if (s.call l).queue.length < 24 then (s.joinQueue l e).settleSenders
      else s.setCall l { s.call l with overflow := true, overflows := counted (s.call l).overflows } := by
  unfold State.handEntry
  rcases calling with h | h | h <;> simp [h]
end

/-! ## Updates of one line, and of none -/

section
variable {s t : State}

/-- What touches no decoder, no call and no line output keeps the bounds. -/
theorem State.LinesSound.of_same (h : s.LinesSound)
    (same : t.dec = s.dec ∧ t.calls = s.calls ∧ t.ldt = s.ldt ∧ t.lko = s.lko) : t.LinesSound := by
  obtain ⟨dec, calls, ldt, lko⟩ := same
  simpa only [State.LinesSound, State.decoder, State.call, dec, calls, ldt, lko] using h

/-- What touches one line alone, and leaves it its bounds, keeps the bounds. -/
theorem State.LinesSound.of_line (h : s.LinesSound) (l : Line)
    (others : ∀ m, m ≠ l →
      t.decoder m = s.decoder m ∧ t.call m = s.call m ∧ t.ldt[m] = s.ldt[m] ∧ t.lko[m] = s.lko[m])
    (decoder : (t.decoder l).Sound) (call : (t.call l).Sound t.ldt[l] t.lko[l]) : t.LinesSound := by
  intro m
  by_cases hm : m = l
  · subst hm
    exact ⟨decoder, call⟩
  · obtain ⟨dec, calls, ldt, lko⟩ := others m hm
    rw [dec, calls, ldt, lko]
    exact h m

theorem State.LinesSound.setDec (h : s.LinesSound) {l : Line} {d : Decoder} (sound : d.Sound) :
    (s.setDec l d).LinesSound :=
  h.of_line l (fun m hm => by simp [hm]) (by simpa using sound) (by simpa using (h l).2)

theorem State.LinesSound.setCall (h : s.LinesSound) {l : Line} {c : CallRecord} (sound : c.Sound s.ldt[l] s.lko[l]) :
    (s.setCall l c).LinesSound :=
  h.of_line l (fun m hm => by simp [hm]) (by simpa using (h l).1) (by simpa using sound)

theorem State.LinesSound.setLdt_off (h : s.LinesSound) (l : Line) : (s.setLdt l false).LinesSound := by
  have call := (h l).2
  exact h.of_line l (fun m hm => by simp [hm]) (by simpa using (h l).1)
    (by simpa using ⟨call.queue, call.collecting, call.failures, nofun, call.locked⟩)

/-- A line in LOCKOUT or BLOCKED may have its lockout output either way. -/
theorem State.LinesSound.setLko (h : s.LinesSound) {l : Line} {on : Bool}
    (locked : on = true → (s.call l).state = .lockout ∨ (s.call l).state = .blocked) : (s.setLko l on).LinesSound := by
  have call := (h l).2
  exact h.of_line l (fun m hm => by simp [hm]) (by simpa using (h l).1)
    (by simpa using ⟨call.queue, call.collecting, call.failures, call.dial, locked⟩)

/-- A record and the two outputs of its line change together. -/
theorem State.LinesSound.setCallTones (h : s.LinesSound) {l : Line} {c : CallRecord} {a b : Bool} (sound : c.Sound a b) :
    (((s.setCall l c).setLdt l a).setLko l b).LinesSound :=
  h.of_line l (fun m hm => by simp [hm]) (by simpa using (h l).1) (by simpa using sound)

theorem State.LinesSound.stopDecoder (h : s.LinesSound) (l : Line) : (s.stopDecoder l).LinesSound :=
  h.setDec (h l).1.emptied
end

/-! ## The senders -/

section
variable {s : State} (h : s.LinesSound) (l : Line)
include h

theorem State.LinesSound.toneOff : (s.toneOff l).LinesSound := by
  refine State.LinesSound.setLdt_off (h.setCall ?_) l
  exact (h l).2.of_le rfl le_rfl rfl

theorem State.LinesSound.connectAudio : (s.connectAudio l).LinesSound := by
  have connected : (s.setCall l { s.call l with audio := true }).LinesSound :=
    h.setCall ((h l).2.of_le rfl le_rfl rfl)
  unfold State.connectAudio
  dsimp only
  split
  · split
    · exact (connected.toneOff l).of_same (by simp)
    · exact connected.toneOff l
  · exact h

theorem State.LinesSound.removeHead : (s.removeHead l).LinesSound := by
  have removed : (s.setCall l { s.call l with
      queue := (s.call l).queue.tail, firstDigitSent := true, dialTimer := (s.call l).dialTimer.halted }).LinesSound :=
    h.setCall ((h l).2.of_le rfl (by simp) rfl)
  unfold State.removeHead
  dsimp only
  split
  · exact removed.connectAudio l
  · exact removed

theorem State.LinesSound.identityEnded : (s.identityEnded l).LinesSound := by
  have ended : (s.setCall l { s.call l with identitySent := true }).LinesSound :=
    h.setCall ((h l).2.of_le rfl le_rfl rfl)
  unfold State.identityEnded
  dsimp only
  split
  · exact ended.connectAudio l
  · exact ended

theorem State.LinesSound.spoil : (s.spoil l).LinesSound := by
  refine State.LinesSound.connectAudio (h.setCall ?_) l
  exact (h l).2.of_le rfl (Nat.zero_le _) rfl

theorem State.LinesSound.nextCode (i : Fin 2) (t : Trunk) : (s.nextCode i l t).LinesSound := by
  unfold State.nextCode
  dsimp only
  split
  · exact h.of_same (by simp)
  · split
    · split
      · exact h.of_same (by simp)
      · split
        · exact h.of_same (by simp)
        · exact h.of_same (by simp)
        · exact (h.spoil l).of_same (by simp)
    · exact h.of_same (by simp)

omit l
theorem State.LinesSound.codeBoundary (i : Fin 2) : (s.codeBoundary i).LinesSound := by
  unfold State.codeBoundary
  split
  · rename_i l t _ _
    have removed : (if (s.sender i).source = some .entry then s.removeHead l else s).LinesSound := by
      split
      · exact h.removeHead l
      · exact h
    dsimp only
    refine State.LinesSound.nextCode ?_ l i t
    split
    · exact removed.identityEnded l
    · exact removed
  · exact h

theorem State.LinesSound.grant (i : Fin 2) (l : Line) : (s.grant i l).LinesSound := by
  unfold State.grant
  split
  · exact h
  · exact State.LinesSound.codeBoundary (h.of_same (by simp)) i
end

theorem settleRounds_linesSound (n : Nat) {s : State} (h : s.LinesSound) : (settleRounds n s).LinesSound := by
  induction n generalizing s with
  | zero => exact h.of_same (by simp [settleRounds])
  | succ n ih =>
    have refreshed : s.refreshRequests.LinesSound := h.of_same (by simp)
    unfold settleRounds
    dsimp only
    split
    · exact ih (refreshed.grant _ _)
    · exact refreshed

/-! ## The Hunt Unit -/

section
variable {s : State} (h : s.LinesSound)
include h

theorem State.LinesSound.settleSenders : s.settleSenders.LinesSound := settleRounds_linesSound 10 h

/-- A HUNTING line may become SEIZING. -/
theorem State.LinesSound.seizeForLine (t : Trunk) {l : Line} (hunting : (s.call l).state = .hunting) :
    (s.seizeForLine t l).LinesSound := by
  have seized : (s.seizeTrunk t (.line l)).LinesSound := h.of_same (by simp)
  have call : (s.seizeTrunk t (.line l)).call l = s.call l := by simp [State.call]
  have old := (seized l).2
  have unlocked := old.unlocked (by simp [call, hunting]) (by simp [call, hunting])
  refine seized.setCall ?_
  rw [unlocked]
  exact CallRecord.sound_of_decoding rfl (by simp) old.queue old.failures

theorem State.LinesSound.judgeIsolated : s.judgeIsolated.LinesSound := by
  unfold State.judgeIsolated
  split
  · split
    · rename_i l _ _ taken
      refine State.LinesSound.seizeForLine (h.of_same (by simp)) _ ?_
      simpa [State.call] using taken.1
    · exact h
  · exact h

theorem State.LinesSound.judge : s.judge.LinesSound := by
  unfold State.judge
  split
  · exact h.of_same (by simp)
  · exact h.judgeIsolated
  · exact h

theorem State.LinesSound.settle : s.settle.LinesSound := h.judge.settleSenders
end

/-! ## Calls -/

section
variable {s : State} (h : s.LinesSound) (l : Line)
include h

/-- A call may start where the lockout output is off (R44). -/
theorem State.LinesSound.startCall (unlocked : s.lko[l] = false) : (s.startCall l).LinesSound := by
  obtain ⟨call, _, decoder, _⟩ := s.callStarts_startCall l
  have others := s.othersStand_startCall l
  refine h.of_line l (fun m hm => ?_) ?_ ?_
  · obtain ⟨_, dec, lko⟩ := others.1 m hm
    obtain ⟨calls, _, _, ldt⟩ := s.lineStands_startCall l hm
    exact ⟨dec, calls, ldt, lko⟩
  · rw [decoder]
    exact (h l).1.takeOver _
  · have off : (s.startCall l).lko[l] = false := by simpa using unlocked
    rw [call, off]
    unfold State.startedCall
    cases s.ctl.straps.mode <;> exact ⟨by simp [CallRecord.reset], by simp [CallRecord.reset],
      by simp [CallRecord.reset], by simp [CallState.decoding], nofun⟩

/-- LOCKOUT turns local dial tone off and the lockout output on, with the queue empty (R60). -/
theorem State.LinesSound.lockout : (s.lockout l).LinesSound := by
  have locked := h.setCallTones (l := l) (a := false) (b := true) (c := { s.call l with
      state := .lockout, trunk := none, queue := [], audio := false, localTone := false, huntTimer := none,
      dialTimer := .stopped, firstTimer := none, lockouts := counted (s.call l).lockouts })
    ⟨Nat.zero_le _, nofun, (h l).2.failures, nofun, fun _ => .inl rfl⟩
  exact (locked.stopDecoder l).of_same (by simp [State.lockout])

/-- A line with its outputs off, its record empty and its decoder stopped is within its bounds in any state. -/
theorem State.LinesSound.endCall {c : CallRecord} (queue : c.queue = []) (failures : c.failures = 0) :
    (((((s.setCall l c).setLdt l false).setLko l false).stopDecoder l).endGuard l).LinesSound :=
  State.LinesSound.of_same ((h.setCallTones (l := l) (CallRecord.sound_of_empty queue failures)).stopDecoder l)
    (by simp)

/-- The clear turns both outputs off and leaves the line IDLE or BLOCKED with its queue empty (R61). -/
theorem State.LinesSound.clearCall : (s.clearCall l).LinesSound := by
  unfold State.clearCall
  dsimp only
  split
  · exact State.LinesSound.endCall (h.of_same (by simp)) l rfl rfl
  · exact State.LinesSound.endCall (h.of_same (by simp)) l rfl rfl

/-- A decoding line whose lockout output is off may go on to HUNTING with the queue it has (R48, R50). -/
theorem State.LinesSound.enterHunting_setCall {c : CallRecord} (unlocked : s.lko[l] = false)
    (queue : c.queue.length ≤ 24) (failures : c.failures ≤ 2) : ((s.setCall l c).enterHunting l).LinesSound := by
  rw [State.enterHunting, State.setCall_call, if_pos rfl, State.setCall_setCall]
  refine State.LinesSound.of_same (h.setCall (l := l) ?_) (by simp; rfl)
  rw [unlocked]
  exact CallRecord.sound_of_decoding rfl (by simp) queue failures

theorem State.LinesSound.enterHunting (collecting : (s.call l).state = .collecting) :
    (s.enterHunting l).LinesSound := by
  have old := (h l).2
  have hunted := h.enterHunting_setCall l (c := s.call l)
    (old.unlocked (by simp [collecting]) (by simp [collecting])) old.queue old.failures
  rwa [State.setCall_self] at hunted

/-- A SEIZING call goes back to HUNTING below the third failure (R50, R156). -/
theorem State.LinesSound.callFailed : (s.callFailed l).LinesSound := by
  have old := (h l).2
  unfold State.callFailed
  dsimp only
  split
  · rename_i seizing
    split
    · rename_i below
      refine State.LinesSound.of_same (h.setCall (l := l) ?_) (by simp; rfl)
      rw [old.unlocked (by simp [seizing]) (by simp [seizing])]
      exact CallRecord.sound_of_decoding rfl (by simp) old.queue (by simp; omega)
    · exact h.lockout l
  · exact h

/-! ## Entries and edges -/

theorem State.LinesSound.joinQueue (e : Entry)
    (calling : (s.call l).state = .hunting ∨ (s.call l).state = .seizing ∨ (s.call l).state = .dialling)
    (room : (s.call l).queue.length < 24) : (s.joinQueue l e).LinesSound := by
  have old := (h l).2
  have waits : (s.call l).state ≠ .collecting := by rcases calling with h | h | h <;> simp [h]
  exact h.setCall ⟨by simpa using room, fun hc => absurd hc waits, old.failures, old.dial, old.locked⟩

theorem State.LinesSound.handEntry (e : Entry) : (s.handEntry l e).LinesSound := by
  have old := (h l).2
  by_cases calling : (s.call l).state = .hunting ∨ (s.call l).state = .seizing ∨ (s.call l).state = .dialling
  · rw [State.handEntry_calling calling]
    split
    · exact h
    · split
      · exact (h.joinQueue l e calling ‹_›).settleSenders
      · exact h.setCall (old.of_le rfl le_rfl rfl)
  · unfold State.handEntry
    dsimp only
    split
    · rename_i collecting
      have short := old.collecting collecting
      split
      · split
        · refine (h.enterHunting_setCall l ?_ ?_ ?_).settle
          · exact old.unlocked (by simp [collecting]) (by simp [collecting])
          · simp; omega
          · exact old.failures
        · exact h.setCall ⟨by simp; omega, fun _ => by simp; omega, old.failures, old.dial, old.locked⟩
      · exact h.lockout l
      · exact h
    all_goals simp_all

theorem State.LinesSound.takeDecoded {r : Decoded} (sound : r.dec.Sound) : (s.takeDecoded l r).LinesSound := by
  have told : (if r.notice then (s.setDec l r.dec).toneOff l else s.setDec l r.dec).LinesSound := by
    split
    · exact State.LinesSound.toneOff (h.setDec sound) l
    · exact h.setDec sound
  unfold State.takeDecoded
  dsimp only
  split
  · exact told.handEntry l _
  · exact told

theorem State.LinesSound.handEdge (edge : Loop) : (s.handEdge l edge).LinesSound := by
  unfold State.handEdge
  split
  · exact h.of_same (by simp)
  · exact h.setLko fun _ => .inr ‹_›
  · exact h
  · split
    · exact h.takeDecoded l ((h l).1.closedEdge _ _)
    · exact h.setDec ((h l).1.openEdge _)

theorem State.LinesSound.applySample (present : Bool) : (s.applySample l present).LinesSound := by
  unfold State.applySample
  dsimp only
  split
  · exact h.of_same (by simp)
  · exact State.LinesSound.handEdge (h.of_same (by simp)) l _

/-! ## Marks -/

theorem State.LinesSound.offHookMark : (s.offHookMark l).LinesSound := by
  have marked : (s.setScan l { s.scanLine l with guard := .marked }).LinesSound := h.of_same (by simp)
  unfold State.offHookMark
  dsimp only
  split
  · split
    · rename_i idle
      split
      · refine (marked.startCall l ?_).settle
        exact (h l).2.unlocked (by simp [idle.1]) (by simp [idle.1])
      · exact marked
    · exact h
  · exact h

theorem State.LinesSound.clearMark : (s.clearMark l).LinesSound := by
  unfold State.clearMark
  split
  · exact (h.clearCall l).settle
  · exact h

theorem State.LinesSound.thresholdMark : (s.thresholdMark l).LinesSound := by
  unfold State.thresholdMark
  split
  · exact h.takeDecoded l ((h l).1.complete _)
  · exact h

theorem State.LinesSound.takeMarks : (s.takeMarks l).LinesSound :=
  ((h.offHookMark l).clearMark l).thresholdMark l

/-! ## Maintenance of a line -/

/-- An IDLE line becomes BLOCKED, its lockout output following the loop; a call is only marked (R62, R209). -/
theorem State.LinesSound.blockLine : (s.blockLine l).LinesSound := by
  have old := (h l).2
  unfold State.blockLine
  dsimp only
  split
  · rename_i idle
    have blocked : (s.setCall l { s.call l with state := .blocked }).LinesSound := h.setCall (old.blocked idle)
    have closed := blocked.setLko (l := l) (on := (s.scanLine l).loop = .closed) fun _ => .inr (by simp)
    exact closed.of_same (by simp)
  · exact h
  · exact h.setCall (old.of_le rfl le_rfl rfl)

/-- A BLOCKED line becomes IDLE with its lockout output off (R12, R62). -/
theorem State.LinesSound.unblockLine : (s.unblockLine l).LinesSound := by
  have old := (h l).2
  unfold State.unblockLine
  dsimp only
  split
  · rename_i blocked
    refine h.of_line l (fun m hm => by simp [hm]) (by simpa using (h l).1) ?_
    simpa using old.unblocked blocked
  · exact h
  · exact h.setCall (old.of_le rfl le_rfl rfl)

theorem State.LinesSound.clearLineCounts : (s.clearLineCounts l).LinesSound := by
  unfold State.clearLineCounts
  refine State.LinesSound.setCall (State.LinesSound.setDec (h.of_same (by simp)) (h l).1.cleared) ?_
  exact (h l).2.of_le rfl le_rfl rfl
end
end Sys2Proof.Machine
end

section
/-! Dial pulse decoding: the bounds of the lines, kept by Station Control, the link, the frames heard, the maintenance
commands and the trunks. -/

namespace Sys2Proof.Machine
open Sys2Proof

/-! ## Resets, halts and the entries of Station Control -/

/-- Calls may start one after another on lines whose lockout outputs are off (R8). -/
theorem startCalls_linesSound {lines : List Line} {s : State} (h : s.LinesSound) (unlocked : ∀ l ∈ lines, s.lko[l] = false) :
    (lines.foldl State.startCall s).LinesSound := by
  induction lines generalizing s with
  | nil => exact h
  | cons l rest ih =>
    refine ih (h.startCall l (unlocked l List.mem_cons_self)) fun m hm => ?_
    simpa using unlocked m (List.mem_cons_of_mem l hm)

section
variable {s : State} (h : s.LinesSound)
include h

/-- The lines re-offered are IDLE, so their lockout outputs are off (R8, R64). -/
theorem State.LinesSound.reoffer : s.reoffer.LinesSound := by
  have started := startCalls_linesSound (lines := s.reoffers) h fun l hl => by
    have idle : (s.call l).state = .idle := by
      have offered := State.mem_reoffers.1 hl
      simp only [State.reofferable, Bool.and_eq_true, decide_eq_true_eq] at offered
      exact offered.1.1
    exact (h l).2.unlocked (by simp [idle]) (by simp [idle])
  exact started.of_same ⟨rfl, rfl, rfl, rfl⟩

theorem State.LinesSound.enterActive : s.enterActive.LinesSound :=
  State.LinesSound.settle (State.LinesSound.reoffer (h.of_same (by simp)))

theorem State.LinesSound.enterIsolated : s.enterIsolated.LinesSound := by
  have isolating : s.isolating.LinesSound := h.of_same (by simp [State.isolating])
  rw [State.enterIsolated_eq]
  split
  · exact isolating.reoffer
  · exact isolating

/-- With every line output off a station keeps the bounds of its calls and decoders (R205, R207). -/
theorem State.LinesSound.silenced {t : State} (dec : t.dec = s.dec) (calls : t.calls = s.calls)
    (ldt : t.ldt = Vector.replicate 8 false) (lko : t.lko = Vector.replicate 8 false) : t.LinesSound := by
  intro l
  have call := (h l).2
  have decoder : t.decoder l = s.decoder l := by simp [State.decoder, dec]
  have record : t.call l = s.call l := by simp [State.call, calls]
  rw [decoder, record, ldt, lko]
  refine ⟨(h l).1, call.queue, call.collecting, call.failures, ?_, ?_⟩ <;> simp

theorem State.LinesSound.beginReset : s.beginReset.LinesSound := h.silenced rfl rfl rfl rfl

theorem State.LinesSound.halt (st : StationState) : (s.halt st).LinesSound :=
  h.silenced (by simp) (by simp) (by simp [State.halt]) (by simp [State.halt])
end

/-- The end of a reset leaves every line at its reset values (R14, R40, R66). -/
theorem State.endReset_linesSound (s : State) (pins : BitVec 15) : (s.endReset pins).LinesSound := by
  obtain ⟨profiles, queues, tones, _⟩ := State.reset_linesSound
  have reset : State.reset.LinesSound := (State.linesSound_iff _).2 ⟨profiles, queues, tones⟩
  have cleared : (s.cleared (readStraps pins)).LinesSound := reset.of_same ⟨rfl, rfl, rfl, rfl⟩
  unfold State.endReset
  dsimp only
  split
  · exact cleared.halt _
  · exact cleared

/-! ## The link -/

section
variable {s : State} (h : s.LinesSound)
include h

theorem State.LinesSound.setLink (k : Link) : (s.setLink k).LinesSound := h.of_same (by simp)

theorem State.LinesSound.receiveFails (m : Nat) : (s.receiveFails m).LinesSound := by
  have counted : ((s.setLink (s.link.recessive m).waitEof).countRx).LinesSound := h.of_same (by simp)
  unfold State.receiveFails
  dsimp only
  split
  · exact counted.beginReset
  · exact counted

theorem State.LinesSound.transmitFails (m : Nat) : (s.transmitFails m).LinesSound := by
  unfold State.transmitFails
  dsimp only
  split
  · exact State.LinesSound.enterIsolated (h.of_same (by simp))
  · exact State.LinesSound.settle (h.of_same (by simp))

theorem State.LinesSound.wireError (m : Nat) : (s.wireError m).LinesSound := by
  unfold State.wireError
  split
  · exact h.transmitFails m
  · exact h.receiveFails m

theorem State.LinesSound.signalFails (m : Nat) : (s.signalFails m).LinesSound := by
  unfold State.signalFails
  dsimp only
  split
  · exact h.wireError m
  · split
    · exact (h.setLink _).halt _
    · exact h.setLink _
  · exact h

theorem State.LinesSound.replyEod : s.replyEod.LinesSound :=
  State.replyEod_keeps (fun _ k hs _ => hs.setLink k) (fun _ m hs => hs.signalFails m) h

theorem State.LinesSound.readWire (level : Bool) : (s.readWire level).LinesSound :=
  State.readWire_keeps (fun _ k hs _ => hs.setLink k) (fun _ m hs => hs.signalFails m) level h

theorem State.LinesSound.startTestFrame : s.startTestFrame.LinesSound := by
  unfold State.startTestFrame
  split
  · exact h.of_same (by simp)
  · exact h

theorem State.LinesSound.startFrame (joining : Bool) : (s.startFrame joining).LinesSound := by
  unfold State.startFrame
  split
  · split
    · exact h
    · dsimp only
      split <;> exact h.of_same (by simp)
  · exact h

/-! ## Frames heard -/

/-- A frame heard is handed on or ends in an error (R94). -/
theorem State.LinesSound.hear {bytes : List Byte} {handOn : LinkFrame → State → State}
    (handed : ∀ f, (handOn f s).LinesSound) : (s.hear bytes handOn).LinesSound := by
  unfold State.hear
  split
  · split
    · exact handed _
    · exact h.wireError _
  · exact h

theorem State.LinesSound.fromPeer (p : Slot) (t : Trunk) {apply : State → State}
    (applied : ∀ u : State, u.LinesSound → (apply u).LinesSound) : (s.fromPeer p t apply).LinesSound := by
  unfold State.fromPeer
  dsimp only
  split
  · exact applied _ (h.of_same (by simp))
  · exact h.of_same (by simp)

theorem State.LinesSound.handToView (p : Slot) (bytes : List Byte) {peers : State → State}
    (applied : ∀ u : State, u.LinesSound → (peers u).LinesSound) : (s.handToView p bytes peers).LinesSound := by
  have read := h.setLink { s.link.afterData bytes false s.now with own := none }
  unfold State.handToView
  dsimp only
  split
  · split
    · exact read
    · exact read.halt _
  · exact (applied _ read).settle

/-- A yield ends in LOCKOUT of the session's call, or touches no line (R120, R162). -/
theorem State.LinesSound.yieldTo (t : Trunk) (p : Slot) : (s.yieldTo t p).LinesSound := by
  unfold State.yieldTo
  dsimp only
  split
  · exact h.of_same (by simp)
  · split
    · exact State.LinesSound.lockout (h.of_same (by simp)) _
    · exact h.of_same (by simp)

theorem State.LinesSound.dualHold (t : Trunk) (p : Slot) : (s.dualHold t p).LinesSound := by
  have counted : s.countDual.LinesSound := h.of_same (by simp)
  unfold State.dualHold
  dsimp only
  split
  · exact counted
  · exact counted.yieldTo t p

theorem State.LinesSound.learnHeld (t : Trunk) (p : Slot) : (s.learnHeld t p).LinesSound := by
  unfold State.learnHeld
  split
  · exact h.dualHold t p
  · split
    · exact h
    · exact h.of_same (by simp)
  · exact h.of_same (by simp)

theorem State.LinesSound.applyPlace (p : Slot) (held retired : Bool) (t : Trunk) :
    (s.applyPlace p held retired t).LinesSound := by
  have placed : (if held then s.learnHeld t p
      else if (s.entry t).isHeldBy p then s.setEntry t ((s.entry t).freed s.scanTime) else s).LinesSound := by
    split
    · exact h.learnHeld t p
    · split
      · exact h.of_same (by simp)
      · exact h
  unfold State.applyPlace
  dsimp only
  split <;> exact placed.of_same (by simp)

theorem State.LinesSound.applyReport (p : Slot) (count : Nat) (held retired : Byte) (mismatch : Bool) :
    (s.applyReport p count held retired mismatch).LinesSound := by
  have mapped (trunks : List Trunk) {u : State} (hu : u.LinesSound) :
      (trunks.foldl (fun s t => s.applyPlace p (mapHas held t) (mapHas retired t) t) u).LinesSound := by
    induction trunks generalizing u with
    | nil => exact hu
    | cons t rest ih => exact ih (hu.applyPlace p _ _ t)
  have refreshed : (s.refresh p).LinesSound := h.of_same (by simp)
  exact (mapped ((List.finRange 8).filter (s.refresh p).fitted) refreshed).of_same (by simp [State.applyReport])

theorem State.LinesSound.applyObjection (t : Trunk) (code : Nat) (o : Slot) : (s.applyObjection t code o).LinesSound := by
  unfold State.applyObjection
  split
  · exact h
  · split
    · exact h.learnHeld t o
    · exact h.of_same (by simp)

/-! ## Claims -/

/-- A HUNTING line is seized for, or goes back to the hunt queue (R142, R154). -/
theorem State.LinesSound.handLine (t : Trunk) {l : Line} (hunting : (s.call l).state = .hunting) :
    (s.handLine t l).LinesSound := by
  unfold State.handLine
  dsimp only
  split
  · exact h.of_same (by simp)
  · exact State.LinesSound.seizeForLine (h.of_same (by simp)) t (by simpa [State.call] using hunting)

theorem State.LinesSound.ownEffective (c : Claim) (line : Option Line) : (s.ownEffective c line).LinesSound := by
  have owned : (((s.raiseCount c.trunk).makeOwn c.trunk line).setHunt { s.hunt with claim := none }).LinesSound :=
    h.of_same (by simp)
  unfold State.ownEffective
  dsimp only
  split
  · split
    · exact owned.handLine c.trunk ‹_›
    · exact owned.of_same (by simp)
  · exact owned.of_same (by simp)
  · exact owned.of_same (by simp)

theorem State.LinesSound.ownWithoutEffect (c : Claim) : (s.ownWithoutEffect c).LinesSound := h.of_same (by simp)

theorem State.LinesSound.ownClaim (t : Trunk) (line : Option Line) (outcome : ClaimOutcome) :
    (s.ownClaim t line outcome).LinesSound := by
  have sent : s.claimSent.LinesSound := h.of_same (by simp)
  unfold State.ownClaim
  dsimp only
  split
  · exact sent
  · split
    · split
      · exact (sent.ownEffective _ line).settle
      · refine State.LinesSound.settle (State.LinesSound.ownWithoutEffect (State.LinesSound.applyObjection ?_ t _ _) _)
        exact sent.of_same (by simp)
      · exact (sent.ownWithoutEffect _).settle
    · exact sent

theorem State.LinesSound.peerClaim (p : Slot) (t : Trunk) (line : Option Line) (outcome : ClaimOutcome) (driven : Bool) :
    (s.peerClaim p t line outcome driven).LinesSound := by
  unfold State.peerClaim
  split
  · exact (h.fromPeer p t fun u hu => hu.of_same (by simp)).settle
  · split
    · exact h.halt _
    · refine State.LinesSound.settle (State.LinesSound.fromPeer (h.of_same (by simp)) p t fun u hu => ?_)
      exact hu.applyObjection t _ _
  · exact h

omit h in
/-- What the marker decides of a CLAIM at its EOF, once the receiver has taken the EOF (R97, R198). -/
theorem State.claimJudged_linesSound {u : State} (hu : u.LinesSound) (p : Slot) (t : Trunk) (line : Option Line)
    (outcome : ClaimOutcome) (marker driven : Bool) :
    (if p = u.slot then
      if marker then u.ownClaim t line outcome else if outcome = .refused then u else u.halt .slotConflict
    else u.peerClaim p t line outcome driven).LinesSound := by
  split
  · split
    · exact hu.ownClaim t line outcome
    · split
      · exact hu
      · exact hu.halt _
  · exact hu.peerClaim p t line outcome driven

theorem State.LinesSound.claimAtEof (p : Slot) (t : Trunk) (line : Option Line) (outcome : ClaimOutcome) :
    (s.claimAtEof p t line outcome).LinesSound := by
  refine State.claimJudged_linesSound ?_ p t line outcome s.link.own.isSome s.link.replyDriven
  split <;> exact h.of_same (by simp)

/-! ## Maintenance -/

theorem State.LinesSound.answer (target : Slot) (bytes reply : List Byte) (kind : ReplyKind) :
    (s.answer target bytes reply kind).LinesSound := by
  unfold State.answer
  split <;> exact h.of_same (by simp)

theorem State.LinesSound.commandHeard (slot : HeaderSlot) (target code arg check : Byte) :
    (s.commandHeard slot target code arg check).LinesSound := by
  unfold State.commandHeard
  refine h.hear fun f => ?_
  dsimp only
  split
  · exact h.answer _ _ _ _
  · exact h

theorem State.LinesSound.retireTrunk (t : Trunk) : (s.retireTrunk t).LinesSound := by
  unfold State.retireTrunk
  split
  · exact h
  · split
    · split
      · exact h.of_same (by simp)
      · exact h
    · exact State.LinesSound.settle (h.of_same (by simp))

theorem State.LinesSound.restoreTrunk (t : Trunk) : (s.restoreTrunk t).LinesSound := by
  unfold State.restoreTrunk
  split
  · exact State.LinesSound.settle (h.of_same (by simp))
  · split
    · exact h.of_same (by simp)
    · exact h

theorem State.LinesSound.clearAllCounts : s.clearAllCounts.LinesSound := by
  have cleared (lines : List Line) {u : State} (hu : u.LinesSound) :
      (lines.foldl State.clearLineCounts u).LinesSound := by
    induction lines generalizing u with
    | nil => exact hu
    | cons l rest ih => exact ih (hu.clearLineCounts l)
  exact (cleared (List.finRange 8) h).of_same (by simp [State.clearAllCounts])

theorem State.LinesSound.carryOut (code arg : Byte) : (s.carryOut code arg).LinesSound := by
  unfold State.carryOut
  split
  · exact h.blockLine _
  · exact h.unblockLine _
  · exact h.retireTrunk _
  · exact h.restoreTrunk _
  · exact h.setDec (h _).1.resetProfile
  · exact h.clearLineCounts _
  · exact h.clearAllCounts
  · exact h.of_same (by simp)
  · exact h

theorem State.LinesSound.replyWasSent (r : Reply) : (s.replyWasSent r).LinesSound := by
  unfold State.replyWasSent
  dsimp only
  split
  · split
    · exact h.setLink _
    · exact (h.setLink _).carryOut _ _
  · exact h.setLink _

/-! ## Trunks -/

theorem State.LinesSound.seizureFails (t : Trunk) (l : Line) : (s.seizureFails t l).LinesSound := by
  unfold State.seizureFails
  dsimp only
  split <;> exact (State.LinesSound.callFailed (h.of_same (by simp)) l).settle

theorem State.LinesSound.probeFails (t : Trunk) : (s.probeFails t).LinesSound :=
  State.LinesSound.settle (h.of_same (by simp))

theorem State.LinesSound.probeAnswered (t : Trunk) : (s.probeAnswered t).LinesSound := by
  unfold State.probeAnswered
  dsimp only
  split <;> exact State.LinesSound.settle (h.of_same (by simp))

/-- A SEIZING call becomes DIALLING (R155). -/
theorem State.LinesSound.dials (l : Line) :
    (if (s.call l).state = .seizing then s.setCall l { s.call l with state := .dialling } else s).LinesSound := by
  split
  · rename_i seizing
    have old := (h l).2
    refine h.setCall ?_
    rw [old.unlocked (by simp [seizing]) (by simp [seizing])]
    exact CallRecord.sound_of_decoding rfl (by simp) old.queue old.failures
  · exact h

theorem State.LinesSound.establish (t : Trunk) (ses : Session) (l : Line) : (s.establish t ses l).LinesSound :=
  State.LinesSound.settleSenders (State.LinesSound.dials (h.of_same (by simp)) l)

theorem State.LinesSound.switchCleared (t : Trunk) (l : Line) :
    (((s.endSession t .switchClear).lockout l).settle).LinesSound :=
  (State.LinesSound.lockout (h.of_same (by simp)) l).settle

theorem State.LinesSound.busyChanged (t : Trunk) (busy : Bool) : (s.busyChanged t busy).LinesSound := by
  unfold State.busyChanged
  dsimp only
  split <;> exact State.LinesSound.settle (h.of_same (by simp))

end
end Sys2Proof.Machine
end

section
/-! Dial pulse decoding: the bounds of the lines, kept by every command and every step. -/

namespace Sys2Proof.Machine
open Sys2Proof

/-! ## Commands that come under a condition -/

section
variable {s t : State} (h : s.LinesSound)
include h

theorem State.LinesSound.advance (w : Nat) : (s.advance w).LinesSound := h.of_same ⟨rfl, rfl, rfl, rfl⟩

/-- A command whose condition does not hold leaves the bounds, so its effect alone is to be judged. -/
theorem State.LinesSound.guarded {p : Prop} [Decidable p] (effect : p → t.LinesSound) :
    (if p then t else s).LinesSound := by
  split
  · exact effect ‹_›
  · exact h

theorem State.LinesSound.testEnds (start : Nat) (outcome : TestOutcome) : (s.testEnds start outcome).LinesSound := by
  unfold State.testEnds
  split
  · split
    · exact h.of_same (by simp)
    · exact h.of_same (by simp)
  · exact h.halt _
end

section
variable {s t : State} {w : Nat} (h : s.LinesSound)
include h

/-! ## Start-up -/

theorem execTestFrameOutcome_linesSound {outcome : TestOutcome} (e : execTestFrameOutcome w outcome s = .next t) :
    t.LinesSound := by
  refine State.act_keeps e h fun _ => ?_
  split
  · exact (h.advance w).guarded fun _ => (h.advance w).testEnds _ _
  · exact h.advance w

theorem execTestFrameTimeout_linesSound (e : execTestFrameTimeout w s = .next t) : t.LinesSound := by
  refine State.act_keeps e h fun _ => ?_
  split
  · exact (h.advance w).guarded fun _ => (h.advance w).halt _
  · exact h.advance w

/-! ## Lines -/

theorem execEndOfDiallingTimer_linesSound {l : Line} (e : execEndOfDiallingTimer w l s = .next t) : t.LinesSound := by
  refine State.act_keeps e h fun _ => ?_
  have now := h.advance w
  have expired : ((s.advance w).setCall l { (s.advance w).call l with dialTimer := .expired }).LinesSound :=
    now.setCall ((now l).2.of_le rfl le_rfl rfl)
  refine now.guarded fun _ => ?_
  split
  · exact (now.enterHunting l ‹_›).settle
  iterate 3 exact expired.settleSenders
  · exact now

/-! ## The link -/

theorem execFrameStart_linesSound {joining : Bool} (e : execFrameStart w joining s = .next t) : t.LinesSound := by
  refine State.act_keeps e h fun _ => ?_
  split
  · exact (h.advance w).startTestFrame
  · exact (h.advance w).startFrame joining
  · exact h.advance w

theorem execArbitrationLost_linesSound {k : Nat} (e : execArbitrationLost w k s = .next t) : t.LinesSound := by
  refine State.act_keeps e h fun _ => (h.advance w).guarded fun _ => ?_
  dsimp only
  split
  · exact State.LinesSound.settle ((h.advance w).of_same (by simp))
  · exact (h.advance w).setLink _

theorem execFrameSent_linesSound (e : execFrameSent w s = .next t) : t.LinesSound := by
  refine State.act_keeps e h fun _ => ?_
  have read := (h.advance w).replyEod
  dsimp only
  split
  · exact read
  · refine read.guarded fun _ => ?_
    split <;> exact read.of_same (by simp)

theorem execReplySent_linesSound (e : execReplySent w s = .next t) : t.LinesSound := by
  refine State.act_keeps e h fun _ => ?_
  split
  · exact h.advance w
  · exact (h.advance w).guarded fun _ => (h.advance w).replyWasSent _

theorem execStuckDominantAbort_linesSound (e : execStuckDominantAbort w s = .next t) : t.LinesSound := by
  refine State.act_keeps e h fun _ => (h.advance w).guarded fun _ => ?_
  have marked := (h.advance w).setLink
    { (s.advance w).link.dominantAt (s.advance w).now with stuckAbort := some (s.advance w).now }
  dsimp only
  split
  · exact marked.wireError _
  · exact marked.setLink _

theorem execFrameEof_linesSound (e : execFrameEof w s = .next t) : t.LinesSound := by
  refine State.act_keeps e h fun _ => ?_
  have read := (h.advance w).replyEod
  refine read.guarded fun _ => ?_
  dsimp only
  split
  · exact (read.setLink _).beginReset
  · exact read.setLink _

/-! ## Frames heard -/

theorem execRelease_linesSound {slot : HeaderSlot} {trunk cause check : Byte}
    (e : execRelease w slot trunk cause check s = .next t) : t.LinesSound := by
  refine State.act_keeps e h fun _ => (h.advance w).hear fun f => ?_
  split
  · exact (h.advance w).handToView _ _ fun u hu => hu.fromPeer _ _ fun v hv => hv.of_same (by simp)
  · exact h.advance w

theorem execRetire_linesSound {slot : HeaderSlot} {trunk cause check : Byte}
    (e : execRetire w slot trunk cause check s = .next t) : t.LinesSound := by
  refine State.act_keeps e h fun _ => (h.advance w).hear fun f => ?_
  split
  · exact (h.advance w).handToView _ _ fun u hu => hu.fromPeer _ _ fun v hv => hv.of_same (by simp)
  · exact h.advance w

theorem execRestore_linesSound {slot : HeaderSlot} {trunk check : Byte}
    (e : execRestore w slot trunk check s = .next t) : t.LinesSound := by
  refine State.act_keeps e h fun _ => (h.advance w).hear fun f => ?_
  split
  · exact (h.advance w).handToView _ _ fun u hu => hu.fromPeer _ _ fun v hv => hv.of_same (by simp)
  · exact h.advance w

theorem execReport_linesSound {slot : HeaderSlot} {count held retired flags check : Byte}
    (e : execReport w slot count held retired flags check s = .next t) : t.LinesSound := by
  refine State.act_keeps e h fun _ => (h.advance w).hear fun f => ?_
  split
  · refine (h.advance w).handToView _ _ fun u hu => ?_
    split
    · exact hu.of_same (by simp)
    · exact hu.applyReport _ _ _ _ _
  · exact h.advance w

theorem execObjection_linesSound {slot : HeaderSlot} {trunk line check : Byte}
    (e : execObjection w slot trunk line check s = .next t) : t.LinesSound := by
  refine State.act_keeps e h fun _ => (h.advance w).hear fun f => ?_
  dsimp only
  split
  · split <;> exact (h.advance w).setLink _
  · exact h.advance w

theorem execClaim_linesSound {slot : HeaderSlot} {trunk line check : Byte} {reply : Option (List Byte)}
    (e : execClaim w slot trunk line check reply s = .next t) : t.LinesSound := by
  refine State.act_keeps e h fun _ => ?_
  have read := (h.advance w).replyEod
  refine read.guarded fun _ => ?_
  dsimp only
  split
  · split
    · exact read.wireError _
    · exact read.claimAtEof _ _ _ _
  · exact read.wireError _

theorem execStatusRequest_linesSound {slot : HeaderSlot} {target page check : Byte}
    (e : execStatusRequest w slot target page check s = .next t) : t.LinesSound := by
  refine State.act_keeps e h fun _ => (h.advance w).hear fun f => ?_
  split
  · exact (h.advance w).answer _ _ _ _
  · exact h.advance w

theorem execUnlistedCommand_linesSound {slot : HeaderSlot} {target code arg check : Byte}
    (e : execUnlistedCommand w slot target code arg check s = .next t) : t.LinesSound := by
  refine State.act_keeps e h fun _ => ?_
  split
  · exact h.advance w
  · exact (h.advance w).commandHeard _ _ _ _ _

/-! ## The pool view and the Hunt Unit -/

theorem execProbeRequest_linesSound (e : execProbeRequest w s = .next t) : t.LinesSound := by
  refine State.act_keeps e h fun _ => ?_
  dsimp only
  split
  · exact h.advance w
  · refine (h.advance w).guarded fun _ => ?_
    split <;> exact (h.advance w).of_same (by simp)

/-! ## Trunks -/

theorem execTrunkInputSample_linesSound {v : Trunk} {pts clr busy : Bool}
    (e : execTrunkInputSample w v pts clr busy s = .next t) : t.LinesSound := by
  refine State.act_keeps e h fun _ => (h.advance w).guarded fun _ => ?_
  dsimp only
  split
  · exact (h.advance w).of_same (by simp)
  · split
    · exact (h.advance w).of_same (by simp)
    · exact State.LinesSound.busyChanged ((h.advance w).of_same (by simp)) v busy

theorem execProceedToSend_linesSound {v : Trunk} (e : execProceedToSend w v s = .next t) : t.LinesSound := by
  refine State.act_keeps e h fun _ => ?_
  split
  · exact h.advance w
  · refine (h.advance w).guarded fun _ => ?_
    split
    · exact (h.advance w).establish v _ _
    · exact (h.advance w).probeAnswered v
    · exact h.advance w

theorem execSwitchClear_linesSound {v : Trunk} (e : execSwitchClear w v s = .next t) : t.LinesSound := by
  refine State.act_keeps e h fun _ => ?_
  split
  · exact h.advance w
  · refine (h.advance w).guarded fun _ => ?_
    split
    · exact (h.advance w).seizureFails v _
    · exact (h.advance w).switchCleared v _
    · exact (h.advance w).switchCleared v _
    · exact (h.advance w).probeFails v
    · exact h.advance w

theorem execPtsTimer_linesSound {v : Trunk} (e : execPtsTimer w v s = .next t) : t.LinesSound := by
  refine State.act_keeps e h fun _ => ?_
  split
  · exact h.advance w
  · split
    · exact (h.advance w).guarded fun _ => (h.advance w).seizureFails v _
    · exact h.advance w

theorem execProbeTimer_linesSound {v : Trunk} (e : execProbeTimer w v s = .next t) : t.LinesSound := by
  refine State.act_keeps e h fun _ => ?_
  split
  · exact h.advance w
  · exact (h.advance w).guarded fun _ => (h.advance w).probeFails v

theorem execBreakTimer_linesSound {v : Trunk} (e : execBreakTimer w v s = .next t) : t.LinesSound := by
  refine State.act_keeps e h fun _ => ?_
  dsimp only
  split
  · exact h.advance w
  · exact (h.advance w).guarded fun _ => State.LinesSound.settleSenders ((h.advance w).of_same (by simp))

theorem execProbeInterval_linesSound {v : Trunk} (e : execProbeInterval w v s = .next t) : t.LinesSound := by
  refine State.act_keeps e h fun _ => (h.advance w).guarded fun _ => ?_
  split <;> exact (h.advance w).of_same (by simp)

theorem execCrosspointShiftEnd_linesSound (e : execCrosspointShiftEnd w s = .next t) : t.LinesSound := by
  unfold execCrosspointShiftEnd at e
  dsimp only at e
  split at e
  · cases e; exact h
  · split at e
    · cases e; exact h
    · split at e
      · cases e; exact h.of_same (by simp)
      · cases e; exact h

/-! ## Senders -/

theorem execToneSample_linesSound {i : Fin 2} (e : execToneSample w i s = .next t) : t.LinesSound := by
  refine State.act_keeps e h fun _ => ?_
  dsimp only
  split
  · exact (h.advance w).of_same (by simp)
  · exact h.advance w

theorem execRecallSilenceEnd_linesSound {i : Fin 2} (e : execRecallSilenceEnd w i s = .next t) : t.LinesSound := by
  refine State.act_keeps e h fun _ => (h.advance w).guarded fun _ => ?_
  split
  · exact (((h.advance w).removeHead _).codeBoundary i).settleSenders
  · exact h.advance w

/-! ## Every command and every step -/

/-- No command takes a line out of its bounds: those that reach a line keep them by the rule of their effect, and the rest
touch no line. -/
theorem exec_linesSound {c : Instr} (e : exec c s = .next t) : t.LinesSound := by
  unfold exec at e
  cases c with
  | resetBegin => cases e; exact h.beginReset
  | resetEnd pins => cases e; exact s.endReset_linesSound pins
  | testFrameOutcome w o => exact execTestFrameOutcome_linesSound h e
  | testFrameTimeout w => exact execTestFrameTimeout_linesSound h e
  | listenTimer w => exact State.act_keeps e h fun _ => (h.advance w).guarded fun _ => (h.advance w).enterActive
  | loopSample w l b =>
    exact State.act_keeps e h fun _ => (h.advance w).guarded fun _ => ((h.advance w).takeMarks l).applySample l b
  | offHook w l => exact State.act_keeps e h fun _ => (h.advance w).offHookMark l
  | clear w l => exact State.act_keeps e h fun _ => (h.advance w).clearMark l
  | digitComplete w l => exact State.act_keeps e h fun _ => (h.advance w).thresholdMark l
  | firstEntryTimer w l => exact State.act_keeps e h fun _ => (h.advance w).guarded fun _ => (h.advance w).lockout l
  | endOfDiallingTimer w l => exact execEndOfDiallingTimer_linesSound h e
  | huntTimer w l => exact State.act_keeps e h fun _ => (h.advance w).guarded fun _ => ((h.advance w).lockout l).settle
  | frameStart w b => exact execFrameStart_linesSound h e
  | arbitrationLost w k => exact execArbitrationLost_linesSound h e
  | transmitError w f => exact State.act_keeps e h fun _ => (h.advance w).guarded fun _ => (h.advance w).transmitFails _
  | frameSent w => exact execFrameSent_linesSound h e
  | replySent w => exact execReplySent_linesSound h e
  | receiveError w f => exact State.act_keeps e h fun _ => (h.advance w).guarded fun _ => (h.advance w).wireError _
  | stuckDominantAbort w => exact execStuckDominantAbort_linesSound h e
  | linkFailure w =>
    exact State.act_keeps e h fun _ => (h.advance w).guarded fun _ => ((h.advance w).setLink _).enterIsolated
  | linkRecovery w => exact State.act_keeps e h fun _ => (h.advance w).guarded fun _ => (h.advance w).setLink _
  | release w slot v cause check => exact execRelease_linesSound h e
  | objection w slot v line check => exact execObjection_linesSound h e
  | claim w slot v line check reply => exact execClaim_linesSound h e
  | retire w slot v cause check => exact execRetire_linesSound h e
  | restore w slot v check => exact execRestore_linesSound h e
  | report w slot count held retired flags check => exact execReport_linesSound h e
  | statusRequest w slot target page check => exact execStatusRequest_linesSound h e
  | blockLine w slot g a k => exact State.act_keeps e h fun _ => (h.advance w).commandHeard slot g 1 a k
  | unblockLine w slot g a k => exact State.act_keeps e h fun _ => (h.advance w).commandHeard slot g 2 a k
  | retireTrunk w slot g a k => exact State.act_keeps e h fun _ => (h.advance w).commandHeard slot g 3 a k
  | restoreTrunk w slot g a k => exact State.act_keeps e h fun _ => (h.advance w).commandHeard slot g 4 a k
  | resetProfile w slot g a k => exact State.act_keeps e h fun _ => (h.advance w).commandHeard slot g 5 a k
  | clearCounts w slot g a k => exact State.act_keeps e h fun _ => (h.advance w).commandHeard slot g 6 a k
  | restart w slot g a k => exact State.act_keeps e h fun _ => (h.advance w).commandHeard slot g 7 a k
  | frameEof w => exact execFrameEof_linesSound h e
  | absence w p =>
    exact State.act_keeps e h fun _ => (h.advance w).guarded fun _ =>
      State.LinesSound.settle ((h.advance w).of_same (by simp))
  | reportInterval w =>
    exact State.act_keeps e h fun _ => (h.advance w).guarded fun _ => (h.advance w).of_same (by simp)
  | releaseGuardExpiry w v => exact State.act_keeps e h fun _ => (h.advance w).guarded fun _ => (h.advance w).settle
  | probeRequest w => exact execProbeRequest_linesSound h e
  | graceTimer w => exact State.act_keeps e h fun _ => (h.advance w).guarded fun _ => (h.advance w).of_same (by simp)
  | isolatedProbeTimer w =>
    exact State.act_keeps e h fun _ => (h.advance w).guarded fun _ => (h.advance w).of_same (by simp)
  | homeTrunkMark w => exact State.act_keeps e h fun _ => (h.advance w).guarded fun _ => (h.advance w).settle
  | busyQuietMark w => exact State.act_keeps e h fun _ => (h.advance w).guarded fun _ => (h.advance w).settle
  | rejoinTimer w => exact State.act_keeps e h fun _ => (h.advance w).guarded fun _ => (h.advance w).enterActive
  | trunkInputSample w v pts clr busy => exact execTrunkInputSample_linesSound h e
  | proceedToSend w v => exact execProceedToSend_linesSound h e
  | switchClear w v => exact execSwitchClear_linesSound h e
  | ptsTimer w v => exact execPtsTimer_linesSound h e
  | probeTimer w v => exact execProbeTimer_linesSound h e
  | breakTimer w v => exact execBreakTimer_linesSound h e
  | probeInterval w v => exact execProbeInterval_linesSound h e
  | crosspointShiftEnd w => exact execCrosspointShiftEnd_linesSound h e
  | toneSample w i => exact execToneSample_linesSound h e
  | burstEnd w i => exact State.act_keeps e h fun _ => (h.advance w).guarded fun _ => (h.advance w).of_same (by simp)
  | gapEnd w i =>
    exact State.act_keeps e h fun _ => (h.advance w).guarded fun _ => ((h.advance w).codeBoundary i).settleSenders
  | recallSilenceEnd w i => exact execRecallSilenceEnd_linesSound h e
  | receiverIdle w => exact State.act_keeps e h fun _ => (h.advance w).guarded fun _ => (h.advance w).setLink _
  | unlistedCommand w slot g code a k => exact execUnlistedCommand_linesSound h e

theorem step_linesSound (e : step s = .next t) : t.LinesSound := by
  rcases step_cases e with ⟨_, _, rfl⟩ | ⟨x, rest, _, _, read⟩ | ⟨c, rest, _, taken⟩
  · exact h
  · have queued : { s with wire := rest }.LinesSound := h.of_same ⟨rfl, rfl, rfl, rfl⟩
    exact State.act_keeps read queued fun _ => (queued.advance x.when).readWire x.dominant
  · exact exec_linesSound (s := { s with pending := rest }) (h.of_same ⟨rfl, rfl, rfl, rfl⟩) taken
end

/-- Settles O54: line by line, from what each command does to a line's decoder, call and outputs. -/
theorem everyStepKeepsTheLinesSound : Obligations.EveryStepKeepsTheLinesSound := by
  unfold Obligations.EveryStepKeepsTheLinesSound
  intro s t h e
  exact (State.linesSound_iff t).1 (step_linesSound ((State.linesSound_iff s).2 h) e)

end Sys2Proof.Machine
end

section
/-! Dial pulse decoding: what the edges of a line do to its digit record (Section 2). -/

namespace Sys2Proof.Machine
open Sys2Proof

/-! ## An OPEN edge -/

section
variable {d : Decoder} {start threshold time : Nat}

/-- The interval begun at an OPEN edge that judges no pulse, with the point its make resumes from (R21, R28). -/
theorem Decoder.openEdge_ordinary (make : d.interval = some (.make start)) (kept : d.threshold = some threshold)
    (h : d.overCount = true ∨ d.pulse = none) :
    d.openEdge time =
      { d with interval := some (.brk time), resume := some { start, threshold, completed := none } } := by
  rcases h with exceeded | none_pending
  · simp [Decoder.openEdge, Decoder.intervalStart, Decoder.keptThreshold, make, kept, exceeded]
  · cases exceeded : d.overCount <;>
      simp [Decoder.openEdge, Decoder.intervalStart, Decoder.keptThreshold, make, kept, exceeded, none_pending]

/-- A make of 15 ms or more completes the pending pulse's period (R26). -/
theorem Decoder.openEdge_completes {p : Pulse} (make : d.interval = some (.make start))
    (kept : d.threshold = some threshold) (counts : d.overCount = false) (pending : d.pulse = some p)
    (long : 15 ≤ time - start) :
    d.openEdge time =
      { d with pulses := d.pulses ++ [(p.brk, time - start)], pulse := none, interval := some (.brk time),
               resume := some { start, threshold, completed := some p } } := by
  simp [Decoder.openEdge, Decoder.intervalStart, Decoder.keptThreshold, make, kept, counts, pending, long]

/-- A shorter make withdraws the pending pulse, and its break goes on (R27). -/
theorem Decoder.openEdge_withdraws {p : Pulse} (make : d.interval = some (.make start)) (counts : d.overCount = false)
    (pending : d.pulse = some p) (short : time - start < 15) :
    d.openEdge time =
      { d with count := d.count - 1, pulse := none, interval := some (.brk p.start), resume := none
               merged := counted d.merged } := by
  simp [Decoder.openEdge, Decoder.intervalStart, make, counts, pending, Nat.not_le.2 short]
end

/-! ## A CLOSED edge -/

section
variable {d : Decoder} {start time : Nat} {early : Bool}

theorem Decoder.closedEdge_noise (brk : d.interval = some (.brk start)) (short : time - start < 20) :
    d.closedEdge time early = d.noiseBreak time early := by
  simp [Decoder.closedEdge, Decoder.intervalStart, brk, short]

theorem Decoder.closedEdge_pulse (brk : d.interval = some (.brk start)) (long : 20 ≤ time - start)
    (ceiling : time - start ≤ d.bMax) : d.closedEdge time early = d.dialPulse (time - start) start time := by
  have loud : ¬ time - start < 20 := by omega
  simp [Decoder.closedEdge, Decoder.intervalStart, brk, loud, ceiling]

theorem Decoder.closedEdge_doubtful (brk : d.interval = some (.brk start)) (long : 20 ≤ time - start)
    (above : d.bMax < time - start) (short : time - start < 250) :
    d.closedEdge time early = d.doubtfulBreak time early := by
  have loud : ¬ time - start < 20 := by omega
  have past : ¬ time - start ≤ d.bMax := by omega
  simp [Decoder.closedEdge, Decoder.intervalStart, brk, loud, past, short]

theorem Decoder.closedEdge_flash (brk : d.interval = some (.brk start)) (above : d.bMax < time - start)
    (long : 250 ≤ time - start) : d.closedEdge time early = d.flash time early := by
  have loud : ¬ time - start < 20 := by omega
  have past : ¬ time - start ≤ d.bMax := by omega
  have flash : ¬ time - start < 250 := by omega
  simp [Decoder.closedEdge, Decoder.intervalStart, brk, loud, past, flash]

/-- A noise break whose resumed make is not at its threshold hands over nothing (R21). -/
theorem Decoder.noiseBreak_resumes
    (h : ({ d with noise := counted d.noise }.restore time).thresholdReached time = false) :
    d.noiseBreak time early =
      { dec := { d with noise := counted d.noise }.restore time, entry := none, notice := false } := by
  simp [Decoder.noiseBreak, h]
end

/-! ## A noise break takes the judgement of its make back -/

section
variable {d : Decoder} {start threshold opened : Nat} (make : d.interval = some (.make start))
  (kept : d.threshold = some threshold) (long : d.overCount = false → d.pulse ≠ none → 15 ≤ opened - start)
include make kept long

/-- A make that withdraws no pulse is judged with a resume point: it is ordinary, or completes the pending pulse (R26,
R28). -/
theorem Decoder.openEdge_resumable :
    d.openEdge opened =
        { d with interval := some (.brk opened), resume := some { start, threshold, completed := none } } ∨
      ∃ p, d.pulse = some p ∧ d.openEdge opened =
        { d with pulses := d.pulses ++ [(p.brk, opened - start)], pulse := none, interval := some (.brk opened),
                 resume := some { start, threshold, completed := some p } } := by
  by_cases ordinary : d.overCount = true ∨ d.pulse = none
  · exact .inl (Decoder.openEdge_ordinary make kept ordinary)
  · obtain ⟨counts, pending⟩ := not_or.1 ordinary
    obtain ⟨p, hp⟩ := Option.ne_none_iff_exists'.1 pending
    have counts : d.overCount = false := by simpa using counts
    exact .inr ⟨p, hp, Decoder.openEdge_completes make kept counts hp (long counts pending)⟩

theorem Decoder.openEdge_interval : (d.openEdge opened).interval = some (.brk opened) := by
  rcases Decoder.openEdge_resumable make kept long with h | ⟨_, _, h⟩ <;> rw [h]

/-- The OPEN edge is undone by the noise break it begins: the record stands but for the noise breaks counter (R21). -/
theorem Decoder.restore_openEdge (fresh : d.resume = none) (closed : Nat) :
    { d.openEdge opened with noise := counted (d.openEdge opened).noise }.restore closed =
      { d with noise := counted d.noise } := by
  rcases Decoder.openEdge_resumable make kept long with h | ⟨p, pending, h⟩
  · rw [h]
    simp only [Decoder.restore, ← make, ← kept, ← fresh]
  · rw [h]
    simp only [Decoder.restore, List.dropLast_concat, ← make, ← kept, ← fresh, ← pending]
end

/-- Settles O11: each make by its own rule, and the noise break by the record it restores. -/
theorem makesAndNoiseBreaksKeepTheRecord : Obligations.MakesAndNoiseBreaksKeepTheRecord := by
  unfold Obligations.MakesAndNoiseBreaksKeepTheRecord
  refine ⟨fun d start threshold opened closed early make kept fresh noise long unreached => ?_,
    fun d start time threshold make kept => ⟨fun p counts pending long => ?_, fun p counts pending short => ?_,
      fun ordinary => ?_⟩⟩
  · have restored := Decoder.restore_openEdge make kept long fresh closed
    have waits : { d with noise := counted d.noise }.thresholdReached closed = false := by
      refine Decoder.thresholdReached_eq_false fun a b counting makes keeps => ?_
      obtain rfl : start = a := by simpa [make] using makes
      obtain rfl : threshold = b := by simpa [kept] using keeps
      exact unreached.resolve_left counting
    rw [Decoder.closedEdge_noise (Decoder.openEdge_interval make kept long) noise,
      Decoder.noiseBreak_resumes (restored ▸ waits), restored, counted_eq]
  · exact Decoder.openEdge_completes make kept counts pending long
  · rw [Decoder.openEdge_withdraws make counts pending short, counted_eq]
  · exact Decoder.openEdge_ordinary make kept ordinary

/-! ## Breaks of 20 ms or more -/

section
variable {d d' : Decoder} {time : Nat} {early : Bool}

/-- From `d` to `d'` a make begins with the threshold of the P of that moment; the profile and the noise breaks counter
stand (R22 to R24, R29). -/
def Decoder.MakeBegins (d d' : Decoder) (time : Nat) : Prop :=
  d'.interval = some (.make time) ∧ d'.threshold = some (max 150 (2 * d.p)) ∧ d'.resume = none ∧
    d'.p = d.p ∧ d'.lastM = d.lastM ∧ d'.lastR = d.lastR ∧ d'.noise = d.noise

theorem Decoder.makeBegins_beginMake (p : d'.p = d.p) (m : d'.lastM = d.lastM) (r : d'.lastR = d.lastR)
    (noise : d'.noise = d.noise) : d.MakeBegins (d'.beginMake time) time :=
  ⟨rfl, by simp [Decoder.beginMake, Decoder.tId, p], rfl, p, m, r, noise⟩

/-- A pulse past the fifteenth sets over-count alone (R22). -/
theorem Decoder.dialPulse_eq (b start : Nat) :
    d.dialPulse b start time =
      if d.count < 15 then
        { dec := { d with count := d.count + 1, pulse := some { brk := b, start } }.beginMake time, entry := none
          notice := true }
      else { dec := { d with overCount := true }.beginMake time, entry := none, notice := false } := rfl

/-- With no digit in progress a doubtful break is counted, and no more (R23). -/
theorem Decoder.doubtfulBreak_alone (h : d.count = 0) :
    d.doubtfulBreak time early =
      { dec := { d with doubtful := counted d.doubtful }.beginMake time, entry := none, notice := false } := by
  simp [Decoder.doubtfulBreak, h]

/-- A doubtful break ends a digit in progress MUTILATED (R23). -/
theorem Decoder.doubtfulBreak_ends (h : d.count ≠ 0) :
    d.doubtfulBreak time early =
      { dec := { d.emptied with doubtful := counted d.doubtful, mutilated := counted d.mutilated }.beginMake time
        entry := some (d.mutilatedEntry early), notice := false } := by
  simp only [Decoder.doubtfulBreak, if_neg h]
  rfl

/-- With no digit in progress a flash is a RECALL (R24). -/
theorem Decoder.flash_alone (h : d.count = 0) :
    d.flash time early =
      { dec := { d.emptied with recalls := counted d.recalls }.beginMake time
        entry := some { kind := .recall, pulses := none, period := none, ratio := none, speed := false, early }
        notice := false } := by
  simp [Decoder.flash, h]

/-- A flash ends a digit in progress MUTILATED (R24). -/
theorem Decoder.flash_ends (h : d.count ≠ 0) :
    d.flash time early =
      { dec := { d.emptied with mutilated := counted d.mutilated }.beginMake time
        entry := some (d.mutilatedEntry early), notice := false } := by
  simp only [Decoder.flash, if_neg h]
  rfl

/-- Every break of 20 ms or more ends with a make begun (R22 to R24). -/
theorem Decoder.closedEdge_makeBegins {start : Nat} (brk : d.interval = some (.brk start)) (long : 20 ≤ time - start) :
    d.MakeBegins (d.closedEdge time early).dec time := by
  by_cases pulse : time - start ≤ d.bMax
  · rw [Decoder.closedEdge_pulse brk long pulse, Decoder.dialPulse_eq]
    split <;> exact Decoder.makeBegins_beginMake rfl rfl rfl rfl
  · have above : d.bMax < time - start := by omega
    by_cases short : time - start < 250
    · rw [Decoder.closedEdge_doubtful brk long above short]
      by_cases none_counted : d.count = 0
      · rw [Decoder.doubtfulBreak_alone none_counted]
        exact Decoder.makeBegins_beginMake rfl rfl rfl rfl
      · rw [Decoder.doubtfulBreak_ends none_counted]
        exact Decoder.makeBegins_beginMake rfl rfl rfl rfl
    · rw [Decoder.closedEdge_flash brk above (by omega)]
      by_cases none_counted : d.count = 0
      · rw [Decoder.flash_alone none_counted]
        exact Decoder.makeBegins_beginMake rfl rfl rfl rfl
      · rw [Decoder.flash_ends none_counted]
        exact Decoder.makeBegins_beginMake rfl rfl rfl rfl
end

/-- Settles O12: a make begins after each break, and each length has its rule. -/
theorem breaksAreJudgedByTheirLength : Obligations.BreaksAreJudgedByTheirLength := by
  unfold Obligations.BreaksAreJudgedByTheirLength
  intro d start time early brk late r
  have long : 20 ≤ time - start := by omega
  obtain ⟨interval, threshold, resume, p, m, ratio, noise⟩ := Decoder.closedEdge_makeBegins (early := early) brk long
  refine ⟨interval, threshold, resume, p, m, ratio, noise, fun ceiling => ?_, fun above => ?_⟩
  · have judged : r = d.dialPulse (time - start) start time := Decoder.closedEdge_pulse brk long ceiling
    rw [judged, Decoder.dialPulse_eq]
    by_cases room : d.count < 15
    · simp [room, Decoder.beginMake, Nat.not_le.2 room]
    · simp [room, Decoder.beginMake]
  · by_cases short : time - start < 250
    · have judged : r = d.doubtfulBreak time early := Decoder.closedEdge_doubtful brk long above short
      have not_flash : ¬ 250 ≤ time - start := by omega
      by_cases none_counted : d.count = 0
      · rw [judged, Decoder.doubtfulBreak_alone none_counted]
        simp [none_counted, short, not_flash, Decoder.beginMake]
      · rw [judged, Decoder.doubtfulBreak_ends none_counted]
        simp [none_counted, short, not_flash, Decoder.beginMake, Decoder.emptied, Decoder.mutilatedEntry]
    · have flash : 250 ≤ time - start := by omega
      have judged : r = d.flash time early := Decoder.closedEdge_flash brk above flash
      by_cases none_counted : d.count = 0
      · rw [judged, Decoder.flash_alone none_counted]
        simp [none_counted, short, flash, Decoder.beginMake, Decoder.emptied]
      · rw [judged, Decoder.flash_ends none_counted]
        simp [none_counted, short, flash, Decoder.beginMake, Decoder.emptied, Decoder.mutilatedEntry]

end Sys2Proof.Machine
end

section
/-! Dial pulse decoding: a digit completes at the make threshold, teaches the profile, and joins the queue (R30 to R32). -/

namespace Sys2Proof.Machine
open Sys2Proof

/-! ## The digit completed -/

/-- P moves a quarter of the way to the clamped M, rounded down (R32). -/
theorem learn_eq (p m : Nat) :
    learn p (clampPeriod m) = ((p : Int) + ((max 60 (min 150 m) : Int) - p).fdiv 4 : Int).toNat := by
  have clamped : (clampPeriod m : Int) = max 60 (min 150 (m : Int)) := by simp [clampPeriod_eq]
  rw [learn, clamped, Int.fdiv_eq_ediv_of_nonneg _ (by omega)]

section
variable {d : Decoder} {early : Bool}

/-- M and R of a digit of two pulses or more, over its first n - 1 items (R31). -/
theorem measures_eq {n : Nat} (h : 2 ≤ n) (pulses : List (Nat × Nat)) :
    measures n pulses =
      (some (((pulses.take (n - 1)).map fun i => i.1 + i.2).sum / (n - 1)),
       some (100 * ((pulses.take (n - 1)).map fun i => i.1).sum /
         ((pulses.take (n - 1)).map fun i => i.1 + i.2).sum)) := by
  simp [measures, Nat.not_lt.2 h]

theorem measures_single (pulses : List (Nat × Nat)) : measures 1 pulses = (none, none) := rfl

/-- A digit of at most 10 pulses that has its measures teaches the profile (R31, R32). -/
theorem Decoder.complete_measured (counts : d.overCount = false) (ten : d.count ≤ 10) {m r : Nat}
    (measured : measures d.count d.pulses = (some m, some r)) :
    d.complete early =
      { dec := ({ d.emptied with digits := counted d.digits }.update m r).1
        entry := some { kind := .digit (Fin.ofNat 10 d.count), pulses := some d.count, period := some m, ratio := some r,
                        speed := m < 60 || 150 < m, early }
        notice := false } := by
  simp [Decoder.complete, counts, ten, measured, Decoder.update]

/-- A digit of one pulse has no measures and leaves the profile (R31, R32). -/
theorem Decoder.complete_single (counts : d.overCount = false) (one : d.count = 1) :
    d.complete early =
      { dec := { d.emptied with digits := counted d.digits }
        entry := some { kind := .digit 1, pulses := some 1, period := none, ratio := none, speed := false, early }
        notice := false } := by
  simp only [Decoder.complete, counts, one, measures_single]
  rfl

/-- A digit of more than 10 pulses, or with over-count set, is MUTILATED (R30). -/
theorem Decoder.complete_spoiled (h : 11 ≤ d.count ∨ d.overCount = true) : d.complete early = d.spoilDigit early := by
  refine if_neg fun ⟨counts, ten⟩ => ?_
  rcases h with many | exceeded
  · omega
  · simp [counts] at exceeded
end

/-! ## The entry handed over -/

/-- From `s` to `t` a digit completes on line `l`: its decoder becomes `d` and the entry `e` joins its queue; the call's
state, its trunk, its dial tone, the other decoders, the filters, the lockout outputs, the link and Station Control
stand. -/
def State.Completes (s t : State) (l : Line) (d : Decoder) (e : Entry) : Prop :=
  t.decoder l = d ∧ (t.call l).queue = (s.call l).queue ++ [e] ∧
    (t.call l).state = (s.call l).state ∧ (t.call l).trunk = (s.call l).trunk ∧ t.ldt[l] = s.ldt[l] ∧
    (∀ k, k ≠ l → t.decoder k = s.decoder k) ∧ t.scan = s.scan ∧ t.lko = s.lko ∧ t.link = s.link ∧ t.ctl = s.ctl

section
variable {s : State} {l : Line} {d : Decoder} {e : Entry}

/-- An entry handed with no notice to a HUNTING or SEIZING call with room joins its queue; the arbiter's grants leave that
call (R36, R46, R174). -/
theorem State.takeDecoded_completes (waits : (s.call l).state = .hunting ∨ (s.call l).state = .seizing)
    (unspoiled : (s.call l).spoiled = false) (room : (s.call l).queue.length < 24) :
    s.Completes (s.takeDecoded l { dec := d, entry := some e, notice := false }) l d e := by
  have calling : ((s.setDec l d).call l).state = .hunting ∨ ((s.setDec l d).call l).state = .seizing ∨
      ((s.setDec l d).call l).state = .dialling := by
    rcases waits with h | h <;> simp [h]
  have handed : s.takeDecoded l { dec := d, entry := some e, notice := false } =
      ((s.setDec l d).joinQueue l e).settleSenders := by
    have joined := State.handEntry_calling (e := e) calling
    simp only [State.setDec_reads, unspoiled, room, if_true, Bool.false_eq_true, if_false] at joined
    exact joined
  have undialled : (((s.setDec l d).joinQueue l e).call l).state ≠ .dialling := by
    rcases waits with h | h <;> simp [State.joinQueue, h]
  obtain ⟨call, ldt⟩ := sameLine_settleSenders _ undialled
  have decoder (k : Line) : ((s.setDec l d).joinQueue l e).settleSenders.decoder k = (s.setDec l d).decoder k := by
    simp [State.decoder]
  rw [handed]
  refine ⟨?_, ?_, ?_, ?_, ?_, fun k hk => ?_, ?_⟩
  · rw [decoder]; simp
  · rw [call]; simp [State.joinQueue]
  · rw [call]; simp [State.joinQueue]
  · rw [call]; simp [State.joinQueue]
  · rw [ldt]; simp
  · rw [decoder]; simp [hk]
  · simp

/-- DIGIT_COMPLETE at the make threshold of a HUNTING or SEIZING call (R30). -/
theorem exec_digitComplete_reached {w : Nat} (hr : s.running = true)
    (waits : (s.call l).state = .hunting ∨ (s.call l).state = .seizing) {start threshold : Nat}
    (make : (s.decoder l).interval = some (.make start)) (kept : (s.decoder l).threshold = some threshold)
    (reached : start + threshold ≤ max s.now w / 64) (counting : 1 ≤ (s.decoder l).count) :
    exec (.digitComplete w l) s =
      .next ((s.advance w).takeDecoded l ((s.decoder l).complete (!(s.call l).audio))) := by
  have due : (s.decoder l).thresholdReached (max s.now w / 64) = true := by
    simp [Decoder.thresholdReached, make, kept, counting, reached]
  have decoding : (s.call l).state.decoding = true := by
    rcases waits with h | h <;> simp [h, CallState.decoding]
  exact (State.act_running w _ hr).trans (congrArg _ (if_pos ⟨decoding, due⟩))
end

/-- Settles O13: the record and the entry that each count gives, joined to the queue by one rule. -/
theorem digitCompletesAndTeachesTheProfile : Obligations.DigitCompletesAndTeachesTheProfile := by
  unfold Obligations.DigitCompletesAndTeachesTheProfile
  intro s w start threshold l hr waits unspoiled room make kept reached n items periods m r fast emptied teaches
  have completes {d : Decoder} {e : Entry} (counting : 1 ≤ n)
      (completed : (s.decoder l).complete (!(s.call l).audio) = { dec := d, entry := some e, notice := false }) :
      teaches d e := by
    refine ⟨_, exec_digitComplete_reached hr waits make kept reached counting, ?_⟩
    rw [completed]
    exact State.takeDecoded_completes (s := s.advance w) waits unspoiled room
  refine ⟨fun two ten counts => completes (by omega) ?_, fun one counts => completes (by omega) ?_,
    fun counting many => completes counting ?_⟩
  · have measured : measures n (s.decoder l).pulses = (some m, some r) := measures_eq two _
    rw [Decoder.complete_measured counts ten measured]
    have speed : (decide (m < 60) || decide (150 < m)) = fast := by simp [fast]
    simp only [Decoder.update, speed, learn_eq]
    rfl
  · exact Decoder.complete_single counts one
  · rw [Decoder.complete_spoiled many]
    have measured : measures n (s.decoder l).pulses =
        (if n = 1 then none else some m, if n = 1 then none else some r) := by
      by_cases one : n = 1
      · simp [one, measures_single]
      · have two : 2 ≤ n := by omega
        rw [if_neg one, if_neg one]
        exact measures_eq two _
    simp only [Decoder.spoilDigit, Decoder.mutilatedEntry]
    rw [show measures (s.decoder l).count (s.decoder l).pulses = _ from measured]
    rfl

end Sys2Proof.Machine
end

section
/-! What every step keeps: the parts of a state that the laws of calls, queues, trunks and senders read, and what a
command must keep for every step to keep such a law. -/

namespace Sys2Proof.Machine
open Sys2Proof

/-! ## States that agree in what the laws read -/

/-- From record `c` to `d` a call keeps its state, its trunk, its audio connection and all that sending reads. -/
structure CallRecord.Alike (c d : CallRecord) : Prop where
  state : d.state = c.state
  trunk : d.trunk = c.trunk
  queue : d.queue = c.queue
  identitySent : d.identitySent = c.identitySent
  firstDigitSent : d.firstDigitSent = c.firstDigitSent
  spoiled : d.spoiled = c.spoiled
  audio : d.audio = c.audio
  dialTimer : d.dialTimer = c.dialTimer

theorem CallRecord.Alike.refl (c : CallRecord) : c.Alike c := ⟨rfl, rfl, rfl, rfl, rfl, rfl, rfl, rfl⟩

/-- From `x` to `y` a sender keeps what it is attached to, and stays free, or waiting for a break, or neither. -/
structure Sender.Alike (x y : Sender) : Prop where
  trunk : y.trunk = x.trunk
  line : y.line = x.line
  select : y.select = x.select
  free : y.state = .free ↔ x.state = .free
  waits : y.state = .recallWait ↔ x.state = .recallWait

theorem Sender.Alike.refl (x : Sender) : x.Alike x := ⟨rfl, rfl, rfl, .rfl, .rfl⟩

/-- What a session is for and its state (R152). -/
def Session.role (x : Session) : Purpose × SessionState := (x.purpose, x.state)

/-- The receiver goes on from `k` to `k'` with the own-frame marker and the reply in hand kept or given up. -/
structure Link.GoesOn (k k' : Link) : Prop where
  own : k'.own = none ∨ k'.own = k.own
  reply : k'.reply = none ∨ k'.reply = k.reply

theorem Link.GoesOn.trans {k k' k'' : Link} (h : k.GoesOn k') (g : k'.GoesOn k'') : k.GoesOn k'' where
  own := g.own.elim .inl fun e => e ▸ h.own
  reply := g.reply.elim .inl fun e => e ▸ h.reply

/-- From `s` to `t` the station keeps all that the laws of calls, queues, trunks and senders read, or gives it up. -/
structure State.Agrees (s t : State) : Prop where
  inReset : t.inReset = s.inReset
  station : t.ctl.station = s.ctl.station
  straps : t.ctl.straps = s.ctl.straps
  calls : ∀ l, (s.call l).Alike (t.call l)
  loop : ∀ l, (s.call l).state = .blocked → (t.scanLine l).loop = (s.scanLine l).loop
  ldt : ∀ l : Line, t.ldt[l] = true → s.ldt[l] = true
  lko : t.lko = s.lko
  link : s.link.GoesOn t.link
  tx : t.tx = s.tx
  queue : t.hunt.queue = s.hunt.queue
  claim : t.hunt.claim = s.hunt.claim
  probe : t.hunt.probe = none ∨ t.hunt.probe = s.hunt.probe
  entries : ∀ u, (t.entry u).isOwn = (s.entry u).isOwn
  sessions : ∀ u, (t.session u).map Session.role = (s.session u).map Session.role
  points : t.sup.points = s.sup.points
  senders : ∀ i, (s.sender i).Alike (t.sender i)
  requests : t.arb.requests = s.arb.requests

theorem Link.goesOn_refl (k : Link) : k.GoesOn k := ⟨.inr rfl, .inr rfl⟩

section
variable {s t u : State}

theorem State.Agrees.running (h : s.Agrees t) : t.running = s.running := by
  simp [State.running, h.inReset, h.station]

theorem State.agrees_of_same (same : t.inReset = s.inReset ∧ t.ctl.station = s.ctl.station ∧ t.ctl.straps = s.ctl.straps ∧
      t.calls = s.calls ∧ t.scan = s.scan ∧ t.ldt = s.ldt ∧ t.lko = s.lko ∧ t.link = s.link ∧ t.tx = s.tx ∧
      t.hunt.queue = s.hunt.queue ∧ t.hunt.claim = s.hunt.claim ∧ t.hunt.probe = s.hunt.probe ∧
      t.sup.sessions = s.sup.sessions ∧ t.sup.points = s.sup.points ∧ t.senders = s.senders ∧
      t.arb.requests = s.arb.requests)
    (entries : ∀ u, (t.entry u).isOwn = (s.entry u).isOwn) : s.Agrees t := by
  obtain ⟨inReset, station, straps, calls, scan, ldt, lko, link, tx, queue, claim, probe, sessions, points, senders,
    requests⟩ := same
  exact {
    inReset, station, straps, lko, tx, queue, claim, entries, points, requests
    probe := .inr probe
    calls := fun l => by simpa [State.call, calls] using CallRecord.Alike.refl _
    loop := fun l _ => by simp [State.scanLine, scan]
    ldt := fun l on => ldt ▸ on
    link := link ▸ Link.goesOn_refl _
    sessions := fun u => by simp [State.session, sessions]
    senders := fun i => by simpa [State.sender, senders] using Sender.Alike.refl _ }

theorem State.Agrees.refl : s.Agrees s := State.agrees_of_same (by simp) fun _ => rfl

theorem State.agrees_setLink {k : Link} (h : s.link.GoesOn k) : s.Agrees (s.setLink k) :=
  { State.Agrees.refl (s := s) with link := h }

theorem State.agrees_setDec (l : Line) (d : Decoder) : s.Agrees (s.setDec l d) :=
  State.agrees_of_same (by simp) fun _ => rfl

/-- The loop of a line that is not BLOCKED is read by no law. -/
theorem State.agrees_setScan {l : Line} {x : ScanLine} (h : (s.call l).state = .blocked → x.loop = (s.scanLine l).loop) :
    s.Agrees (s.setScan l x) :=
  { State.Agrees.refl (s := s) with
    loop := fun m blocked => by
      by_cases hm : m = l
      · subst hm; simpa using h blocked
      · simp [hm] }

theorem State.agrees_setCall {l : Line} {c : CallRecord} (h : (s.call l).Alike c) : s.Agrees (s.setCall l c) :=
  { State.Agrees.refl (s := s) with
    calls := fun m => by
      by_cases hm : m = l
      · subst hm; simpa using h
      · simpa [hm] using CallRecord.Alike.refl _ }

theorem State.agrees_toneOff (l : Line) : s.Agrees (s.toneOff l) :=
  { State.agrees_setCall (s := s) (l := l) (c := { s.call l with localTone := false })
      ⟨rfl, rfl, rfl, rfl, rfl, rfl, rfl, rfl⟩ with
    ldt := fun m on => by
      by_cases hm : m = l
      · subst hm; simp [State.toneOff] at on
      · simpa [State.toneOff, hm] using on }

theorem State.agrees_setSender {i : Fin 2} {x : Sender} (h : (s.sender i).Alike x) : s.Agrees (s.setSender i x) :=
  { State.Agrees.refl (s := s) with
    senders := fun j => by
      by_cases hj : j = i
      · subst hj; simpa using h
      · simpa [hj] using Sender.Alike.refl _ }

theorem State.agrees_setSession {u : Trunk} {ses ses' : Session} (open_session : s.session u = some ses)
    (role : ses'.role = ses.role) : s.Agrees (s.setSession u (some ses')) :=
  { State.Agrees.refl (s := s) with
    sessions := fun v => by
      by_cases hv : v = u
      · subst hv; simp [open_session, role]
      · simp [hv] }

theorem State.agrees_setEntry {u : Trunk} {x : TrunkEntry} (h : x.isOwn = (s.entry u).isOwn) :
    s.Agrees (s.setEntry u x) :=
  State.agrees_of_same (by simp) fun v => by
    by_cases hv : v = u
    · subst hv; simpa using h
    · simp [hv]

theorem State.agrees_advance (w : Nat) : s.Agrees (s.advance w) := State.agrees_of_same (by simp) fun _ => rfl

theorem CallRecord.Alike.trans {c d e : CallRecord} (h : c.Alike d) (g : d.Alike e) : c.Alike e :=
  ⟨g.1.trans h.1, g.2.trans h.2, g.3.trans h.3, g.4.trans h.4, g.5.trans h.5, g.6.trans h.6, g.7.trans h.7,
    g.8.trans h.8⟩

theorem Sender.Alike.trans {x y z : Sender} (h : x.Alike y) (g : y.Alike z) : x.Alike z :=
  ⟨g.1.trans h.1, g.2.trans h.2, g.3.trans h.3, g.4.trans h.4, g.5.trans h.5⟩

theorem State.Agrees.trans (h : s.Agrees t) (g : t.Agrees u) : s.Agrees u where
  inReset := g.inReset.trans h.inReset
  station := g.station.trans h.station
  straps := g.straps.trans h.straps
  calls := fun l => (h.calls l).trans (g.calls l)
  loop := fun l blocked => (g.loop l ((h.calls l).state.trans blocked)).trans (h.loop l blocked)
  ldt := fun l on => h.ldt l (g.ldt l on)
  lko := g.lko.trans h.lko
  link := h.link.trans g.link
  tx := g.tx.trans h.tx
  queue := g.queue.trans h.queue
  claim := g.claim.trans h.claim
  probe := g.probe.elim .inl fun e => e ▸ h.probe
  entries := fun v => (g.entries v).trans (h.entries v)
  sessions := fun v => (g.sessions v).trans (h.sessions v)
  points := g.points.trans h.points
  senders := fun i => (h.senders i).trans (g.senders i)
  requests := g.requests.trans h.requests
end

end Sys2Proof.Machine
end

section
/-! What every step keeps: from what the parts of a command keep to what every step keeps. -/

namespace Sys2Proof.Machine
open Sys2Proof

/-! ## Updates that no law reads -/

@[simp] theorem Link.recessive_holds (k : Link) (m : Nat) :
    (k.recessive m).own = k.own ∧ (k.recessive m).reply = k.reply := by
  unfold Link.recessive
  split <;> simp

@[simp] theorem Link.waitEof_holds (k : Link) : k.waitEof.own = none ∧ k.waitEof.reply = k.reply ∧ k.waitEof.rx = .waitEof :=
  ⟨rfl, rfl, rfl⟩

theorem TrunkEntry.isOwn_of_held {e : TrunkEntry} {p : Slot} (h : e.isHeldBy p = true) : e.isOwn = false := by
  unfold TrunkEntry.isHeldBy at h
  unfold TrunkEntry.isOwn
  split at h <;> simp_all

@[simp] theorem TrunkEntry.freed_isOwn (e : TrunkEntry) (time : Nat) : (e.freed time).isOwn = false := rfl

theorem TrunkEntry.peerGone_isOwn (e : TrunkEntry) (p : Slot) (time : Nat) : (e.peerGone p time).isOwn = e.isOwn := by
  have held : (if e.isHeldBy p then e.freed time else e).isOwn = e.isOwn := by
    split
    · simp [TrunkEntry.isOwn_of_held ‹_›]
    · rfl
  unfold TrunkEntry.peerGone
  dsimp only
  rw [← held]
  generalize (if e.isHeldBy p then e.freed time else e) = x
  split <;> rfl

section
variable {s : State}

theorem State.raiseCount_isOwn (t u : Trunk) : ((s.raiseCount t).entry u).isOwn = (s.entry u).isOwn := by
  have halved (v : Trunk) : ((halvedCounts s.view.entries)[v]).isOwn = (s.view.entries[v]).isOwn := by
    simp [halvedCounts, TrunkEntry.isOwn]
  have kept (entries : Vector TrunkEntry 8) (same : ∀ v : Trunk, (entries[v]).isOwn = (s.view.entries[v]).isOwn) :
      ((entries.set t { entries[t] with seizures := (entries[t]).seizures + 1 })[u]).isOwn = (s.view.entries[u]).isOwn := by
    by_cases hu : u = t
    · subst hu; simpa [TrunkEntry.isOwn] using same u
    · have apart : t.val ≠ u.val := fun e => hu (Fin.ext e.symm)
      simpa [Vector.getElem_set_ne _ _ apart] using same u
  unfold State.raiseCount
  dsimp only
  split
  · exact kept _ halved
  · exact kept _ fun _ => rfl

theorem State.agrees_raiseCount (t : Trunk) : s.Agrees (s.raiseCount t) :=
  State.agrees_of_same (by simp) fun u => State.raiseCount_isOwn t u

theorem State.agrees_makeHeld {t : Trunk} (free : (s.entry t).isOwn = false) (p : Slot) (line : Option Line) :
    s.Agrees (s.makeHeld t p line) :=
  State.agrees_setEntry (by rw [free]; rfl)

theorem State.agrees_setRetiredBy (t : Trunk) (r : Option Slot) : s.Agrees (s.setRetiredBy t r) :=
  State.agrees_setEntry (by simp [TrunkEntry.isOwn])

theorem State.agrees_applyRetire (p : Slot) (t : Trunk) : s.Agrees (s.applyRetire p t) := by
  unfold State.applyRetire
  split
  · exact .refl
  · exact State.agrees_setRetiredBy t _

theorem State.agrees_applyRestore (p : Slot) (t : Trunk) : s.Agrees (s.applyRestore p t) := by
  unfold State.applyRestore
  split
  · exact State.agrees_setRetiredBy t _
  · exact .refl

theorem State.agrees_peerFrees {p : Slot} {t : Trunk} (held : (s.entry t).isHeldBy p = true) :
    s.Agrees (s.setEntry t ((s.entry t).freed s.scanTime)) :=
  State.agrees_setEntry (by simp [TrunkEntry.isOwn_of_held held])

theorem State.agrees_applyRelease (p : Slot) (t : Trunk) : s.Agrees (s.applyRelease p t) := by
  unfold State.applyRelease
  split
  · exact State.agrees_peerFrees ‹_›
  · exact State.agrees_of_same (by simp) fun _ => rfl

theorem State.refresh_entry (p : Slot) : (s.refresh p).entry = s.entry := by
  unfold State.refresh
  split <;> simp

theorem State.agrees_refresh (p : Slot) : s.Agrees (s.refresh p) :=
  State.agrees_of_same (by simp) fun u => by rw [State.refresh_entry]

theorem State.agrees_setPeer (p : Slot) (x : Presence) : s.Agrees (s.setPeer p x) :=
  State.agrees_of_same (by simp) fun _ => by simp

theorem State.agrees_makeAbsent (p : Slot) : s.Agrees (s.makeAbsent p) :=
  State.agrees_of_same (by simp) fun u => by
    simp [State.makeAbsent, State.entry, State.setView]
    split
    · exact TrunkEntry.peerGone_isOwn _ _ _
    · rfl

theorem State.agrees_peerEffective (p : Slot) (t : Trunk) (line : Option Line) : s.Agrees (s.peerEffective p t line) := by
  unfold State.peerEffective
  dsimp only
  refine (State.agrees_raiseCount t).trans ?_
  split
  · exact State.agrees_of_same (by simp) fun _ => rfl
  · exact State.agrees_makeHeld (Bool.eq_false_iff.2 ‹_›) p line

theorem State.probeAgain_entry (t u : Trunk) : ((s.probeAgain t).entry u).isOwn = (s.entry u).isOwn := by
  simp [State.entry]

theorem State.agrees_probeAgain (t : Trunk) : s.Agrees (s.probeAgain t) :=
  State.agrees_of_same (by simp) fun u => State.probeAgain_entry t u

theorem State.agrees_trackHome (t : Trunk) (busy : Bool) : s.Agrees (s.trackHome t busy) := by
  unfold State.trackHome
  split
  · exact State.agrees_of_same (by simp) fun _ => rfl
  · exact .refl

theorem State.agrees_clearLineCounts (l : Line) : s.Agrees (s.clearLineCounts l) :=
  ((State.agrees_setScan (s := s) (l := l) (x := { s.scanLine l with glitches := 0 }) fun _ => rfl).trans
    (State.agrees_setDec l _)).trans (State.agrees_setCall ⟨rfl, rfl, rfl, rfl, rfl, rfl, rfl, rfl⟩)

theorem State.agrees_clearAllCounts : s.Agrees s.clearAllCounts := by
  have lines (ls : List Line) : ∀ u : State, s.Agrees u → s.Agrees (ls.foldl State.clearLineCounts u) := by
    induction ls with
    | nil => exact fun _ h => h
    | cons l rest ih => exact fun u h => ih _ (h.trans (State.agrees_clearLineCounts l))
  have cleared := lines (List.finRange 8) s .refl
  exact (cleared.trans (State.agrees_setLink (k := { ((List.finRange 8).foldl State.clearLineCounts s).link with
    rxErrors := 0, txErrors := 0, arbLosses := 0, failures := 0 }) ⟨.inr rfl, .inr rfl⟩)).trans
      (State.agrees_of_same (by simp [State.clearAllCounts]) fun _ => rfl)
end
end Sys2Proof.Machine
end

section
/-! What every step keeps: from what the parts of a command keep to what every step keeps. -/

namespace Sys2Proof.Machine
open Sys2Proof

/-! ## What the view learns -/

/-- What the view learns of a trunk keeps `K`: nothing but the yield of a trunk of this station touches what `K` reads. -/
structure Learns (K : State → Prop) : Prop where
  agreesWithin {s t} : K s → s.Agrees t → K t
  yieldTo {s t p} : s.running = true → (s.entry t).isOwn = true → K s → K (s.yieldTo t p)

namespace Learns
variable {K : State → Prop} (k : Learns K) {s : State} (run : s.running = true) (h : K s)
include k run h

theorem dualHold {t : Trunk} (own : (s.entry t).isOwn = true) (p : Slot) : K (s.dualHold t p) := by
  have counted : K s.countDual := k.agreesWithin h (State.agrees_of_same (by simp) fun _ => rfl)
  unfold State.dualHold
  dsimp only
  split
  · exact counted
  · exact k.yieldTo (by simpa [State.running] using run) own counted

theorem learnHeld (t : Trunk) (p : Slot) : K (s.learnHeld t p) := by
  unfold State.learnHeld
  split
  · exact k.dualHold run h (by simp [TrunkEntry.isOwn, *]) p
  · split
    · exact h
    · exact k.agreesWithin h (State.agrees_makeHeld (by simp [TrunkEntry.isOwn, *]) p none)
  · exact k.agreesWithin h (State.agrees_makeHeld (by simp [TrunkEntry.isOwn, *]) p none)

theorem applyPlace (p : Slot) (held retired : Bool) (t : Trunk) : K (s.applyPlace p held retired t) := by
  have placed : K (if held then s.learnHeld t p
      else if (s.entry t).isHeldBy p then s.setEntry t ((s.entry t).freed s.scanTime) else s) := by
    split
    · exact k.learnHeld run h t p
    · split
      · exact k.agreesWithin h (State.agrees_peerFrees ‹_›)
      · exact h
  unfold State.applyPlace
  dsimp only
  split
  · exact k.agreesWithin placed (State.agrees_applyRetire p t)
  · exact k.agreesWithin placed (State.agrees_applyRestore p t)

theorem applyReport (p : Slot) (count : Nat) (held retired : Byte) (mismatch : Bool) :
    (s.applyReport p count held retired mismatch).running = true ∧ K (s.applyReport p count held retired mismatch) := by
  have mapped (trunks : List Trunk) {u : State} (running : u.running = true) (hu : K u) :
      (trunks.foldl (fun s t => s.applyPlace p (mapHas held t) (mapHas retired t) t) u).running = true ∧
        K (trunks.foldl (fun s t => s.applyPlace p (mapHas held t) (mapHas retired t) t) u) := by
    induction trunks generalizing u with
    | nil => exact ⟨running, hu⟩
    | cons t rest ih => exact ih (by simpa [State.running] using running) (k.applyPlace running hu p _ _ t)
  obtain ⟨running, learnt⟩ := mapped ((List.finRange 8).filter (s.refresh p).fitted) (by simpa [State.running] using run)
    (k.agreesWithin h (State.agrees_refresh p))
  exact ⟨(State.agrees_setPeer p _).running.trans running, k.agreesWithin learnt (State.agrees_setPeer p _)⟩

theorem applyObjection (t : Trunk) (code : Nat) (o : Slot) : K (s.applyObjection t code o) := by
  unfold State.applyObjection
  split
  · exact h
  · split
    · exact k.learnHeld run h t o
    · exact k.agreesWithin h (State.agrees_applyRetire o t)

theorem fromPeer (p : Slot) (t : Trunk) {apply : State → State}
    (applied : ∀ u : State, u.running = true → K u → K (apply u)) : K (s.fromPeer p t apply) := by
  have refreshed : K (s.refresh p) := k.agreesWithin h (State.agrees_refresh p)
  unfold State.fromPeer
  dsimp only
  split
  · exact applied _ (by simpa [State.running] using run) refreshed
  · exact k.agreesWithin refreshed (State.agrees_setPeer p _)

end Learns

/-! ## What the parts of a command keep -/

/-- The parts of the commands keep a law: `P` is what holds between commands, `K` what holds of it while a command acts,
before the Hunt Unit and the arbiter have judged, and `A` the station states in which a station with something to serve
can be. Each field is an act of a running station, under what its command has found. -/
structure Kept (P K : State → Prop) (A : StationState → Prop) : Prop extends Learns K where
  within {s} : P s → K s
  agrees {s t} : P s → s.Agrees t → P t
  served {s} : P s → ¬ s.Unserved → A s.ctl.station
  serving : A .active ∧ A .isolated
  settle {s} : s.running = true → K s → P s.settle
  settleSenders {s} : s.running = true → K s → P s.settleSenders
  -- Station Control
  beginReset {s} : P s → P s.beginReset
  endReset s pins : P (State.endReset s pins)
  halt {s st} : s.running = true → st.halted = true → P s → P (s.halt st)
  enterListen {s} : s.running = true → s.ctl.station = .selfTest → P s → P s.enterListen
  activating {s} : s.running = true → s.ctl.station = .listen ∨ s.ctl.station = .rejoin → P s → P s.activating
  isolating {s} : s.running = true → P s → P s.isolating
  enterRejoin {s} : s.running = true → s.ctl.station = .isolated → P s → P s.enterRejoin
  -- calls
  startCall {s l} : s.running = true → s.ctl.station.callsStart = true → (s.call l).state = .idle → P s → P (s.startCall l)
  clearCall {s l} : s.running = true → (s.call l).state.inCall = true → (s.scanLine l).loop = .opened → P s →
    K (s.clearCall l)
  lockout {s l} : s.running = true → (s.call l).state = .collecting ∨ (s.call l).state = .hunting → P s → P (s.lockout l)
  enterHunting {s l} : s.running = true → (s.call l).state = .collecting → P s → K (s.enterHunting l)
  collects {s l q d} : s.running = true → (s.call l).state = .collecting → P s →
    P (s.setCall l { s.call l with queue := q, firstTimer := none, dialTimer := d })
  requeues {s l q d} : s.running = true → P s → K (s.setCall l { s.call l with queue := q, dialTimer := d })
  blockedEdge {s l x} : s.running = true → (s.call l).state = .blocked → P s →
    P ((s.setScan l x).setLko l (x.loop = .closed))
  blockLine {s l} : s.running = true → A s.ctl.station → P s → P (s.blockLine l)
  unblockLine {s l} : s.running = true → A s.ctl.station → P s → P (s.unblockLine l)
  -- the transmit queue and the link
  place {s f} : s.running = true → A s.ctl.station → f.key ≠ .claim → P s → P (s.place f)
  placeWithin {s f} : s.running = true → A s.ctl.station → f.key ≠ .claim → K s → K (s.place f)
  startFrame {s joining} : s.running = true → P s → P (s.startFrame joining)
  flightEnds {s} : s.running = true → s.link.own = none → P s → P s.flightEnds
  sent {s} : s.running = true → P s → P (s.setTx s.tx.sent)
  replies {s k} : s.running = true → s.replies = true → k.own = none ∨ k.own = s.link.own → P s → P (s.setLink k)
  -- claims and probes
  ownClaim {s k t line outcome} : s.running = true → s.link.own = some (encodeFrame (.claim s.slot t line)) →
    k.own = none → k.reply = s.link.reply → P s → P ((s.setLink k).ownClaim t line outcome)
  holdsProbe {s t} : s.running = true → s.ctl.station = .active → P s → P (s.setHunt { s.hunt with probe := some t })
  claimsProbe {s t} : s.running = true → s.ctl.station = .active → s.hunt.claim = none → s.probeCandidate t = true →
    P s → P ((s.place (.claim t none)).setHunt
      { s.hunt with probe := none, claim := some { trunk := t, owner := .probe, stage := .queued } })
  -- trunks and senders
  establish {s t ses l} : s.running = true → s.session t = some ses → ses.state = .waitPts → ses.purpose = .line l → P s →
    P (s.establish t ses l)
  seizureFails {s t ses l} : s.running = true → s.session t = some ses → ses.state = .waitPts → ses.purpose = .line l →
    P s → P (s.seizureFails t l)
  switchCleared {s t ses l} : s.running = true → s.session t = some ses → ses.purpose = .line l → P s →
    K ((s.endSession t .switchClear).lockout l)
  probeEnds {s t ses cause} : s.running = true → s.session t = some ses → ses.state = .probeWait → P s →
    K (s.endSession t cause)
  breakEnds {s t ses} : s.running = true → s.session t = some ses → ses.state = .recallBreak → P s →
    K (((s.setSession t (some { ses with state := .established, breakTimer := none })).setSeize t true).breakOver t)
  codeBoundary {s i} : s.running = true → (s.sender i).state = .gap → P s → K (s.codeBoundary i)
  silenceEnds {s i l} : s.running = true → (s.sender i).state = .recallSilence → (s.sender i).line = some l → P s →
    K ((s.removeHead l).codeBoundary i)

namespace Kept
variable {P K : State → Prop} {A : StationState → Prop} (k : Kept P K A) {s : State}
include k

/-! ## Commands -/

/-- A command keeps what its effect keeps, in a station that runs. -/
theorem act (h : P s) {t : State} {w : Nat} {f : State → State} (e : s.act w f = .next t)
    (effect : ∀ u : State, u.running = true → P u → P (f u)) : P t :=
  State.act_keeps e h fun run => effect _ run (k.agrees h (State.agrees_advance w))

omit k in
/-- A command whose condition does not hold changes nothing. -/
theorem guarded {t : State} (h : P s) {p : Prop} [Decidable p] (effect : p → P t) : P (if p then t else s) := by
  split
  · exact effect ‹_›
  · exact h

/-! ## Entries of Station Control -/

theorem startCalls {lines : List Line} (run : s.running = true) (starts : s.ctl.station.callsStart = true)
    (nodup : lines.Nodup) (idle : ∀ l ∈ lines, (s.call l).state = .idle) (h : P s) :
    P (lines.foldl State.startCall s) := by
  induction lines generalizing s with
  | nil => exact h
  | cons l rest ih =>
    obtain ⟨fresh, nodup⟩ := List.nodup_cons.1 nodup
    refine ih (by simpa [State.running] using run) (by simpa using starts) nodup (fun m hm => ?_)
      (k.startCall run starts (idle l List.mem_cons_self) h)
    have apart : m ≠ l := fun e => fresh (e ▸ hm)
    rw [(s.lineStands_startCall l apart).1]
    exact idle m (List.mem_cons_of_mem l hm)

theorem reoffer (run : s.running = true) (starts : s.ctl.station.callsStart = true) (h : P s) : P s.reoffer := by
  have started := k.startCalls run starts s.reoffers_nodup (fun l hl => by
    have offered := State.mem_reoffers.1 hl
    simp only [State.reofferable, Bool.and_eq_true, decide_eq_true_eq] at offered
    exact offered.1.1) h
  exact k.agrees started (State.agrees_of_same ⟨rfl, rfl, rfl, rfl, rfl, rfl, rfl, rfl, rfl, rfl, rfl, rfl, rfl, rfl, rfl,
    rfl⟩ fun _ => rfl)

theorem enterActive (run : s.running = true) (enters : s.ctl.station = .listen ∨ s.ctl.station = .rejoin) (h : P s) :
    P s.enterActive := by
  have active : s.activating.running = true := by
    simp only [State.running, Bool.and_eq_true] at run
    simp [State.activating, State.running, StationState.halted, run]
  have offered := k.reoffer active rfl (k.activating run enters h)
  rw [State.enterActive_eq]
  exact k.settle (by simpa [State.running] using active) (k.within offered)

theorem enterIsolated (run : s.running = true) (h : P s) : P s.enterIsolated := by
  have isolated := k.isolating run h
  have running : s.isolating.running = true := by
    simp only [State.running, Bool.and_eq_true] at run
    simpa [State.isolating, State.running, StationState.halted] using run.1
  rw [State.enterIsolated_eq]
  split
  · exact k.reoffer running (by simp [State.isolating, StationState.callsStart]) isolated
  · exact isolated

/-! ## Errors of the link -/

theorem receiveFails (h : P s) (m : Nat) : P (s.receiveFails m) := by
  have counted : P (s.setLink (s.link.recessive m).waitEof).countRx :=
    k.agrees h ((State.agrees_setLink ⟨.inl rfl, .inr (by simp)⟩).trans (State.agrees_setLink ⟨.inr rfl, .inr rfl⟩))
  unfold State.receiveFails
  dsimp only
  split
  · exact k.beginReset counted
  · exact counted

theorem transmitFails (run : s.running = true) (h : P s) (m : Nat) : P (s.transmitFails m) := by
  have dropped (a : Byte) (b : Nat) : P (s.setLink { (s.link.recessive m).waitEof with
      reply := none, txErrors := a, errorRun := b }) :=
    k.agrees h (State.agrees_setLink ⟨.inl rfl, .inl rfl⟩)
  have ended := k.flightEnds (s := s.setLink { (s.link.recessive m).waitEof with
    reply := none, txErrors := counted (s.link.recessive m).waitEof.txErrors
    errorRun := (s.link.recessive m).waitEof.errorRun + 1 }) (by simpa using run) rfl (dropped _ _)
  unfold State.transmitFails
  dsimp only
  split
  · exact k.enterIsolated (by simpa [State.running] using run) ended
  · exact k.settle (by simpa [State.running] using run) (k.within ended)

theorem wireError (run : s.running = true) (h : P s) (m : Nat) : P (s.wireError m) := by
  unfold State.wireError
  split
  · exact k.transmitFails run h m
  · exact k.receiveFails h m

omit k in
/-- An error leaves the receiver in WAIT EOF (R77, R82, R83). -/
theorem wireError_rx (m : Nat) : (s.wireError m).link.rx = .waitEof := by
  unfold State.wireError
  split
  · exact (s.transmitFails_sets m).1
  · unfold State.receiveFails
    dsimp only
    split <;> rfl

theorem signalFails (run : s.running = true) (h : P s) (m : Nat) :
    P (s.signalFails m) ∧ ((s.signalFails m).running = true ∨ (s.signalFails m).link.rx = .waitEof) := by
  have left : P (s.setLink (s.link.recessive m).waitEof) :=
    k.agrees h (State.agrees_setLink ⟨.inl rfl, .inr (by simp)⟩)
  unfold State.signalFails
  dsimp only
  split
  · exact ⟨k.wireError run h m, .inr (wireError_rx m)⟩
  · split
    · exact ⟨k.halt (by simpa using run) rfl left, .inr (by simp [State.halt])⟩
    · exact ⟨left, .inr rfl⟩
  · exact ⟨h, .inl run⟩

/-! ## The receiver's readings -/

theorem judgeWire (run : s.running = true) (h : P s) (faults : List LineFault) {link : Link} (on : s.link.GoesOn link) :
    P (s.judgeWire faults link) ∧
      ((s.judgeWire faults link).running = true ∨ (s.judgeWire faults link).link.rx = .waitEof) := by
  have read : P (s.setLink link) := k.agrees h (State.agrees_setLink on)
  unfold State.judgeWire
  split
  · exact k.signalFails (by simpa using run) read _
  · exact ⟨read, .inl (by simpa using run)⟩

/-- The reply EOD keeps the law, and a station that it stops has its receiver in WAIT EOF. -/
theorem replyEod (run : s.running = true) (h : P s) :
    P s.replyEod ∧ (s.replyEod.running = true ∨ s.replyEod.link.rx = .waitEof) := by
  unfold State.replyEod
  dsimp only
  split
  · exact k.judgeWire run h _ ⟨.inr rfl, .inr rfl⟩
  · exact ⟨h, .inl run⟩

theorem nextCell (run : s.running = true) (h : P s) (buffer : List Byte) {link : Link} (on : s.link.GoesOn link) :
    P (s.nextCell buffer link) := by
  unfold State.nextCell
  dsimp only
  split
  · exact k.agrees h (State.agrees_setLink on)
  · exact (k.judgeWire run h _ on).1

section
variable (live : s.running = true ∨ s.link.rx = .waitEof) (h : P s)
include live h

theorem wireFalls : P s.wireFalls := by
  have fell : s.link.GoesOn (s.link.fell s.now) := ⟨.inr rfl, .inr rfl⟩
  have toLink {link : Link} (on : s.link.GoesOn link) : P (s.setLink link) := k.agrees h (State.agrees_setLink on)
  unfold State.wireFalls
  dsimp only
  split
  · exact toLink ⟨.inl rfl, .inr rfl⟩
  · split
    · exact toLink ⟨.inr rfl, .inr rfl⟩
    · exact (k.judgeWire (live.resolve_right (by simp [*])) h _ (by exact ⟨.inr rfl, .inr rfl⟩)).1
    · exact k.nextCell (live.resolve_right (by simp [*])) h _ fell
    · split
      · exact toLink ⟨.inr rfl, .inr rfl⟩
      · exact (k.judgeWire (live.resolve_right (by simp [*])) h _ fell).1
    · split
      · exact toLink fell
      · exact k.nextCell (live.resolve_right (by simp [*])) h _ fell
    · exact (k.judgeWire (live.resolve_right (by simp [*])) h _ fell).1
    · exact toLink fell
    · exact toLink fell

theorem wireRises : P s.wireRises := by
  have rose : s.link.GoesOn (s.link.rose s.now) := ⟨.inr rfl, .inr rfl⟩
  have bit (b : Bool) : s.link.GoesOn ((s.link.rose s.now).readBit b) := by
    unfold Link.readBit
    split <;> exact ⟨.inr rfl, .inr rfl⟩
  unfold State.wireRises
  dsimp only
  split
  · exact (k.judgeWire (live.resolve_right (by simp [*])) h _ (by exact ⟨.inr rfl, .inr rfl⟩)).1
  · exact (k.judgeWire (live.resolve_right (by simp [*])) h _ (bit _)).1
  · exact (k.judgeWire (live.resolve_right (by simp [*])) h _ (bit _)).1
  · exact k.agrees h (State.agrees_setLink rose)

theorem wireHolds : P s.wireHolds := by
  have still : s.link.GoesOn (s.link.stillRecessive s.now) := ⟨.inr rfl, .inr rfl⟩
  have stands : s.link.GoesOn s.link := ⟨.inr rfl, .inr rfl⟩
  unfold State.wireHolds
  dsimp only
  split
  · exact guarded h fun _ => (k.judgeWire (live.resolve_right (by simp [*])) h _ stands).1
  · exact guarded h fun _ => (k.judgeWire (live.resolve_right (by simp [*])) h _ stands).1
  · exact guarded h fun _ => (k.judgeWire (live.resolve_right (by simp [*])) h _ stands).1
  · exact h
  · exact (k.judgeWire (live.resolve_right (by simp [*])) h _ still).1
  · exact k.agrees h (State.agrees_setLink still)
end

theorem readWire (run : s.running = true) (h : P s) (level : Bool) : P (s.readWire level) := by
  obtain ⟨read, live⟩ := k.replyEod run h
  unfold State.readWire
  dsimp only
  split
  · exact k.wireFalls live read
  · exact k.wireRises live read
  · exact k.wireHolds live read

end Kept
end Sys2Proof.Machine
end

section
/-! What every step keeps: the commands of lines, frames, maintenance and trunks, and every step. -/

namespace Sys2Proof.Machine
open Sys2Proof

/-! ## The bytes of a CLAIM -/

theorem octalByte_of_octal {b : Byte} {x : Fin 8} (h : octal b = some x) : octalByte x = b := by
  unfold octal at h
  split at h
  · cases h
    simp [octalByte]
  · cases h

theorem elim_octalByte_of_claimLine {b : Byte} {l : Option Line} (h : claimLine b = some l) : l.elim 8 octalByte = b := by
  unfold claimLine at h
  split at h
  · cases h
    exact Eq.symm ‹_›
  · obtain ⟨x, hx, rfl⟩ := Option.map_eq_some_iff.1 h
    exact octalByte_of_octal hx

theorem withCheck_of_checkGood {bytes : List Byte} {check : Byte} (h : checkGood (bytes ++ [check]) = true) :
    withCheck bytes = bytes ++ [check] := by
  simp only [checkGood, byteSum, List.foldl_append, List.foldl_cons, List.foldl_nil, Bool.and_eq_true,
    decide_eq_true_eq] at h
  have check : checkByte bytes = check := by
    rw [checkByte, byteSum, ← h.2]
    simp
  rw [withCheck, check]

theorem header_of_octal {kind : Nat} (few : kind < 16) {slot : HeaderSlot} {p : Slot}
    (h : octal (header kind slot &&& 15) = some p) : headerSlot p = slot := by
  have low : (header kind slot &&& 15).toNat = slot.toNat := by
    have := slot.isLt
    rw [BitVec.toNat_and, header, BitVec.toNat_ofNat, Nat.mod_eq_of_lt (by omega)]
    have mask : (15 : Byte).toNat = 2 ^ 4 - 1 := rfl
    rw [mask, Nat.and_two_pow_sub_one_eq_mod]
    omega
  unfold octal at h
  split at h
  · cases h
    show BitVec.ofNat 4 (header kind slot &&& 15).toNat = slot
    rw [low, BitVec.ofNat_toNat, BitVec.setWidth_eq]
  · cases h

/-- A CLAIM read from good bytes is the frame of these bytes (R92, R93). -/
theorem encodeFrame_of_parse_claim {slot : HeaderSlot} {trunk line check : Byte} {p : Slot} {t : Trunk} {l : Option Line}
    (good : checkGood [header 2 slot, trunk, line, check] = true)
    (parsed : parseFrame [header 2 slot, trunk, line, check] = some (.claim p t l)) :
    encodeFrame (.claim p t l) = [header 2 slot, trunk, line, check] := by
  have kind : (header 2 slot).toNat / 16 = 2 := by
    have := slot.isLt
    rw [header, BitVec.toNat_ofNat, Nat.mod_eq_of_lt (by omega)]
    omega
  unfold parseFrame at parsed
  simp only [kind] at parsed
  cases hp : octal (header 2 slot &&& 15) with
  | none => simp only [hp, reduceCtorEq] at parsed
  | some q =>
    cases ht : octal trunk with
    | none => simp only [hp, ht, Option.bind_eq_bind, Option.bind_none, reduceCtorEq] at parsed
    | some u =>
      cases hl : claimLine line with
      | none => simp only [hp, ht, hl, Option.bind_eq_bind, Option.bind_some, Option.bind_none, reduceCtorEq] at parsed
      | some m =>
        simp only [hp, ht, hl, Option.bind_eq_bind, Option.bind_some, Option.pure_def, Option.some.injEq,
          LinkFrame.claim.injEq] at parsed
        obtain ⟨rfl, rfl, rfl⟩ := parsed
        have bytes := withCheck_of_checkGood (bytes := [header 2 slot, trunk, line]) good
        simp only [encodeFrame, header_of_octal (by omega) hp, octalByte_of_octal ht, elim_octalByte_of_claimLine hl]
        exact bytes
end Sys2Proof.Machine
end

section
/-! What every step keeps: the commands of a line, of the start-up and of the link. -/

namespace Sys2Proof.Machine.Kept
open Sys2Proof

section
variable {P K : State → Prop} {A : StationState → Prop} (k : Kept P K A) {s : State} (run : s.running = true) (h : P s)
include k run h

/-! ## Entries and edges -/

theorem lockoutSettled {l : Line} (locks : (s.call l).state = .collecting ∨ (s.call l).state = .hunting) :
    P (s.lockout l).settle :=
  k.settle (by simpa [State.running] using run) (k.within (k.lockout run locks h))

theorem enterHuntingSettled {l : Line} (collecting : (s.call l).state = .collecting) : P (s.enterHunting l).settle :=
  k.settle (by simpa [State.running] using run) (k.enterHunting run collecting h)

theorem requeuesSettled {l : Line} (q : List Entry) (d : DialTimer) :
    P (s.setCall l { s.call l with queue := q, dialTimer := d }).settleSenders :=
  k.settleSenders (by simpa [State.running] using run) (k.requeues run h)

theorem handEntry (l : Line) (e : Entry) : P (s.handEntry l e) := by
  by_cases calling : (s.call l).state = .hunting ∨ (s.call l).state = .seizing ∨ (s.call l).state = .dialling
  · rw [State.handEntry_calling calling]
    split
    · exact h
    · split
      · exact k.requeuesSettled run h _ _
      · exact k.agrees h (State.agrees_setCall ⟨rfl, rfl, rfl, rfl, rfl, rfl, rfl, rfl⟩)
  · unfold State.handEntry
    dsimp only
    split
    · rename_i collecting
      split
      · have joined (q : List Entry) (d : DialTimer) := k.collects (q := q) (d := d) run collecting h
        split
        · exact k.enterHuntingSettled (by simpa [State.running] using run) (joined _ _) (by simpa using collecting)
        · exact joined _ _
      · exact k.lockout run (.inl collecting) h
      · exact h
    all_goals simp_all

theorem takeDecoded (l : Line) (r : Decoded) : P (s.takeDecoded l r) := by
  have told : P (if r.notice then (s.setDec l r.dec).toneOff l else s.setDec l r.dec) := by
    have decoded := k.agrees h (State.agrees_setDec l r.dec)
    split
    · exact k.agrees decoded (State.agrees_toneOff l)
    · exact decoded
  unfold State.takeDecoded
  dsimp only
  split
  · refine k.handEntry ?_ told l _
    split <;> simpa [State.running] using run
  · exact told

/-- A sample's new filter and the edge handed on by it keep the law: an edge of a BLOCKED line moves its lockout output
with its loop (R62). -/
theorem applySample (l : Line) (present : Bool) : P (s.applySample l present) := by
  unfold State.applySample
  dsimp only
  split
  · exact k.agrees h (State.agrees_setScan fun _ => rfl)
  · rename_i edge _
    by_cases blocked : (s.call l).state = .blocked
    · simpa [State.handEdge, blocked] using k.blockedEdge run blocked h
        (x := { s.scanLine l with
          integ := integrate (s.scanLine l).integ present, loop := edge, lastEdge := s.scanTime, lastSample := s.scanTime })
    · have filtered := k.agrees h (State.agrees_setScan (l := l) (x := { s.scanLine l with
        integ := integrate (s.scanLine l).integ present, loop := edge, lastEdge := s.scanTime,
        lastSample := s.scanTime }) fun is => absurd is blocked)
      unfold State.handEdge
      split
      · exact k.agrees filtered (State.agrees_setScan (by simp [*]))
      · simp_all
      · exact filtered
      · split
        · exact k.takeDecoded (by simpa [State.running] using run) filtered l _
        · exact k.agrees filtered (State.agrees_setDec l _)

/-! ## Marks -/

theorem offHookMark (l : Line) : P (s.offHookMark l) := by
  have marked := k.agrees h (State.agrees_setScan (l := l) (x := { s.scanLine l with guard := .marked }) fun _ => rfl)
  unfold State.offHookMark
  dsimp only
  split
  · refine guarded h fun ⟨idle, _⟩ => ?_
    split
    · have running : (s.setScan l { s.scanLine l with guard := .marked }).running = true := by
        simpa [State.running] using run
      exact k.settle (by simpa [State.running] using run)
        (k.within (k.startCall running (by simpa using ‹s.ctl.station.callsStart = true›) (by simpa using idle) marked))
    · exact marked
  · exact h

theorem clearMark (l : Line) : P (s.clearMark l) := by
  unfold State.clearMark
  exact guarded h fun mark => k.settle (by simpa [State.running] using run) (k.clearCall run mark.1 mark.2.1 h)

theorem thresholdMark (l : Line) : P (s.thresholdMark l) := by
  unfold State.thresholdMark
  exact guarded h fun _ => k.takeDecoded run h l _

theorem takeMarks (l : Line) : P (s.takeMarks l) := by
  have offHook := k.offHookMark run h l
  have running : (s.offHookMark l).running = true := by simpa [State.running] using run
  have cleared := k.clearMark running offHook l
  exact k.thresholdMark (by simpa [State.running] using running) cleared l

theorem endOfDialling (l : Line) :
    P (if (s.call l).dialTimer.due s.scanTime then
      match (s.call l).state with
      | .collecting => (s.enterHunting l).settle
      | .hunting | .seizing | .dialling => (s.setCall l { s.call l with dialTimer := .expired }).settleSenders
      | _ => s
    else s) := by
  refine guarded h fun _ => ?_
  have expired := k.requeuesSettled (l := l) run h (s.call l).queue .expired
  split
  · exact k.enterHuntingSettled run h ‹_›
  iterate 3 exact expired
  · exact h

/-! ## Start-up -/

theorem testEnds (test : s.ctl.station = .selfTest) (start : Nat) (outcome : TestOutcome) : P (s.testEnds start outcome) := by
  unfold State.testEnds
  split
  · split
    · exact k.enterListen run test h
    · have handed : s.Agrees (s.setCtl { s.ctl with testFrame := s.ctl.testFrame + 1, testStart := none }) :=
        State.agrees_of_same (by simp) fun _ => rfl
      exact k.agrees (k.agrees h handed) (State.agrees_setLink ⟨.inr (by simp [Link.loopedEod]), .inr (by simp [Link.loopedEod])⟩)
  · exact k.halt run rfl h

omit run in
theorem startTestFrame : P s.startTestFrame := by
  unfold State.startTestFrame
  have begun : s.Agrees (s.setCtl { s.ctl with testStart := some s.now }) := State.agrees_of_same (by simp) fun _ => rfl
  exact guarded h fun _ => k.agrees (k.agrees h begun) (State.agrees_setLink ⟨.inl rfl, .inr rfl⟩)

/-! ## Outcomes of frames, and the end of a frame -/

theorem arbitrationLost :
    P (if (s.setLink { s.link with own := none, reply := none, arbLosses := counted s.link.arbLosses }).tx.flight.isSome then
      (s.setLink { s.link with own := none, reply := none, arbLosses := counted s.link.arbLosses }).flightEnds.settle
      else s.setLink { s.link with own := none, reply := none, arbLosses := counted s.link.arbLosses }) := by
  have lost := k.agrees h (State.agrees_setLink (k := { s.link with
    own := none, reply := none, arbLosses := counted s.link.arbLosses }) ⟨.inl rfl, .inl rfl⟩)
  split
  · exact k.settle (by simpa [State.running] using run)
      (k.within (k.flightEnds (by simpa [State.running] using run) rfl lost))
  · exact lost

end
end Sys2Proof.Machine.Kept
end

section
/-! What every step keeps: the frames heard, the maintenance commands and the trunks. -/

namespace Sys2Proof.Machine.Kept
open Sys2Proof

section
variable {P K : State → Prop} {A : StationState → Prop} (k : Kept P K A) {s : State} (run : s.running = true)
include k run

section
variable (h : P s)
include h

/-! ## Frames heard -/

/-- A frame heard is handed on or ends in an error (R94). -/
theorem hear {bytes : List Byte} {handOn : LinkFrame → State → State} (handed : ∀ f, P (handOn f s)) :
    P (s.hear bytes handOn) := by
  unfold State.hear
  refine guarded h fun _ => ?_
  split
  · exact handed _
  · exact k.wireError run h _

theorem handToView (p : Slot) (bytes : List Byte) {peers : State → State}
    (applied : ∀ u : State, u.running = true → K u → (peers u).running = true ∧ K (peers u)) :
    P (s.handToView p bytes peers) := by
  have read := k.agrees h (State.agrees_setLink (k := { s.link.afterData bytes false s.now with own := none })
    ⟨.inl rfl, .inr (by simp [Link.afterData])⟩)
  unfold State.handToView
  dsimp only
  split
  · split
    · exact read
    · exact k.halt (by simpa [State.running] using run) rfl read
  · obtain ⟨running, learnt⟩ := applied _ (by simpa [State.running] using run) (k.within read)
    exact k.settle running learnt

/-- A frame of a peer on one trunk, where what it does to the view is read by no law. -/
theorem handFromPeer (p : Slot) (t : Trunk) (bytes : List Byte) {apply : State → State}
    (agrees : ∀ u : State, u.Agrees (apply u)) : P (s.handToView p bytes fun u => u.fromPeer p t apply) := by
  refine k.handToView run h p bytes fun u running hu => ?_
  have refreshed : u.Agrees (u.refresh p) := State.agrees_refresh p
  have learnt : u.Agrees (u.fromPeer p t apply) := by
    unfold State.fromPeer
    dsimp only
    split
    · exact refreshed.trans (agrees _)
    · exact refreshed.trans (State.agrees_setPeer p _)
  exact ⟨learnt.running.trans running, k.agreesWithin hu learnt⟩

/-! ## Claims at EOF -/

theorem peerClaim (p : Slot) (t : Trunk) (line : Option Line) (outcome : ClaimOutcome) (driven : Bool) :
    P (s.peerClaim p t line outcome driven) := by
  unfold State.peerClaim
  split
  · exact k.settle (by simpa [State.running, State.fromPeer, apply_ite] using run) (k.fromPeer run (k.within h) p t fun u _ hu =>
      k.agreesWithin hu (State.agrees_peerEffective p t line))
  · rename_i code o
    split
    · exact k.halt run rfl h
    · have refreshed : K (s.refresh o) := k.agreesWithin (k.within h) (State.agrees_refresh o)
      exact k.settle (by simpa [State.running, State.fromPeer, apply_ite] using run)
        (k.fromPeer (by simpa [State.running] using run) refreshed p t fun u running hu => k.applyObjection running hu t code o)
  · exact h

end
end
end Sys2Proof.Machine.Kept
end

section
/-! What every step keeps: claims, maintenance, trunks and senders. -/

namespace Sys2Proof.Machine.Kept
open Sys2Proof

section
variable {P K : State → Prop} {A : StationState → Prop} (k : Kept P K A) {s : State} (run : s.running = true) (h : P s)
include k run h

/-! ## Claims at EOF -/

/-- What the marker decides of a CLAIM at its EOF, once the receiver has taken the EOF (R97, R198). -/
theorem claimJudged {link : Link} (own : link.own = none) (reply : link.reply = s.link.reply) {p : Slot} {t : Trunk}
    {line : Option Line} (outcome : ClaimOutcome) (driven : Bool)
    (marked : s.link.own.isSome = true → p = s.slot → s.link.own = some (encodeFrame (.claim p t line))) :
    P (if p = s.slot then
        if s.link.own.isSome then (s.setLink link).ownClaim t line outcome
        else if outcome = .refused then s.setLink link else (s.setLink link).halt .slotConflict
      else (s.setLink link).peerClaim p t line outcome driven) := by
  have read := k.agrees h (State.agrees_setLink (k := link) ⟨.inl own, .inr reply⟩)
  have running : (s.setLink link).running = true := by simpa [State.running] using run
  split
  · rename_i ours
    split
    · exact k.ownClaim run (by rw [← ours]; exact marked ‹_› ours) own reply h
    · split
      · exact read
      · exact k.halt running rfl read
  · exact k.peerClaim running read p t line outcome driven

theorem claimAtEof {p : Slot} {t : Trunk} {line : Option Line} (outcome : ClaimOutcome)
    (marked : s.link.own.isSome = true → p = s.slot → s.link.own = some (encodeFrame (.claim p t line))) :
    P (s.claimAtEof p t line outcome) := by
  have eof : (s.link.afterEof s.now).own = none ∧ (s.link.afterEof s.now).reply = s.link.reply := by
    simp [Link.afterEof]
  obtain ⟨link, own, reply, taken⟩ : ∃ link : Link, link.own = none ∧ link.reply = s.link.reply ∧
      (if outcome = .refused then (s.setLink { s.link.afterEof s.now with rx := .waitEof }).countRx
        else s.setLink (s.link.afterEof s.now)) = s.setLink link := by
    split
    · exact ⟨{ s.link.afterEof s.now with rx := .waitEof, rxErrors := counted (s.link.afterEof s.now).rxErrors },
        eof.1, eof.2, rfl⟩
    · exact ⟨_, eof.1, eof.2, rfl⟩
  unfold State.claimAtEof
  dsimp only
  rw [taken]
  exact k.claimJudged run h own reply outcome _ marked

/-! ## Maintenance -/

theorem answer (target : Slot) (bytes reply : List Byte) (kind : ReplyKind) : P (s.answer target bytes reply kind) := by
  unfold State.answer
  split
  · rename_i ours
    exact k.replies run ours.2 (.inr (by simp [Link.driveReply, Link.afterData])) h
  · exact k.agrees h (State.agrees_setLink ⟨.inl rfl, .inr (by simp)⟩)

theorem commandHeard (slot : HeaderSlot) (target code arg check : Byte) :
    P (s.commandHeard slot target code arg check) := by
  unfold State.commandHeard
  refine k.hear run h fun f => ?_
  dsimp only
  split
  · exact k.answer run h _ _ _ _
  · exact h

section
variable (served : A s.ctl.station)
include served

theorem retireTrunk (t : Trunk) : P (s.retireTrunk t) := by
  unfold State.retireTrunk
  split
  · exact h
  · split
    · split
      · rename_i opened
        exact k.agrees h (State.agrees_setSession opened rfl)
      · exact h
    · have retired := k.within (k.agrees h (State.agrees_setRetiredBy t (some s.slot)))
      have placed := k.placeWithin (f := .retire t .maintenance) (by simpa [State.running] using run)
        (by simpa using served) (by simp [TxFrame.key]) retired
      exact k.settle (by simpa [State.running] using run)
        (k.agreesWithin placed (State.agrees_of_same (by simp [State.retireSelf]) fun u => by simp [State.retireSelf, State.entry]))

omit h in
theorem restoreSelf (within : K s) (t : Trunk) : P (s.restoreSelf t).settle := by
  have restored := k.agreesWithin within (State.agrees_setRetiredBy t none)
  have placed := k.placeWithin (f := .restore t) (by simpa [State.running] using run)
    (by simpa using served) (by simp [TxFrame.key]) restored
  exact k.settle (by simpa [State.running] using run)
    (k.agreesWithin placed (State.agrees_of_same (by simp [State.restoreSelf]) fun u => by simp [State.restoreSelf, State.entry]))

theorem restoreTrunk (t : Trunk) : P (s.restoreTrunk t) := by
  unfold State.restoreTrunk
  split
  · exact k.restoreSelf run served (k.within h) t
  · split
    · rename_i opened
      exact k.agrees h (State.agrees_setSession opened rfl)
    · exact h

theorem carryOut (code arg : Byte) : P (s.carryOut code arg) := by
  unfold State.carryOut
  split
  · exact k.blockLine run served h
  · exact k.unblockLine run served h
  · exact k.retireTrunk run h served _
  · exact k.restoreTrunk run h served _
  · exact k.agrees h (State.agrees_setDec _ _)
  · exact k.agrees h (State.agrees_clearLineCounts _)
  · exact k.agrees h State.agrees_clearAllCounts
  · exact k.agrees h (State.agrees_of_same (by simp) fun _ => rfl)
  · exact h

end

theorem replyWasSent {r : Reply} (driven : s.link.reply = some r) : P (s.replyWasSent r) := by
  have served : A s.ctl.station := k.served h fun unserved => by
    obtain ⟨-, -, -, -, -, -, idle⟩ := unserved
    rw [idle] at driven
    cases driven
  have sent := k.agrees h (State.agrees_setLink (k := { s.link.recessive (s.ago eodCells) with
    rx := .afterReply, reply := none, replyBuf := r.bytes, bits := [], replyDriven := true, errorRun := 0 })
    ⟨.inr (by simp), .inl rfl⟩)
  unfold State.replyWasSent
  dsimp only
  split
  · split
    · exact sent
    · exact k.carryOut (by simpa [State.running] using run) sent served _ _
  · exact sent

/-! ## Trunks -/

omit run in
/-- A station with a session open serves (R169). -/
theorem serves {t : Trunk} {ses : Session} (opened : s.session t = some ses) : A s.ctl.station :=
  k.served h fun unserved => by
    obtain ⟨-, -, -, -, trunks, -, -⟩ := unserved
    rw [(trunks t).2] at opened
    cases opened

theorem probeFails {t : Trunk} {ses : Session} (opened : s.session t = some ses) (probe : ses.state = .probeWait) :
    P (s.probeFails t) := by
  have ended := k.probeEnds (cause := .ptsFail) run opened probe h
  exact k.settle (by simpa [State.running] using run) (k.agreesWithin ended (State.agrees_probeAgain t))

theorem probeAnswered {t : Trunk} {ses : Session} (opened : s.session t = some ses) (probe : ses.state = .probeWait) :
    P (s.probeAnswered t) := by
  have ended := k.probeEnds (cause := .probeDone) run opened probe h
  have running : (s.endSession t .probeDone).running = true := by simpa [State.running] using run
  unfold State.probeAnswered
  dsimp only
  split
  · exact k.restoreSelf running (by simpa using k.serves h opened) ended t
  · exact k.settle running ended

theorem switchClear {t : Trunk} {ses : Session} (opened : s.session t = some ses) :
    P (match ses.state, ses.purpose with
      | .waitPts, .line l => s.seizureFails t l
      | .established, .line l => ((s.endSession t .switchClear).lockout l).settle
      | .recallBreak, .line l => ((s.endSession t .switchClear).lockout l).settle
      | .probeWait, _ => s.probeFails t
      | _, _ => s) := by
  split
  · exact k.seizureFails run opened ‹_› ‹_› h
  · exact k.settle (by simpa [State.running] using run) (k.switchCleared run opened ‹_› h)
  · exact k.settle (by simpa [State.running] using run) (k.switchCleared run opened ‹_› h)
  · exact k.probeFails run h opened ‹_›
  · exact h

theorem busyChanged (t : Trunk) (busy : Bool) : P (s.busyChanged t busy) := by
  have tracked := k.agrees h (State.agrees_trackHome t busy)
  have running : (s.trackHome t busy).running = true := by simpa [State.running] using run
  unfold State.busyChanged
  dsimp only
  split
  · exact k.settle running (k.within tracked)
  · exact k.settle (by simpa [State.running] using running)
      (k.within (k.agrees tracked (State.agrees_setEntry (by simp [TrunkEntry.isOwn]))))

theorem inputSample (t : Trunk) (x : TrunkInput) (busy : Bool) :
    P (if (s.input t).lastSample = 0 then (s.setInput t x).trackHome t busy
      else if busy = (s.input t).busy then s.setInput t x else (s.setInput t x).busyChanged t busy) := by
  have sampled : P (s.setInput t x) := k.agrees h (State.agrees_of_same (by simp) fun _ => rfl)
  split
  · exact k.agrees sampled (State.agrees_trackHome t busy)
  · split
    · exact sampled
    · exact k.busyChanged (by simpa [State.running] using run) sampled t busy

theorem probeRequested {t : Trunk} (asks : s.ctl.station = .active ∧ s.hunt.claim = none ∧ s.hunt.queue = []) :
    P (if s.probeCandidate t then
        (s.place (.claim t none)).setHunt
          { s.hunt with probe := none, claim := some { trunk := t, owner := .probe, stage := .queued } }
      else (s.setHunt { s.hunt with probe := none }).probeNotMade t) := by
  obtain ⟨active, free, -⟩ := asks
  split
  · exact k.claimsProbe run active free ‹_› h
  · have dropped : s.Agrees (s.setHunt { s.hunt with probe := none }) :=
      { State.Agrees.refl (s := s) with probe := .inl rfl }
    exact k.agrees (k.agrees h dropped) (State.agrees_probeAgain t)

theorem probeInterval (t : Trunk) :
    P (if s.probing ∨ s.ctl.station ≠ .active then s.setProbeInterval t (s.after probeTime)
      else (s.setProbeInterval t none).setHunt { s.hunt with probe := some t }) := by
  have timed (x : Option Nat) : P (s.setProbeInterval t x) := k.agrees h (State.agrees_of_same (by simp) fun _ => rfl)
  split
  · exact timed _
  · rename_i asks
    have active : s.ctl.station = .active := by simpa using fun e => asks (.inr e)
    exact k.holdsProbe (s := s.setProbeInterval t none) (by simpa [State.running] using run) active (timed _)

theorem placeIsolatedProbe (isolated : s.ctl.station = .isolated) : P s.placeIsolatedProbe := by
  have placed := k.place (f := .report true) run (isolated ▸ k.serving.2) (by simp [TxFrame.key]) h
  exact k.agrees placed (State.agrees_of_same (by simp [State.placeIsolatedProbe]) fun _ => rfl)

end
end Sys2Proof.Machine.Kept
end

section
/-! What every step keeps: every command and every step. -/

namespace Sys2Proof.Machine

/-- A receiver in WAIT EOF has no frame to send out, none to end and no CLAIM in hand (R77). -/
theorem Link.waitEof_blind {k : Link} (waits : k.rx = .waitEof) (now : Nat) :
    (∀ f, k.sentNow f now = false) ∧ ∀ bytes reply, k.holdsClaim bytes reply now = false := by
  refine ⟨fun f => ?_, fun bytes reply => by simp [Link.holdsClaim, waits]⟩
  unfold Link.sentNow Link.runsTo
  split <;> simp [waits]

namespace Kept
open Sys2Proof

section
variable {P K : State → Prop} {A : StationState → Prop} (k : Kept P K A) {s t : State} {w : Nat} (h : P s)
include k h

/-! ## Start-up -/

theorem execTestFrameOutcome {outcome : TestOutcome} (e : execTestFrameOutcome w outcome s = .next t) : P t := by
  refine k.act h e fun u run hu => ?_
  split
  · exact guarded hu fun ends => k.testEnds run hu ends.1 _ _
  · exact hu

theorem execTestFrameTimeout (e : execTestFrameTimeout w s = .next t) : P t := by
  refine k.act h e fun u run hu => ?_
  split
  · exact guarded hu fun _ => k.halt run rfl hu
  · exact hu

/-! ## Lines -/

theorem execLoopSample {l : Line} {present : Bool} (e : execLoopSample w l present s = .next t) : P t :=
  k.act h e fun _ run hu => guarded hu fun _ =>
    k.applySample (by simpa [State.running, State.takeMarks] using run) (k.takeMarks run hu l) l present

/-! ## The link -/

theorem execFrameStart {joining : Bool} (e : execFrameStart w joining s = .next t) : P t := by
  refine k.act h e fun u run hu => ?_
  split
  · exact k.startTestFrame hu
  · exact k.startFrame run hu
  · exact hu

theorem execArbitrationLost {cell : Nat} (e : execArbitrationLost w cell s = .next t) : P t :=
  k.act h e fun _ run hu => guarded hu fun _ => k.arbitrationLost run hu

theorem execFrameSent (e : execFrameSent w s = .next t) : P t := by
  refine k.act h e fun u run hu => ?_
  obtain ⟨read, live⟩ := k.replyEod run hu
  generalize u.replyEod = v at read live
  dsimp only
  split
  · exact read
  · rename_i f _
    refine guarded read fun sent => ?_
    have running : v.running = true := live.resolve_right fun waits => by
      simp [(Link.waitEof_blind waits v.now).1] at sent
    have left : P ((v.setTx v.tx.sent).setLink (v.link.afterSent f v.now)) :=
      k.agrees (k.sent running read) (State.agrees_setLink (by
        unfold Link.afterSent
        split <;> exact ⟨.inr (by simp), .inr (by simp)⟩))
    split
    · rename_i rejoins
      exact k.enterRejoin (by simpa [State.running] using running) (by simpa using rejoins.2.1) left
    · exact left

theorem execReplySent (e : execReplySent w s = .next t) : P t := by
  refine k.act h e fun u run hu => ?_
  split
  · exact hu
  · exact guarded hu fun _ => k.replyWasSent run hu ‹_›

theorem execStuckDominantAbort (e : execStuckDominantAbort w s = .next t) : P t := by
  refine k.act h e fun u run hu => guarded hu fun _ => ?_
  have marked := k.agrees hu (State.agrees_setLink (k := { u.link.dominantAt u.now with stuckAbort := some u.now })
    ⟨.inr rfl, .inr rfl⟩)
  dsimp only
  split
  · exact k.wireError (by simpa [State.running] using run) marked _
  · exact k.agrees marked (State.agrees_setLink ⟨.inl rfl, .inr rfl⟩)

theorem execLinkFailure (e : execLinkFailure w s = .next t) : P t :=
  k.act h e fun u run hu => guarded hu fun _ =>
    k.enterIsolated (by simpa [State.running] using run)
      (k.agrees hu (State.agrees_setLink (k := { u.link.dominantAt u.now with
        stuckFailure := some u.now, health := .failed, failures := counted u.link.failures }) ⟨.inr rfl, .inr rfl⟩))

theorem execFrameEof (e : execFrameEof w s = .next t) : P t := by
  refine k.act h e fun u run hu => ?_
  obtain ⟨read, -⟩ := k.replyEod run hu
  refine guarded read fun _ => ?_
  have ended : P (u.replyEod.setLink (u.replyEod.link.atEof u.replyEod.now)) :=
    k.agrees read (State.agrees_setLink (by
      unfold Link.atEof
      split
      · exact ⟨.inr (by simp), .inr (by simp)⟩
      · exact ⟨.inl rfl, .inr (by simp [Link.afterEof])⟩))
  dsimp only
  split
  · exact k.beginReset ended
  · exact ended

theorem execReceiverIdle (e : execReceiverIdle w s = .next t) : P t :=
  k.act h e fun _ _ hu => guarded hu fun _ =>
    k.agrees hu (State.agrees_setLink ⟨.inl rfl, .inr (by simp [Link.afterEof])⟩)

/-! ## Frames heard -/

theorem execRelease {slot : HeaderSlot} {trunk cause check : Byte} (e : execRelease w slot trunk cause check s = .next t) :
    P t := by
  refine k.act h e fun u run hu => k.hear run hu fun f => ?_
  split
  · exact k.handFromPeer run hu _ _ _ fun v => State.agrees_applyRelease _ _
  · exact hu

theorem execRetire {slot : HeaderSlot} {trunk cause check : Byte} (e : execRetire w slot trunk cause check s = .next t) :
    P t := by
  refine k.act h e fun u run hu => k.hear run hu fun f => ?_
  split
  · exact k.handFromPeer run hu _ _ _ fun v => State.agrees_applyRetire _ _
  · exact hu

theorem execRestore {slot : HeaderSlot} {trunk check : Byte} (e : execRestore w slot trunk check s = .next t) : P t := by
  refine k.act h e fun u run hu => k.hear run hu fun f => ?_
  split
  · exact k.handFromPeer run hu _ _ _ fun v => State.agrees_applyRestore _ _
  · exact hu

theorem execReport {slot : HeaderSlot} {count held retired flags check : Byte}
    (e : execReport w slot count held retired flags check s = .next t) : P t := by
  refine k.act h e fun u run hu => k.hear run hu fun f => ?_
  split
  · refine k.handToView run hu _ _ fun v running hv => ?_
    split
    · have probed : v.Agrees v.countProbe := State.agrees_of_same (by simp) fun _ => rfl
      exact ⟨probed.running.trans running, k.agreesWithin hv probed⟩
    · exact k.applyReport running hv _ _ _ _ _
  · exact hu

theorem execObjection {slot : HeaderSlot} {trunk line check : Byte} (e : execObjection w slot trunk line check s = .next t) :
    P t := by
  refine k.act h e fun u run hu => k.hear run hu fun f => ?_
  dsimp only
  split
  · split
    · exact k.agrees hu (State.agrees_setLink ⟨.inr (by simp [Link.afterData]), .inr (by simp [Link.afterData])⟩)
    · rename_i objects
      have replies : u.replies = true := by
        unfold State.objectionTo at objects
        split at objects
        · rename_i gives
          exact gives.2.1
        · cases objects
      exact k.replies run replies (.inr (by simp [Link.driveReply, Link.afterData])) hu
  · exact hu

theorem execClaim {slot : HeaderSlot} {trunk line check : Byte} {reply : Option (List Byte)}
    (e : execClaim w slot trunk line check reply s = .next t) : P t := by
  refine k.act h e fun u run hu => ?_
  obtain ⟨read, live⟩ := k.replyEod run hu
  generalize u.replyEod = v at read live
  refine guarded read fun holds => ?_
  have running : v.running = true := live.resolve_right fun waits => by
    simp [(Link.waitEof_blind waits v.now).2] at holds
  dsimp only
  split
  · rename_i p t l parsed
    split
    · exact k.wireError running read _
    · refine k.claimAtEof running read _ fun marker _ => ?_
      have good : checkGood [header 2 slot, trunk, line, check] = true := by
        by_contra bad
        simp [bad] at parsed
      rw [if_pos good] at parsed
      obtain ⟨bytes, own⟩ := Option.isSome_iff_exists.1 marker
      simp only [Link.holdsClaim, own, Option.all_some, Bool.and_eq_true, decide_eq_true_eq] at holds
      rw [own, holds.1.1.1.2, encodeFrame_of_parse_claim good parsed]
  · exact k.wireError running read _

theorem execStatusRequest {slot : HeaderSlot} {target page check : Byte}
    (e : execStatusRequest w slot target page check s = .next t) : P t := by
  refine k.act h e fun u run hu => k.hear run hu fun f => ?_
  split
  · exact k.answer run hu _ _ _ _
  · exact hu

theorem execUnlistedCommand {slot : HeaderSlot} {target code arg check : Byte}
    (e : execUnlistedCommand w slot target code arg check s = .next t) : P t := by
  refine k.act h e fun u run hu => ?_
  split
  · exact hu
  · exact k.commandHeard run hu _ _ _ _ _

/-! ## The pool view and the Hunt Unit -/

theorem execReportInterval (e : execReportInterval w s = .next t) : P t :=
  k.act h e fun _ run hu => guarded hu fun due =>
    k.agrees (k.place (f := .report false) run (due.1 ▸ k.serving.1) (by simp [TxFrame.key]) hu) (State.agrees_of_same (by simp) fun _ => rfl)

theorem execProbeRequest (e : execProbeRequest w s = .next t) : P t := by
  refine k.act h e fun u run hu => ?_
  dsimp only
  split
  · exact hu
  · exact guarded hu fun asks => k.probeRequested run hu asks

/-! ## Trunks -/

theorem execProceedToSend {v : Trunk} (e : execProceedToSend w v s = .next t) : P t := by
  refine k.act h e fun u run hu => ?_
  split
  · exact hu
  · refine guarded hu fun _ => ?_
    split
    · exact k.establish run ‹_› ‹_› ‹_› hu
    · exact k.probeAnswered run hu ‹_› ‹_›
    · exact hu

theorem execSwitchClear {v : Trunk} (e : execSwitchClear w v s = .next t) : P t := by
  refine k.act h e fun u run hu => ?_
  split
  · exact hu
  · exact guarded hu fun _ => k.switchClear run hu ‹_›

theorem execPtsTimer {v : Trunk} (e : execPtsTimer w v s = .next t) : P t := by
  refine k.act h e fun u run hu => ?_
  split
  · exact hu
  · split
    · exact guarded hu fun _ => k.seizureFails run ‹_› ‹_› ‹_› hu
    · exact hu

theorem execProbeTimer {v : Trunk} (e : execProbeTimer w v s = .next t) : P t := by
  refine k.act h e fun u run hu => ?_
  split
  · exact hu
  · exact guarded hu fun probe => k.probeFails run hu ‹_› probe.1

theorem execBreakTimer {v : Trunk} (e : execBreakTimer w v s = .next t) : P t := by
  refine k.act h e fun u run hu => ?_
  dsimp only
  split
  · exact hu
  · exact guarded hu fun breaks =>
      k.settleSenders (by simpa [State.running] using run) (k.breakEnds run ‹_› breaks.1 hu)

theorem execCrosspointShiftEnd (e : execCrosspointShiftEnd w s = .next t) : P t := by
  unfold Machine.execCrosspointShiftEnd at e
  dsimp only at e
  split at e
  · cases e; exact h
  · split at e
    · cases e; exact h
    · split at e
      · cases e
        exact k.agrees h ((State.agrees_advance w).trans (State.agrees_of_same (by simp) fun _ => rfl))
      · cases e; exact h

/-! ## Senders -/

theorem execToneSample {i : Fin 2} (e : execToneSample w i s = .next t) : P t := by
  refine k.act h e fun u run hu => ?_
  dsimp only
  split
  · exact k.agrees hu (State.agrees_setSender ⟨rfl, rfl, rfl, .rfl, .rfl⟩)
  · exact hu

theorem execBurstEnd {i : Fin 2} (e : execBurstEnd w i s = .next t) : P t :=
  k.act h e fun u _ hu => guarded hu fun ends =>
    k.agrees hu (State.agrees_setSender ⟨rfl, rfl, rfl, by simp [ends.1], by simp [ends.1]⟩)

theorem execGapEnd {i : Fin 2} (e : execGapEnd w i s = .next t) : P t :=
  k.act h e fun _ run hu => guarded hu fun ends =>
    k.settleSenders (by simpa [State.running] using run) (k.codeBoundary run ends.1 hu)

theorem execRecallSilenceEnd {i : Fin 2} (e : execRecallSilenceEnd w i s = .next t) : P t := by
  refine k.act h e fun u run hu => guarded hu fun ends => ?_
  split
  · exact k.settleSenders (by simpa [State.running] using run) (k.silenceEnds run ends.1 ‹_› hu)
  · exact hu

/-! ## Every command and every step -/

theorem exec {c : Instr} (e : exec c s = .next t) : P t := by
  unfold Machine.exec at e
  cases c with
  | resetBegin => cases e; exact k.beginReset h
  | resetEnd pins => cases e; exact k.endReset s pins
  | testFrameOutcome w o => exact k.execTestFrameOutcome h e
  | testFrameTimeout w => exact k.execTestFrameTimeout h e
  | listenTimer w =>
    exact k.act h e fun _ run hu => guarded hu fun due => k.enterActive run (.inl due.1) hu
  | loopSample w l b => exact k.execLoopSample h e
  | offHook w l => exact k.act h e fun _ run hu => k.offHookMark run hu l
  | clear w l => exact k.act h e fun _ run hu => k.clearMark run hu l
  | digitComplete w l => exact k.act h e fun _ run hu => k.thresholdMark run hu l
  | firstEntryTimer w l =>
    exact k.act h e fun _ run hu => guarded hu fun due => k.lockout run (.inl due.1) hu
  | endOfDiallingTimer w l => exact k.act h e fun _ run hu => k.endOfDialling run hu l
  | huntTimer w l =>
    exact k.act h e fun _ run hu => guarded hu fun due => k.lockoutSettled run hu (.inr due.1)
  | frameStart w b => exact k.execFrameStart h e
  | arbitrationLost w cell => exact k.execArbitrationLost h e
  | transmitError w f => exact k.act h e fun _ run hu => guarded hu fun _ => k.transmitFails run hu _
  | frameSent w => exact k.execFrameSent h e
  | replySent w => exact k.execReplySent h e
  | receiveError w f => exact k.act h e fun _ run hu => guarded hu fun _ => k.wireError run hu _
  | stuckDominantAbort w => exact k.execStuckDominantAbort h e
  | linkFailure w => exact k.execLinkFailure h e
  | linkRecovery w =>
    exact k.act h e fun _ _ hu => guarded hu fun _ => k.agrees hu (State.agrees_setLink ⟨.inr rfl, .inr rfl⟩)
  | release w slot v cause check => exact k.execRelease h e
  | objection w slot v line check => exact k.execObjection h e
  | claim w slot v line check reply => exact k.execClaim h e
  | retire w slot v cause check => exact k.execRetire h e
  | restore w slot v check => exact k.execRestore h e
  | report w slot count held retired flags check => exact k.execReport h e
  | statusRequest w slot target page check => exact k.execStatusRequest h e
  | blockLine w slot g a c => exact k.act h e fun _ run hu => k.commandHeard run hu slot g 1 a c
  | unblockLine w slot g a c => exact k.act h e fun _ run hu => k.commandHeard run hu slot g 2 a c
  | retireTrunk w slot g a c => exact k.act h e fun _ run hu => k.commandHeard run hu slot g 3 a c
  | restoreTrunk w slot g a c => exact k.act h e fun _ run hu => k.commandHeard run hu slot g 4 a c
  | resetProfile w slot g a c => exact k.act h e fun _ run hu => k.commandHeard run hu slot g 5 a c
  | clearCounts w slot g a c => exact k.act h e fun _ run hu => k.commandHeard run hu slot g 6 a c
  | restart w slot g a c => exact k.act h e fun _ run hu => k.commandHeard run hu slot g 7 a c
  | frameEof w => exact k.execFrameEof h e
  | absence w p =>
    exact k.act h e fun _ run hu => guarded hu fun _ =>
      k.settle (by simpa [State.running] using run) (k.within (k.agrees hu (State.agrees_makeAbsent p)))
  | reportInterval w => exact k.execReportInterval h e
  | releaseGuardExpiry w v => exact k.act h e fun _ run hu => guarded hu fun _ => k.settle run (k.within hu)
  | probeRequest w => exact k.execProbeRequest h e
  | graceTimer w => exact k.act h e fun _ run hu => guarded hu fun due => k.placeIsolatedProbe run hu due.1
  | isolatedProbeTimer w => exact k.act h e fun _ run hu => guarded hu fun due => k.placeIsolatedProbe run hu due.1
  | homeTrunkMark w => exact k.act h e fun _ run hu => guarded hu fun _ => k.settle run (k.within hu)
  | busyQuietMark w => exact k.act h e fun _ run hu => guarded hu fun _ => k.settle run (k.within hu)
  | rejoinTimer w =>
    exact k.act h e fun _ run hu => guarded hu fun due => k.enterActive run (.inr due.1) hu
  | trunkInputSample w v pts clr busy =>
    exact k.act h e fun _ run hu => guarded hu fun _ => k.inputSample run hu v _ busy
  | proceedToSend w v => exact k.execProceedToSend h e
  | switchClear w v => exact k.execSwitchClear h e
  | ptsTimer w v => exact k.execPtsTimer h e
  | probeTimer w v => exact k.execProbeTimer h e
  | breakTimer w v => exact k.execBreakTimer h e
  | probeInterval w v => exact k.act h e fun _ run hu => guarded hu fun _ => k.probeInterval run hu v
  | crosspointShiftEnd w => exact k.execCrosspointShiftEnd h e
  | toneSample w i => exact k.execToneSample h e
  | burstEnd w i => exact k.execBurstEnd h e
  | gapEnd w i => exact k.execGapEnd h e
  | recallSilenceEnd w i => exact k.execRecallSilenceEnd h e
  | receiverIdle w => exact k.execReceiverIdle h e
  | unlistedCommand w slot g code a c => exact k.execUnlistedCommand h e

/-- Every step keeps a law that the parts of the commands keep. -/
theorem step (e : step s = .next t) : P t := by
  rcases step_cases e with ⟨_, _, rfl⟩ | ⟨x, rest, _, _, read⟩ | ⟨c, rest, _, taken⟩
  · exact h
  · have queued : P { s with wire := rest } := k.agrees h (State.agrees_of_same (by simp) fun _ => rfl)
    exact k.act queued read fun _ run hu => k.readWire run hu x.dominant
  · exact k.exec (s := { s with pending := rest }) (k.agrees h (State.agrees_of_same (by simp) fun _ => rfl)) taken

end
end Kept
end Sys2Proof.Machine
end

section
/-! What sending leaves of the calls, and what the Hunt Unit's judgement makes of them. -/

namespace Sys2Proof.Machine
open Sys2Proof

/-! ## What sending leaves of a call -/

/-- From record `c` to `d` a call goes on sending: all stands but its queue, its flags of sending, its local dial tone and
its end-of-dialling timer (R53 to R59). -/
structure CallRecord.Sends (c d : CallRecord) : Prop where
  state : d.state = c.state
  trunk : d.trunk = c.trunk
  failures : d.failures = c.failures
  huntTimer : d.huntTimer = c.huntTimer
  firstTimer : d.firstTimer = c.firstTimer
  pendingBlock : d.pendingBlock = c.pendingBlock
  overflow : d.overflow = c.overflow
  overflows : d.overflows = c.overflows
  lockouts : d.lockouts = c.lockouts

theorem CallRecord.Sends.refl (c : CallRecord) : c.Sends c := ⟨rfl, rfl, rfl, rfl, rfl, rfl, rfl, rfl, rfl⟩

theorem CallRecord.Sends.trans {c d e : CallRecord} (h : c.Sends d) (g : d.Sends e) : c.Sends e :=
  ⟨g.1.trans h.1, g.2.trans h.2, g.3.trans h.3, g.4.trans h.4, g.5.trans h.5, g.6.trans h.6, g.7.trans h.7,
    g.8.trans h.8, g.9.trans h.9⟩

/-- From `s` to `t` the calls go on sending, a local dial tone is turned off at most, and each session stands for its
purpose. -/
structure State.SendsOn (s t : State) : Prop where
  calls : ∀ l, (s.call l).Sends (t.call l)
  ldt : ∀ l : Line, t.ldt[l] = true → s.ldt[l] = true
  purposes : ∀ v, (t.session v).map Session.purpose = (s.session v).map Session.purpose

section
variable {s t u : State}

theorem State.sendsOn_of_same (same : t.calls = s.calls ∧ t.ldt = s.ldt ∧ t.sup.sessions = s.sup.sessions) :
    s.SendsOn t := by
  obtain ⟨calls, ldt, sessions⟩ := same
  exact ⟨fun l => by simpa [State.call, calls] using CallRecord.Sends.refl _, fun l on => ldt ▸ on,
    fun v => by simp [State.session, sessions]⟩

theorem State.SendsOn.refl : s.SendsOn s := State.sendsOn_of_same ⟨rfl, rfl, rfl⟩

theorem State.SendsOn.trans (h : s.SendsOn t) (g : t.SendsOn u) : s.SendsOn u :=
  ⟨fun l => (h.calls l).trans (g.calls l), fun l on => h.ldt l (g.ldt l on),
    fun v => (g.purposes v).trans (h.purposes v)⟩

theorem State.sendsOn_setCall {l : Line} {c : CallRecord} (h : (s.call l).Sends c) : s.SendsOn (s.setCall l c) :=
  ⟨fun m => by
    by_cases hm : m = l
    · subst hm; simpa using h
    · simpa [hm] using CallRecord.Sends.refl _, fun _ on => on, fun _ => rfl⟩

theorem State.sendsOn_toneOff (l : Line) : s.SendsOn (s.toneOff l) where
  calls := (State.sendsOn_setCall (s := s) (l := l) (c := { s.call l with localTone := false })
    ⟨rfl, rfl, rfl, rfl, rfl, rfl, rfl, rfl, rfl⟩).calls
  ldt := (State.agrees_toneOff l).ldt
  purposes _ := rfl

theorem State.sendsOn_connectAudio (l : Line) : s.SendsOn (s.connectAudio l) := by
  have connected : s.SendsOn ((s.setCall l { s.call l with audio := true }).toneOff l) :=
    (State.sendsOn_setCall (by exact ⟨rfl, rfl, rfl, rfl, rfl, rfl, rfl, rfl, rfl⟩)).trans (State.sendsOn_toneOff l)
  unfold State.connectAudio
  dsimp only
  split
  · split
    · exact connected.trans (State.sendsOn_of_same (by simp))
    · exact connected
  · exact .refl

theorem State.sendsOn_removeHead (l : Line) : s.SendsOn (s.removeHead l) := by
  have removed : s.SendsOn (s.setCall l { s.call l with
      queue := (s.call l).queue.tail, firstDigitSent := true, dialTimer := (s.call l).dialTimer.halted }) :=
    State.sendsOn_setCall ⟨rfl, rfl, rfl, rfl, rfl, rfl, rfl, rfl, rfl⟩
  unfold State.removeHead
  dsimp only
  split
  · exact removed.trans (State.sendsOn_connectAudio l)
  · exact removed

theorem State.sendsOn_identityEnded (l : Line) : s.SendsOn (s.identityEnded l) := by
  have ended : s.SendsOn (s.setCall l { s.call l with identitySent := true }) :=
    State.sendsOn_setCall ⟨rfl, rfl, rfl, rfl, rfl, rfl, rfl, rfl, rfl⟩
  unfold State.identityEnded
  dsimp only
  split
  · exact ended.trans (State.sendsOn_connectAudio l)
  · exact ended

theorem State.sendsOn_spoil (l : Line) : s.SendsOn (s.spoil l) :=
  (State.sendsOn_setCall (by exact ⟨rfl, rfl, rfl, rfl, rfl, rfl, rfl, rfl, rfl⟩)).trans (State.sendsOn_connectAudio l)

/-- A recall break changes the state of its session alone (R159). -/
theorem State.sendsOn_askBreak (i : Fin 2) (v : Trunk) : s.SendsOn (s.askBreak i v) := by
  unfold State.askBreak
  split
  · rename_i ses opened
    split
    · refine ⟨fun l => CallRecord.Sends.refl _, fun l on => on, fun w => ?_⟩
      by_cases hw : w = v
      · subst hw; simp [opened]
      · simp [hw]
    · exact State.sendsOn_of_same (by simp)
  · exact State.sendsOn_of_same (by simp)

theorem State.sendsOn_nextCode (i : Fin 2) (l : Line) (v : Trunk) : s.SendsOn (s.nextCode i l v) := by
  unfold State.nextCode
  dsimp only
  split
  · exact State.sendsOn_of_same (by simp)
  · split
    · split
      · exact State.sendsOn_of_same (by simp)
      · split
        · exact State.sendsOn_of_same (by simp)
        · exact State.sendsOn_askBreak i v
        · exact (State.sendsOn_spoil l).trans (State.sendsOn_of_same (by simp))
    · exact State.sendsOn_of_same (by simp)

theorem State.sendsOn_codeBoundary (i : Fin 2) : s.SendsOn (s.codeBoundary i) := by
  unfold State.codeBoundary
  split
  · rename_i l v _ _
    have removed : s.SendsOn (if (s.sender i).source = some .entry then s.removeHead l else s) := by
      split
      · exact State.sendsOn_removeHead l
      · exact .refl
    dsimp only
    refine State.SendsOn.trans ?_ (State.sendsOn_nextCode i l v)
    split
    · exact removed.trans (State.sendsOn_identityEnded l)
    · exact removed
  · exact .refl

theorem State.sendsOn_grant (i : Fin 2) (l : Line) : s.SendsOn (s.grant i l) := by
  unfold State.grant
  split
  · exact .refl
  · exact (State.sendsOn_of_same (by simp)).trans (State.sendsOn_codeBoundary i)

theorem sendsOn_settleRounds (n : Nat) : s.SendsOn (settleRounds n s) := by
  induction n generalizing s with
  | zero => exact State.sendsOn_of_same (by simp [settleRounds])
  | succ n ih =>
    have refreshed : s.SendsOn s.refreshRequests := State.sendsOn_of_same (by simp)
    unfold settleRounds
    dsimp only
    split
    · exact (refreshed.trans (State.sendsOn_grant _ _)).trans ih
    · exact refreshed

theorem State.sendsOn_settleSenders : s.SendsOn s.settleSenders := sendsOn_settleRounds 10

/-! ## What the Hunt Unit makes of a call -/

/-- A line seized for enters SEIZING on its trunk, and no other call changes (R52, R153). -/
theorem State.seizeForLine_call (s : State) (v : Trunk) (l m : Line) : (s.seizeForLine v l).call m =
    if m = l then { s.call l with state := .seizing, trunk := some v, huntTimer := none } else s.call m := by
  have seized (n : Line) : (s.seizeTrunk v (.line l)).call n = s.call n := by simp [State.call]
  simp [State.seizeForLine, seized]

/-- In ISOLATED the head line, HUNTING, is put on the home trunk; the Hunt Unit changes no other call (R147). -/
theorem State.judge_call (s : State) (l : Line) : s.judge.call l = s.call l ∨
    (s.ctl.station = .isolated ∧ (s.call l).state = .hunting ∧
      s.judge.call l = { s.call l with state := .seizing, trunk := some s.slot, huntTimer := none }) := by
  unfold State.judge
  split
  · exact .inl (by simp [State.call])
  · unfold State.judgeIsolated
    split
    · split
      · rename_i m _ _ taken
        have owned (n : Line) : (((s.makeOwn s.slot (some m)).raiseCount s.slot).unqueue m).call n = s.call n := by
          simp [State.call]
        rw [State.seizeForLine_call]
        split
        · subst l
          exact .inr ⟨‹_›, taken.1, by rw [owned]⟩
        · exact .inl (owned l)
      · exact .inl rfl
    · exact .inl rfl
  · exact .inl rfl
end
end Sys2Proof.Machine
end

section
/-! Call records: what the ends of a call write. -/

namespace Sys2Proof.Machine
open Sys2Proof

section
variable (s : State) (l : Line)

/-- The record of a call in LOCKOUT (R60). -/
def CallRecord.lockedOut (c : CallRecord) : CallRecord :=
  { c with
    state := .lockout, trunk := none, queue := [], audio := false, localTone := false, huntTimer := none,
    dialTimer := .stopped, firstTimer := none, lockouts := counted c.lockouts }

/-- The record of a call at rest after its clear (R61). -/
def CallRecord.atRest (c : CallRecord) : CallRecord :=
  { CallRecord.reset with
    state := if c.pendingBlock then .blocked else .idle, overflows := c.overflows, lockouts := c.lockouts }

/-- The trunk that a call is on is let go at its clear (R61, R160). -/
def State.dropTrunk : State :=
  match (s.call l).trunk with
  | some t => s.endSession t .lineClear
  | none => s

@[simp] theorem State.dropTrunk_frame : (s.dropTrunk l).now = s.now ∧ (s.dropTrunk l).inReset = s.inReset ∧
    (s.dropTrunk l).ctl = s.ctl ∧ (s.dropTrunk l).iso = s.iso ∧ (s.dropTrunk l).scan = s.scan ∧
    (s.dropTrunk l).dec = s.dec ∧ (s.dropTrunk l).calls = s.calls ∧ (s.dropTrunk l).ldt = s.ldt ∧
    (s.dropTrunk l).lko = s.lko ∧ (s.dropTrunk l).link = s.link ∧ (s.dropTrunk l).hunt = s.hunt ∧
    (s.dropTrunk l).arb = s.arb := by
  unfold State.dropTrunk
  split <;> simp

/-- What a hunt entry's end makes of the Hunt Unit and the transmit queue is read off these two alone (R131, R138). -/
theorem State.huntDrop_congr {s t : State} (hunt : t.hunt = s.hunt) (tx : t.tx = s.tx) :
    (t.huntDrop l).hunt = (s.huntDrop l).hunt ∧ (t.huntDrop l).tx = (s.huntDrop l).tx := by
  unfold State.huntDrop
  simp only [hunt, State.setHunt_hunt]
  cases hc : s.hunt.claim with
  | none => exact ⟨rfl, by simpa using tx⟩
  | some c =>
    dsimp only
    split
    · cases c.stage with
      | queued =>
        simp only [State.withdrawClaim, State.setHunt_hunt]
        split <;> simp [tx]
      | inFlight => exact ⟨rfl, by simpa using tx⟩
    · exact ⟨rfl, by simpa using tx⟩

theorem State.lockout_hunt : (s.lockout l).hunt = (s.huntDrop l).hunt ∧ (s.lockout l).tx = (s.huntDrop l).tx :=
  State.huntDrop_congr l (by simp) (by simp)

theorem State.clearCall_eq : s.clearCall l =
    (((((s.dropTrunk l).huntDrop l).setCall l (s.call l).atRest).setLdt l false).setLko l false |>.stopDecoder l).endGuard l :=
  rfl

theorem State.lockout_call (m : Line) : (s.lockout l).call m = if m = l then (s.call l).lockedOut else s.call m := by
  have dropped (t : State) (n : Line) : (t.huntDrop l).call n = t.call n := by simp [State.call]
  simp [State.lockout, State.stopDecoder, dropped, CallRecord.lockedOut]

theorem State.lockout_ldt (m : Line) : (s.lockout l).ldt[m.val] = if m = l then false else s.ldt[m.val] := by
  simp [State.lockout]

theorem State.lockout_lko (m : Line) : (s.lockout l).lko[m.val] = if m = l then true else s.lko[m.val] := by
  simp [State.lockout]

theorem State.clearCall_call (m : Line) : (s.clearCall l).call m = if m = l then (s.call l).atRest else s.call m := by
  have dropped (n : Line) : ((s.dropTrunk l).huntDrop l).call n = s.call n := by simp [State.call]
  simp [State.clearCall_eq, State.stopDecoder, State.endGuard, dropped]

theorem State.clearCall_ldt (m : Line) : (s.clearCall l).ldt[m.val] = if m = l then false else s.ldt[m.val] := by
  simp [State.clearCall_eq]

theorem State.clearCall_lko (m : Line) : (s.clearCall l).lko[m.val] = if m = l then false else s.lko[m.val] := by
  simp [State.clearCall_eq]

theorem State.enterHunting_call (m : Line) : (s.enterHunting l).call m = if m = l then
    { s.call l with state := .hunting, huntTimer := s.after huntTime, dialTimer := .stopped, firstTimer := none }
    else s.call m := by
  simp [State.enterHunting, State.queueTail]
end
end Sys2Proof.Machine
end

section
/-! Call records: the lockout output is exact, kept by every step (R62, R64, R67, R205, R207). -/

namespace Sys2Proof.Machine
open Sys2Proof

/-- The lockout output of line `l` is as R62 and R64 say, and its local dial tone sounds in a decoding state alone
(R63). -/
def State.LineTones (s : State) (l : Line) : Prop :=
  s.lko[l] = (s.running &&
    ((s.call l).state = .lockout || ((s.call l).state = .blocked && (s.scanLine l).loop = .closed))) ∧
  (s.ldt[l] = true → (s.call l).state.decoding = true)

/-- The line outputs of every line are as the rules say. -/
def State.TonesExact (s : State) : Prop := ∀ l, s.LineTones l

section
variable {s t : State} (h : s.TonesExact)
include h

/-- In a station that runs on, each line keeps its outputs, its call's state and a BLOCKED line its loop, or is set right. -/
theorem State.TonesExact.of_lines (running : t.running = s.running)
    (lines : ∀ l, (t.lko[l] = s.lko[l] ∧ (t.call l).state = (s.call l).state ∧
      ((s.call l).state = .blocked → (t.scanLine l).loop = (s.scanLine l).loop) ∧ (t.ldt[l] = true → s.ldt[l] = true)) ∨
      t.LineTones l) : t.TonesExact := by
  intro l
  rcases lines l with ⟨lko, state, loop, ldt⟩ | right
  · obtain ⟨locks, tone⟩ := h l
    refine ⟨?_, fun on => state ▸ tone (ldt on)⟩
    rw [lko, locks, running, state]
    by_cases blocked : (s.call l).state = .blocked
    · rw [loop blocked]
    · simp [blocked]
  · exact right

/-- Only line `l` is touched, and it is set right. -/
theorem State.TonesExact.of_line (l : Line) (running : t.running = s.running)
    (others : ∀ m, m ≠ l → t.lko[m] = s.lko[m] ∧ t.call m = s.call m ∧ t.scanLine m = s.scanLine m ∧ t.ldt[m] = s.ldt[m])
    (right : t.LineTones l) : t.TonesExact := by
  refine h.of_lines running fun m => ?_
  by_cases hm : m = l
  · subst hm; exact .inr right
  · obtain ⟨lko, call, scan, ldt⟩ := others m hm
    exact .inl ⟨lko, by rw [call], fun _ => by rw [scan], fun on => ldt ▸ on⟩

/-- The lockout output of a line is off in a call that has not ended in LOCKOUT, and on an IDLE line. -/
theorem State.TonesExact.unlocked {l : Line} (open_ : (s.call l).state ≠ .lockout) (free : (s.call l).state ≠ .blocked) :
    s.lko[l] = false := by
  simp [(h l).1, open_, free]

/-- What touches no line output but to turn a dial tone off, and no state of a call but from one decoding state to
another. -/
theorem State.TonesExact.of_decoding (same : t.inReset = s.inReset ∧ t.ctl.station = s.ctl.station ∧ t.lko = s.lko ∧
      t.scan = s.scan)
    (ldt : ∀ l : Line, t.ldt[l] = true → s.ldt[l] = true)
    (calls : ∀ l, (t.call l).state = (s.call l).state ∨
      ((s.call l).state.decoding = true ∧ (t.call l).state.decoding = true)) : t.TonesExact := by
  obtain ⟨inReset, station, lko, scan⟩ := same
  refine h.of_lines (by simp [State.running, inReset, station]) fun l => ?_
  rcases calls l with state | ⟨before, after⟩
  · exact .inl ⟨by rw [lko], state, fun _ => by simp [State.scanLine, scan], ldt l⟩
  · have unlocked : s.lko[l] = false := h.unlocked (fun e => by simp [e, CallState.decoding] at before)
      fun e => by simp [e, CallState.decoding] at before
    refine .inr ⟨?_, fun _ => after⟩
    rw [lko, unlocked]
    cases hs : (t.call l).state <;> simp_all [CallState.decoding]

omit h in
/-- A station that passes from one running state to another runs on. -/
theorem State.running_of_enters (run : s.running = true) (inReset : t.inReset = s.inReset)
    (live : t.ctl.station.halted = false) : t.running = s.running := by
  rw [run]
  simp only [State.running, Bool.and_eq_true] at run
  simp [State.running, inReset, live, run.1]

omit h in
/-- A start mark begins with what the transmit queue offers; nothing but the link, the queue and the claim's stage changes
(R72, R136). -/
theorem State.startFrame_frame (joining : Bool) : (s.startFrame joining).inReset = s.inReset ∧
    (s.startFrame joining).ctl = s.ctl ∧ (s.startFrame joining).lko = s.lko ∧ (s.startFrame joining).ldt = s.ldt ∧
    (s.startFrame joining).calls = s.calls ∧ (s.startFrame joining).scan = s.scan := by
  unfold State.startFrame
  split
  · split
    · simp
    · dsimp only
      split <;> simp
  · simp

omit h in
/-- With every line output off in a station that does not run the outputs are as the rules say (R205, R207). -/
theorem State.tonesExact_of_silent {t : State} (stopped : t.running = false) (ldt : t.ldt = Vector.replicate 8 false)
    (lko : t.lko = Vector.replicate 8 false) : t.TonesExact :=
  fun l => by simp [State.LineTones, stopped, ldt, lko]

/-! ## Calls and blocks -/

theorem State.TonesExact.agrees (same : s.Agrees t) : t.TonesExact :=
  h.of_lines same.running fun l => .inl ⟨by rw [same.lko], (same.calls l).state, same.loop l, same.ldt l⟩

theorem State.TonesExact.sendsOn (sends : s.SendsOn t)
    (same : t.inReset = s.inReset ∧ t.ctl.station = s.ctl.station ∧ t.lko = s.lko ∧ t.scan = s.scan) : t.TonesExact :=
  h.of_decoding same sends.ldt fun l => .inl (sends.calls l).state

theorem State.TonesExact.judge : s.judge.TonesExact :=
  h.of_decoding (by simp) (fun l on => by simpa using on) fun l => by
    rcases s.judge_call l with same | ⟨_, hunting, taken⟩
    · exact .inl (by rw [same])
    · exact .inr ⟨by simp [hunting, CallState.decoding], by simp [taken, CallState.decoding]⟩

theorem State.TonesExact.settleSenders : s.settleSenders.TonesExact := h.sendsOn State.sendsOn_settleSenders (by simp)

/-- A call that starts is in a decoding state, and its line was IDLE, its lockout output off (R44, R64). -/
theorem State.TonesExact.startCall {l : Line} (idle : (s.call l).state = .idle) : (s.startCall l).TonesExact := by
  obtain ⟨call, -, -, -⟩ := s.callStarts_startCall l
  have unlocked : s.lko[l] = false := h.unlocked (by simp [idle]) (by simp [idle])
  refine h.of_line l (by simp [State.running]) (fun m hm => ?_) ?_
  · obtain ⟨stands, scan, -, ldt⟩ := s.lineStands_startCall l hm
    exact ⟨by simp, stands, scan, ldt⟩
  · unfold State.LineTones
    rw [call]
    unfold State.startedCall
    cases s.ctl.straps.mode <;> simp [unlocked, CallState.decoding]

/-- A call in LOCKOUT of a running station has its lockout output on and its dial tone off (R60). -/
theorem State.TonesExact.lockout (run : s.running = true) (l : Line) : (s.lockout l).TonesExact := by
  have running : (s.lockout l).running = s.running := by simp [State.running]
  refine h.of_line l running (fun m hm => ?_) ?_
  · simp [State.lockout_lko, State.lockout_ldt, State.lockout_call, State.scanLine, hm]
  · simp [State.LineTones, State.lockout_lko, State.lockout_ldt, State.lockout_call, running, run,
      CallRecord.lockedOut]

/-- A record whose call fails goes back to HUNTING, or into LOCKOUT (R52). -/
theorem State.TonesExact.callFailed (run : s.running = true) (l : Line) : (s.callFailed l).TonesExact := by
  unfold State.callFailed
  dsimp only
  split
  · rename_i seizing
    split
    · refine h.of_decoding (by simp) (fun m on => by simpa using on) fun m => ?_
      by_cases hm : m = l
      · subst hm
        exact .inr ⟨by simp [seizing, CallState.decoding], by simp [State.queueHead, CallState.decoding]⟩
      · exact .inl (by simp [State.queueHead, hm])
    · exact h.lockout run l
  · exact h

theorem State.TonesExact.blockedEdge (run : s.running = true) {l : Line} (blocked : (s.call l).state = .blocked)
    (x : ScanLine) : ((s.setScan l x).setLko l (x.loop = .closed)).TonesExact := by
  obtain ⟨-, tone⟩ := h l
  refine h.of_line l (by simp [State.running]) (fun m hm => by simp [hm]) ⟨?_, by simpa using tone⟩
  have running : ((s.setScan l x).setLko l (x.loop = .closed)).running = true := by simpa [State.running] using run
  simp [running, blocked]

theorem State.TonesExact.blockLine (run : s.running = true) (l : Line) : (s.blockLine l).TonesExact := by
  unfold State.blockLine
  dsimp only
  split
  · rename_i idle
    obtain ⟨-, tone⟩ := h l
    refine h.of_line l (by simp [State.running]) (fun m hm => by simp [State.endGuard, hm]) ⟨?_, ?_⟩
    · simp only [State.running, Bool.and_eq_true] at run
      simp [State.running, run, State.endGuard]
    · intro on
      simpa [idle, CallState.decoding] using tone (by simpa using on)
  · exact h
  · exact h.agrees (State.agrees_setCall ⟨rfl, rfl, rfl, rfl, rfl, rfl, rfl, rfl⟩)

theorem State.TonesExact.unblockLine (l : Line) : (s.unblockLine l).TonesExact := by
  unfold State.unblockLine
  dsimp only
  split
  · rename_i blocked
    obtain ⟨-, tone⟩ := h l
    refine h.of_line l (by simp [State.running]) (fun m hm => by simp [hm]) ⟨by simp, fun on => ?_⟩
    simpa [blocked, CallState.decoding] using tone (by simpa using on)
  · exact h
  · exact h.agrees (State.agrees_setCall ⟨rfl, rfl, rfl, rfl, rfl, rfl, rfl, rfl⟩)

/-- A call ends with its loop OPEN, so that a line BLOCKED by it has its lockout output off (R61, R62). -/
theorem State.TonesExact.clearCall {l : Line} (opened : (s.scanLine l).loop = .opened) : (s.clearCall l).TonesExact := by
  refine h.of_line l (by simp [State.running]) (fun m hm => ?_) ⟨?_, ?_⟩
  · simpa [State.clearCall_ldt, State.clearCall_call, hm] using
      And.intro ((s.othersStand_clearCall l).1 m hm).2.2 ((s.othersStand_clearCall l).1 m hm).1
  · have dropped (t : State) (m : Line) : (t.huntDrop l).scanLine m = t.scanLine m := by simp [State.scanLine]
    have let_go (m : Line) : (s.dropTrunk l).scanLine m = s.scanLine m := by simp [State.scanLine]
    have loop : ((s.clearCall l).scanLine l).loop = .opened := by
      simpa [State.clearCall_eq, State.endGuard, State.stopDecoder, dropped, let_go] using opened
    cases pending : (s.call l).pendingBlock <;>
      simp [State.clearCall_lko, State.clearCall_call, CallRecord.atRest, pending, loop]
  · simp [State.clearCall_ldt]

/-! ## Resets, halts and the entries of Station Control -/

/-- With every line's output, call and filter as they were, a station that still runs keeps its outputs exact. -/
theorem State.TonesExact.of_fields (running : t.running = s.running)
    (same : t.lko = s.lko ∧ t.ldt = s.ldt ∧ t.calls = s.calls ∧ t.scan = s.scan) : t.TonesExact := by
  obtain ⟨lko, ldt, calls, scan⟩ := same
  exact h.of_lines running fun l =>
    .inl ⟨by rw [lko], by simp [State.call, calls], fun _ => by simp [State.scanLine, scan], fun on => ldt ▸ on⟩

theorem State.TonesExact.enterHunting {l : Line} (collecting : (s.call l).state = .collecting) :
    (s.enterHunting l).TonesExact := by
  refine h.of_decoding (by simp) (fun m on => by simpa using on) fun m => ?_
  rw [State.enterHunting_call]
  split
  · subst m
    exact .inr ⟨by simp [collecting, CallState.decoding], rfl⟩
  · exact .inl rfl

theorem State.TonesExact.setCall {l : Line} {c : CallRecord} (state : c.state = (s.call l).state) :
    (s.setCall l c).TonesExact :=
  h.of_decoding (by simp) (fun _ on => on) fun m => .inl (by
    by_cases hm : m = l
    · subst hm; simpa using state
    · simp [hm])

omit h in
theorem State.endReset_tonesExact (s : State) (pins : BitVec 15) : (s.endReset pins).TonesExact := by
  have cleared (straps : Straps) : (s.cleared straps).TonesExact := by
    intro l
    have call : (s.cleared straps).call l = CallRecord.reset := State.reset_call l
    have outputs : (s.cleared straps).lko = Vector.replicate 8 false ∧ (s.cleared straps).ldt = Vector.replicate 8 false :=
      ⟨rfl, rfl⟩
    simp [State.LineTones, call, CallRecord.reset, outputs]
  unfold State.endReset
  dsimp only
  split
  · exact State.tonesExact_of_silent (by simp [State.running, State.halt, StationState.halted, Control.enter]) (by simp [State.halt]) (by simp [State.halt])
  · exact cleared _

/-! ## Trunks -/

theorem State.TonesExact.establish (v : Trunk) (ses : Session) (l : Line) : (s.establish v ses l).TonesExact := by
  have opened : ((s.setSession v (some { ses with state := .established, answer := none })).setEntry v
      { (s.setSession v (some { ses with state := .established, answer := none })).entry v with failures := 0 }).TonesExact :=
    h.of_fields (by simp [State.running]) (by simp)
  unfold State.establish
  dsimp only
  refine State.TonesExact.settleSenders ?_
  split
  · rename_i seizing
    refine opened.of_decoding (by simp) (fun _ on => on) fun m => ?_
    by_cases hm : m = l
    · subst hm
      exact .inr ⟨by rw [seizing]; rfl, by simp [CallState.decoding]⟩
    · exact .inl (by simp [hm])
  · exact opened

theorem State.TonesExact.seizureFails (run : s.running = true) (v : Trunk) (l : Line) :
    (s.seizureFails v l).TonesExact := by
  have failed : ((s.releaseTrunk v .ptsFail).countFailure v).TonesExact := h.of_fields (by simp [State.running]) (by simp)
  unfold State.seizureFails
  dsimp only
  refine State.TonesExact.settleSenders (State.TonesExact.judge (State.TonesExact.callFailed ?_ ?_ l))
  · split
    · exact failed.of_fields (by simp [State.running]) (by simp)
    · exact failed
  · split <;> simpa [State.running] using run

theorem State.TonesExact.yieldTo (run : s.running = true) (v : Trunk) (p : Slot) : (s.yieldTo v p).TonesExact := by
  have held : (s.makeHeld v p none).TonesExact := h.of_fields (by simp [State.running]) (by simp)
  unfold State.yieldTo
  dsimp only
  split
  · exact held
  · have ended : ((s.makeHeld v p none).endSession v .yield).TonesExact := held.of_fields (by simp [State.running]) (by simp)
    split
    · exact ended.lockout (by simpa [State.running] using run) _
    · exact ended.of_fields (by simp [State.running]) (by simp)

/-- A trunk handed over to a HUNTING line is seized for it, or the line stays HUNTING (R142, R154). -/
theorem State.TonesExact.handLine (v : Trunk) {l : Line} (hunting : (s.call l).state = .hunting) :
    (s.handLine v l).TonesExact := by
  have taken : (s.unqueue l).TonesExact := h.of_fields (by simp [State.running]) (by simp)
  have call (m : Line) : (s.unqueue l).call m = s.call m := by simp [State.call]
  unfold State.handLine
  dsimp only
  split
  · exact taken.of_fields (by simp [State.running]) (by simp)
  · refine taken.of_decoding (by simp) (fun m on => by simpa using on) fun m => ?_
    rw [State.seizeForLine_call]
    split
    · subst m
      exact .inr ⟨by rw [call, hunting]; rfl, rfl⟩
    · exact .inl rfl

theorem State.TonesExact.ownEffective (c : Claim) (line : Option Line) : (s.ownEffective c line).TonesExact := by
  have owned : (((s.raiseCount c.trunk).makeOwn c.trunk line).setHunt { s.hunt with claim := none }).TonesExact :=
    h.of_fields (by simp [State.running]) (by simp)
  unfold State.ownEffective
  dsimp only
  split
  · split
    · exact owned.handLine c.trunk ‹_›
    · exact owned.of_fields (by simp [State.running]) (by simp)
  · exact owned.of_fields (by simp [State.running]) (by simp)
  · exact owned.of_fields (by simp [State.running]) (by simp)

omit h in
theorem tonesLearn : Learns State.TonesExact where
  agreesWithin h same := h.agrees same
  yieldTo run _ h := h.yieldTo run _ _

theorem State.TonesExact.ownClaim (run : s.running = true) (v : Trunk) (line : Option Line) (outcome : ClaimOutcome) :
    (s.ownClaim v line outcome).TonesExact := by
  have sent : s.claimSent.TonesExact := h.of_fields (by simp [State.running]) (by simp)
  have settled {u : State} (hu : u.TonesExact) : u.settle.TonesExact := hu.judge.settleSenders
  unfold State.ownClaim
  dsimp only
  split
  · exact sent
  · split
    · split
      · exact settled (sent.ownEffective _ line)
      · rename_i code o
        have refreshed : (s.claimSent.refresh o).TonesExact := sent.agrees (State.agrees_refresh o)
        have learnt := tonesLearn.applyObjection (by simpa [State.running] using run) refreshed v code o
        exact settled (learnt.of_fields (by simp [State.running]) (by simp))
      · exact settled (sent.of_fields (by simp [State.running]) (by simp))
    · exact sent

end

/-! ## Every step -/

theorem tonesKept : Kept State.TonesExact State.TonesExact fun _ => True where
  toLearns := tonesLearn
  within h := h
  agrees h same := h.agrees same
  served _ _ := trivial
  serving := ⟨trivial, trivial⟩
  settle _ h := h.judge.settleSenders
  settleSenders _ h := h.settleSenders
  beginReset _ := State.tonesExact_of_silent (by simp [State.running, State.beginReset]) rfl rfl
  endReset := State.endReset_tonesExact
  halt _ stops _ := State.tonesExact_of_silent (by simp [State.running, State.halt, Control.enter, stops])
    (by simp [State.halt]) (by simp [State.halt])
  enterListen run _ h := h.of_fields (State.running_of_enters run (by simp) (by simp [State.enterListen, Control.enter, StationState.halted])) (by simp)
  activating run _ h := h.of_fields (State.running_of_enters run (by simp [State.activating]) (by simp [State.activating, StationState.halted])) (by simp [State.activating])
  isolating run h := h.of_fields (State.running_of_enters run (by simp [State.isolating]) (by simp [State.isolating, StationState.halted])) (by simp [State.isolating])
  enterRejoin run _ h := h.of_fields (State.running_of_enters run (by simp) (by simp [State.enterRejoin, Control.enter, StationState.halted])) (by simp)
  startCall _ _ idle h := h.startCall idle
  clearCall _ _ opened h := h.clearCall opened
  lockout run _ h := h.lockout run _
  enterHunting _ collecting h := h.enterHunting collecting
  collects _ _ h := h.setCall rfl
  requeues _ h := h.setCall rfl
  blockedEdge run blocked h := h.blockedEdge run blocked _
  blockLine run _ h := h.blockLine run _
  unblockLine _ _ h := h.unblockLine _
  place _ _ _ h := h.of_fields (by simp [State.running]) (by simp)
  placeWithin _ _ _ h := h.of_fields (by simp [State.running]) (by simp)
  startFrame _ h := h.of_fields (by simp [State.running, State.startFrame_frame]) (by simp [State.startFrame_frame])
  flightEnds _ _ h := h.of_fields (by simp [State.running]) (by simp)
  sent _ h := h.of_fields (by simp [State.running]) (by simp)
  replies _ _ _ h := h.of_fields (by simp [State.running]) (by simp)
  ownClaim run _ _ _ h :=
    State.TonesExact.ownClaim (h.of_fields (by simp [State.running]) (by simp)) (by simpa [State.running] using run) _ _ _
  holdsProbe _ _ h := h.of_fields (by simp [State.running]) (by simp)
  claimsProbe _ _ _ _ h := h.of_fields (by simp [State.running]) (by simp)
  establish _ _ _ _ h := h.establish _ _ _
  seizureFails run _ _ _ h := h.seizureFails run _ _
  switchCleared run _ _ h :=
    State.TonesExact.lockout (h.of_fields (by simp [State.running]) (by simp)) (by simpa [State.running] using run) _
  probeEnds _ _ _ h := h.of_fields (by simp [State.running]) (by simp)
  breakEnds _ _ _ h := h.of_fields (by simp [State.running]) (by simp)
  codeBoundary _ _ h := h.sendsOn (State.sendsOn_codeBoundary _) (by simp)
  silenceEnds _ _ _ h := h.sendsOn ((State.sendsOn_removeHead _).trans (State.sendsOn_codeBoundary _)) (by simp)

/-- Settles O55: line by line, from what the parts of the commands do to a line's call, filter and outputs. -/
theorem everyStepKeepsTheLockoutOutputExact : Obligations.EveryStepKeepsTheLockoutOutputExact := by
  unfold Obligations.EveryStepKeepsTheLockoutOutputExact
  intro s t locked apart e
  have kept : t.TonesExact := tonesKept.step (fun l => ⟨locked l, (apart l).1⟩) e
  refine ⟨fun l => (kept l).1, fun l ⟨tone, on⟩ => ?_⟩
  obtain ⟨locks, decodes⟩ := kept l
  have decoding := decodes tone
  have ended : (t.call l).state = .lockout ∨ (t.call l).state = .blocked := by
    by_contra open_
    simp only [not_or] at open_
    simp [locks, open_] at on
  rcases ended with ended | ended <;> simp [ended, CallState.decoding] at decoding

end Sys2Proof.Machine
end

section
/-! Digit queues and the transmit queue: what keeps the transmit queue sound and its CLAIM the pending claim's (R103,
R104, R106, R136). -/

namespace Sys2Proof.Machine
open Sys2Proof

/-! ## What a placing, an outcome and a withdrawal do to the queue -/

section
variable {q : TxQueue} {n x : QFrame}

theorem mem_combineIn_iff {frames : List QFrame} (hk : x.frame.key ≠ n.frame.key) :
    x ∈ combineIn frames n ↔ x ∈ frames := by
  refine ⟨fun hx => ?_, fun hx => mem_combineIn hx hk⟩
  rcases of_mem_combineIn hx with ⟨old, _⟩ | ⟨y, _, same, rfl⟩
  · exact old
  · exact absurd (combine_key y n same) hk

/-- A placing touches the frames of its own key alone. -/
theorem TxQueue.mem_place_iff (hk : x.frame.key ≠ n.frame.key) : x ∈ (q.place n).frames ↔ x ∈ q.frames :=
  ⟨fun hx => TxQueue.mem_of_mem_place hx hk, fun hx => TxQueue.mem_place hx hk⟩

/-- What waits beside the flight after a placing is what waited, or bears the placed frame's key, which is not a CLAIM's
and is the key in flight. -/
theorem TxQueue.place_waiting {w : QFrame} (h : (q.place n).waiting = some w) : q.waiting = some w ∨
    (n.frame.key ≠ .claim ∧ q.inFlight n.frame.key = true ∧
      (w.frame.key = n.frame.key ∨ ∃ v, q.waiting = some v ∧ w.frame.key = v.frame.key)) := by
  unfold TxQueue.place at h
  split at h
  · rename_i flies
    split at h
    · exact .inl h
    · rename_i other
      refine .inr ⟨fun e => ?_, flies, ?_⟩
      · cases hf : n.frame <;> simp_all [TxFrame.key]
      · simp only [Option.some.injEq] at h
        subst h
        cases q.waiting with
        | none => exact .inl rfl
        | some v =>
          simp only [Option.elim_some]
          unfold combine
          split
          · exact .inl rfl
          · exact .inr ⟨v, rfl, rfl⟩
          · exact .inl rfl
  · split at h <;> exact .inl h

theorem TxQueue.inFlight_iff {k : TxKey} : q.inFlight k = true ↔ ∃ f, q.flight = some f ∧ f.frame.key = k := by
  unfold TxQueue.inFlight
  split
  · rename_i f hf; simp [hf]
  · rename_i hf; simp [hf]

/-! ## A sound queue stays sound -/

theorem TxQueue.sound_flushed : TxQueue.flushed.Sound := ⟨List.nodup_nil, nofun, nofun⟩

section
variable (h : q.Sound)
include h

theorem TxQueue.Sound.place (n : QFrame) : (q.place n).Sound := by
  obtain ⟨keys, flight, waiting⟩ := h
  refine ⟨?_, fun f hf => ?_, fun w hw => ?_⟩
  · unfold TxQueue.place
    split
    · split <;> exact keys
    · split
      · exact combineIn_keys q.frames n ▸ keys
      · rename_i fresh
        simp only [List.map_append, List.map_cons, List.map_nil]
        refine List.nodup_append.2 ⟨keys, List.nodup_singleton _, ?_⟩
        rintro _ ha _ hb rfl
        obtain ⟨y, hy, hk⟩ := List.mem_map.1 ha
        exact fresh (List.any_eq_true.2 ⟨y, hy, by simp [hk, List.mem_singleton.1 hb]⟩)
  · rw [TxQueue.place_flight] at hf
    obtain ⟨y, hy, hyf⟩ := flight f hf
    by_cases hk : f.frame.key = n.frame.key
    · refine ⟨y, ?_, hyf⟩
      have flies : q.inFlight n.frame.key = true := TxQueue.inFlight_iff.2 ⟨f, hf, hk⟩
      unfold TxQueue.place
      rw [if_pos flies]
      split <;> exact hy
    · exact ⟨y, TxQueue.mem_place hy (by rwa [hyf]), hyf⟩
  · rw [TxQueue.place_flight]
    rcases TxQueue.place_waiting hw with old | ⟨-, flies, key | ⟨v, hv, key⟩⟩
    · exact waiting w old
    · obtain ⟨f, hf, hk⟩ := TxQueue.inFlight_iff.1 flies
      exact ⟨f, hf, key.trans hk.symm⟩
    · obtain ⟨f, hf, hk⟩ := waiting v hv
      exact ⟨f, hf, key.trans hk⟩

theorem TxQueue.Sound.sent : q.sent.Sound := by
  obtain ⟨keys, -, waiting⟩ := h
  unfold TxQueue.sent
  split
  · exact ⟨keys, by simp [*], fun w hw => by simpa [*] using waiting w hw⟩
  · rename_i f hf
    refine ⟨?_, nofun, nofun⟩
    have left := (List.filter_sublist (p := fun x => decide (x.frame.key ≠ f.frame.key)) (l := q.frames)).map
      (fun x => x.frame.key)
    cases hw : q.waiting with
    | none => simpa using keys.sublist left
    | some w =>
      obtain ⟨g, hg, key⟩ := waiting w hw
      simp only [Option.toList_some, List.map_append, List.map_cons, List.map_nil]
      refine List.nodup_append.2 ⟨keys.sublist left, List.nodup_singleton _, ?_⟩
      rintro _ ha _ hb rfl
      obtain ⟨y, hy, hk⟩ := List.mem_map.1 ha
      rw [List.mem_singleton.1 hb, key] at hk
      rw [hg] at hf
      cases hf
      simp [hk] at hy

theorem TxQueue.Sound.unsent : q.unsent.Sound := by
  obtain ⟨keys, -, waiting⟩ := h
  unfold TxQueue.unsent
  split
  · exact ⟨keys, nofun, fun w hw => by simp_all⟩
  · exact ⟨by rw [combineIn_keys]; exact keys, nofun, nofun⟩

theorem TxQueue.Sound.withdraw (k : TxKey) : (q.withdraw k).Sound := by
  obtain ⟨keys, flight, waiting⟩ := h
  unfold TxQueue.withdraw
  split
  · exact ⟨keys, flight, waiting⟩
  · rename_i grounded
    refine ⟨keys.sublist (List.filter_sublist.map _), fun f hf => ?_, waiting⟩
    obtain ⟨y, hy, hyf⟩ := flight f hf
    have other : f.frame.key ≠ k := fun e => grounded (TxQueue.inFlight_iff.2 ⟨f, hf, e⟩)
    exact ⟨y, List.mem_filter.2 ⟨hy, by simpa [hyf] using other⟩, hyf⟩

/-- A frame taken from the queue begins its flight, none being in flight. -/
theorem TxQueue.Sound.departs (grounded : q.flight = none) {f : Flight} (hx : x ∈ q.frames) (carries : f.frame = x.frame) :
    ({ q with flight := some f } : TxQueue).Sound := by
  obtain ⟨keys, -, waiting⟩ := h
  refine ⟨keys, fun g hg => ?_, fun w hw => ?_⟩
  · cases hg
    exact ⟨x, hx, carries.symm⟩
  · obtain ⟨g, hg, -⟩ := waiting w hw
    rw [grounded] at hg
    cases hg

end
end
end Sys2Proof.Machine
end

section
/-! Digit queues and the transmit queue: the CLAIM in the transmit queue is the pending claim's (R104, R136). -/

namespace Sys2Proof.Machine
open Sys2Proof

/-- The CLAIM of the queue is the pending claim's, queued or in flight as its stage says; a flight that a reset in progress
has cut short is not asked for (R104, R136, R207). -/
structure TxQueue.Claims (q : TxQueue) (claim : Option Claim) (cut : Bool) : Prop where
  carried : ∀ x ∈ q.frames, x.frame.key = .claim → ∃ c, claim = some c ∧ c.carriedBy x.frame
  waits : ∀ w, q.waiting = some w → w.frame.key ≠ .claim
  flies : ∀ f, q.flight = some f → f.frame.key = .claim → ∃ c, claim = some c ∧ c.stage = .inFlight
  queued : ∀ c, claim = some c → c.stage = .queued → ∃ x ∈ q.frames, x.frame.key = .claim
  inFlight : ∀ c, claim = some c → c.stage = .inFlight → cut = false → (∃ x ∈ q.frames, x.frame.key = .claim) →
    ∃ f, q.flight = some f ∧ f.frame.key = .claim

/-- The queue holds no CLAIM. -/
def TxQueue.Unclaimed (q : TxQueue) : Prop := ∀ x ∈ q.frames, x.frame.key ≠ .claim

theorem TxQueue.claims_flushed (cut : Bool) : TxQueue.flushed.Claims none cut := ⟨nofun, nofun, nofun, nofun, nofun⟩

section
variable {q : TxQueue} {claim : Option Claim} {cut : Bool}

/-- With the CLAIMs, the flight and what waits as they were, but for what is no CLAIM, the queue stays right. -/
theorem TxQueue.Claims.of_same (h : q.Claims claim cut) {r : TxQueue}
    (frames : ∀ x : QFrame, x.frame.key = .claim → (x ∈ r.frames ↔ x ∈ q.frames)) (flight : r.flight = q.flight)
    (waits : ∀ w, r.waiting = some w → w.frame.key ≠ .claim) : r.Claims claim cut where
  carried x hx hk := h.carried x ((frames x hk).1 hx) hk
  waits := waits
  flies f hf hk := h.flies f (flight ▸ hf) hk
  queued c hc hq := by
    obtain ⟨x, hx, hk⟩ := h.queued c hc hq
    exact ⟨x, (frames x hk).2 hx, hk⟩
  inFlight c hc hs uncut := fun ⟨x, hx, hk⟩ => by
    rw [flight]
    exact h.inFlight c hc hs uncut ⟨x, (frames x hk).1 hx, hk⟩

theorem TxQueue.Claims.place (h : q.Claims claim cut) {n : QFrame} (other : n.frame.key ≠ .claim) :
    (q.place n).Claims claim cut := by
  refine h.of_same (fun x hk => TxQueue.mem_place_iff (by rw [hk]; exact other.symm)) (by simp) fun w hw => ?_
  rcases TxQueue.place_waiting hw with old | ⟨-, -, key | ⟨v, hv, key⟩⟩
  · exact h.waits w old
  · rwa [key]
  · rw [key]
    exact h.waits v hv

/-- With no claim pending the queue holds no CLAIM, and none is in flight. -/
theorem TxQueue.Claims.unclaimed (h : q.Claims none cut) : q.Unclaimed ∧ q.inFlight .claim = false := by
  refine ⟨fun x hx hk => ?_, Bool.eq_false_iff.2 fun flies => ?_⟩
  · obtain ⟨c, hc, -⟩ := h.carried x hx hk
    cases hc
  · obtain ⟨f, hf, hk⟩ := TxQueue.inFlight_iff.1 flies
    obtain ⟨c, hc, -⟩ := h.flies f hf hk
    cases hc

/-- The CLAIM of a new claim joins a queue that holds none (R136). -/
theorem TxQueue.Claims.placeClaim (h : q.Claims none cut) {n : QFrame} {c : Claim} (key : n.frame.key = .claim)
    (carries : c.carriedBy n.frame) (queued : c.stage = .queued) : (q.place n).Claims (some c) cut := by
  obtain ⟨none_, grounded⟩ := h.unclaimed
  have joined : q.place n = { q with frames := q.frames ++ [n] } := by
    unfold TxQueue.place
    rw [if_neg (by simp [key, grounded]), if_neg]
    simpa [key, TxQueue.Unclaimed] using none_
  rw [joined]
  refine ⟨fun x hx hk => ?_, h.waits, fun f hf hk => ?_, fun d _ _ => ⟨n, by simp, key⟩, fun d hd hs => ?_⟩
  · rcases List.mem_append.1 hx with old | new
    · exact absurd hk (none_ x old)
    · rw [List.mem_singleton.1 new]
      exact ⟨c, rfl, carries⟩
  · rw [Bool.eq_false_iff] at grounded
    exact absurd (TxQueue.inFlight_iff.2 ⟨f, hf, hk⟩) grounded
  · cases hd
    rw [queued] at hs
    cases hs

/-- A queue without a CLAIM, queued or in flight, is right for no claim and for any that is in flight (R106). -/
theorem TxQueue.claims_of_unclaimed (unclaimed : q.Unclaimed) (sound : q.Sound)
    (stage : ∀ c, claim = some c → c.stage = .inFlight) : q.Claims claim cut := by
  obtain ⟨-, flight, waiting⟩ := sound
  have grounded (f : Flight) (hf : q.flight = some f) : f.frame.key ≠ .claim := by
    obtain ⟨x, hx, hxf⟩ := flight f hf
    exact hxf ▸ unclaimed x hx
  refine ⟨fun x hx hk => absurd hk (unclaimed x hx), fun w hw hk => ?_, fun f hf hk => absurd hk (grounded f hf),
    fun c hc hq => ?_, fun c _ _ _ ⟨x, hx, hk⟩ => absurd hk (unclaimed x hx)⟩
  · obtain ⟨f, hf, key⟩ := waiting w hw
    exact grounded f hf (key.symm.trans hk)
  · rw [stage c hc] at hq
    cases hq

/-- Any claim's CLAIM is withdrawn with it, unless it is in flight (R106). -/
theorem TxQueue.Sound.unclaimed_withdraw (grounded : q.inFlight .claim = false) :
    (q.withdraw .claim).Unclaimed := by
  unfold TxQueue.withdraw
  rw [if_neg (by simp [grounded])]
  intro x hx
  simpa using (List.mem_filter.1 hx).2

/-- A QUEUED claim's CLAIM is not in flight. -/
theorem TxQueue.Claims.grounded (h : q.Claims claim cut) (stage : ∀ c, claim = some c → c.stage = .queued) :
    q.inFlight .claim = false :=
  Bool.eq_false_iff.2 fun flies => by
    obtain ⟨f, hf, hk⟩ := TxQueue.inFlight_iff.1 flies
    obtain ⟨c, hc, hs⟩ := h.flies f hf hk
    rw [stage c hc] at hs
    cases hs

theorem TxQueue.Claims.withdraw (h : q.Claims claim cut) {k : TxKey} (other : k ≠ .claim) :
    (q.withdraw k).Claims claim cut := by
  unfold TxQueue.withdraw
  split
  · exact h
  · exact h.of_same (fun x hk => by simp [hk, other.symm]) rfl h.waits

/-- The outcome sent takes a CLAIM in flight from the queue, and no other CLAIM (R106). -/
theorem TxQueue.Claims.sent (h : q.Claims claim cut) (sound : q.Sound) : q.sent.Claims claim cut := by
  unfold TxQueue.sent
  split
  · exact h
  · rename_i f hf
    by_cases hk : f.frame.key = .claim
    · obtain ⟨c, hc, hs⟩ := h.flies f hf hk
      refine TxQueue.claims_of_unclaimed (fun x hx => ?_) ?_ fun d hd => ?_
      · rcases List.mem_append.1 hx with left | waited
        · simpa [hk] using (List.mem_filter.1 left).2
        · exact h.waits x (by simpa using waited)
      · have := sound.sent
        simpa [TxQueue.sent, hf] using this
      · rw [hc] at hd
        cases hd
        exact hs
    · refine ⟨fun x hx hx' => ?_, nofun, nofun, fun c hc hq => ?_, fun c hc hs uncut ⟨x, hx, hx'⟩ => ?_⟩
      · rcases List.mem_append.1 hx with left | waited
        · exact h.carried x (List.mem_of_mem_filter left) hx'
        · exact absurd hx' (h.waits x (by simpa using waited))
      · obtain ⟨x, hx, hx'⟩ := h.queued c hc hq
        exact ⟨x, List.mem_append_left _ (List.mem_filter.2 ⟨hx, by simpa [hx'] using Ne.symm hk⟩), hx'⟩
      · rcases List.mem_append.1 hx with left | waited
        · obtain ⟨g, hg, hgk⟩ := h.inFlight c hc hs uncut ⟨x, List.mem_of_mem_filter left, hx'⟩
          rw [hf] at hg
          cases hg
          exact absurd hgk hk
        · exact absurd hx' (h.waits x (by simpa using waited))

/-- After a loss or a failure the CLAIMs of the queue are those it held, and none is in flight (R104, R106). -/
theorem TxQueue.mem_unsent_claim (waits : ∀ w, q.waiting = some w → w.frame.key ≠ .claim) {x : QFrame}
    (hk : x.frame.key = .claim) : x ∈ q.unsent.frames ↔ x ∈ q.frames := by
  unfold TxQueue.unsent
  split
  · rfl
  · rename_i w hw
    exact mem_combineIn_iff (by rw [hk]; exact (waits w hw).symm)

/-- A flight that ends lost or failed leaves a claim in flight QUEUED, and any other as it was (R138). -/
theorem TxQueue.Claims.unsent (h : q.Claims claim cut) (sound : q.Sound) (uncut : cut = false) :
    (q.inFlight .claim = false → q.unsent.Claims claim cut) ∧
      ∀ c, q.inFlight .claim = true → claim = some c → q.unsent.Claims (some { c with stage := .queued }) cut := by
  have mem {x : QFrame} (hk : x.frame.key = .claim) := TxQueue.mem_unsent_claim h.waits hk
  have waiting : q.unsent.waiting = none := by
    unfold TxQueue.unsent
    split <;> simp [*]
  refine ⟨fun grounded => ⟨fun x hx hk => h.carried x ((mem hk).1 hx) hk, by simp [waiting], by simp, fun c hc hq => ?_,
    fun c hc hs _ ⟨x, hx, hk⟩ => ?_⟩, fun c flies hc => ⟨fun x hx hk => ?_, by simp [waiting], by simp,
    fun d _ _ => ?_, fun d hd hs => ?_⟩⟩
  · obtain ⟨x, hx, hk⟩ := h.queued c hc hq
    exact ⟨x, (mem hk).2 hx, hk⟩
  · rw [Bool.eq_false_iff] at grounded
    exact absurd (TxQueue.inFlight_iff.2 (h.inFlight c hc hs uncut ⟨x, (mem hk).1 hx, hk⟩)) grounded
  · obtain ⟨d, hd, carries⟩ := h.carried x ((mem hk).1 hx) hk
    rw [hc] at hd
    cases hd
    exact ⟨_, rfl, carries⟩
  · obtain ⟨f, hf, hk⟩ := TxQueue.inFlight_iff.1 flies
    obtain ⟨-, flight, -⟩ := sound
    obtain ⟨x, hx, hxf⟩ := flight f hf
    have key : x.frame.key = .claim := by rw [hxf, hk]
    exact ⟨x, (mem key).2 hx, key⟩
  · cases hd
    cases hs

/-- A frame other than a CLAIM begins its flight, none being in flight (R72). -/
theorem TxQueue.Claims.departs (h : q.Claims claim cut) (grounded : q.flight = none) (uncut : cut = false) {f : Flight}
    (other : f.frame.key ≠ .claim) : ({ q with flight := some f } : TxQueue).Claims claim cut where
  carried := h.carried
  waits := h.waits
  flies g hg hk := by
    cases hg
    exact absurd hk other
  queued := h.queued
  inFlight c hc hs _ held := by
    obtain ⟨g, hg, -⟩ := h.inFlight c hc hs uncut held
    rw [grounded] at hg
    cases hg

/-- The CLAIM begins its flight, and its claim is IN FLIGHT (R136). -/
theorem TxQueue.Claims.claimDeparts (h : q.Claims claim cut) {f : Flight} {c : Claim} (hc : claim = some c)
    (key : f.frame.key = .claim) : ({ q with flight := some f } : TxQueue).Claims (some { c with stage := .inFlight }) cut where
  carried x hx hk := by
    obtain ⟨d, hd, carries⟩ := h.carried x hx hk
    rw [hc] at hd
    cases hd
    exact ⟨_, rfl, carries⟩
  waits := h.waits
  flies _ _ _ := ⟨_, rfl, rfl⟩
  queued d hd hq := by
    cases hd
    cases hq
  inFlight _ _ _ _ _ := ⟨f, rfl, key⟩

/-- A claim's owner lapses: its CLAIM stays the one it was for (R138). -/
theorem TxQueue.Claims.lapses (h : q.Claims claim cut) {c : Claim} {l : Line} (hc : claim = some c)
    (owner : c.owner = .line l) : q.Claims (some { c with owner := .lapsed }) cut where
  carried x hx hk := by
    obtain ⟨d, hd, line, carries, owned⟩ := h.carried x hx hk
    rw [hc] at hd
    cases hd
    rw [owner] at owned
    exact ⟨_, rfl, line, carries, by simp only at owned; simp [owned]⟩
  waits := h.waits
  flies f hf hk := by
    obtain ⟨d, hd, hs⟩ := h.flies f hf hk
    rw [hc] at hd
    cases hd
    exact ⟨_, rfl, hs⟩
  queued d hd hq := by
    cases hd
    exact h.queued c hc hq
  inFlight d hd hs uncut held := by
    cases hd
    exact h.inFlight c hc hs uncut held

end
end Sys2Proof.Machine
end

section
/-! Digit queues and the transmit queue: the hunt queue, the transmit queue and the pending claim of a station, kept by
what its parts do (R103, R104, R131, R136, R169). -/

namespace Sys2Proof.Machine
open Sys2Proof

/-! ## This station's CLAIM on the wire -/

theorem header_kind {kind : Nat} (few : kind < 16) (slot : HeaderSlot) : (header kind slot).toNat / 16 = kind := by
  have := slot.isLt
  rw [header, BitVec.toNat_ofNat, Nat.mod_eq_of_lt (by omega)]
  omega

theorem octalByte_injective {x y : Fin 8} (h : octalByte x = octalByte y) : x = y := by
  have := congrArg BitVec.toNat h
  simp only [octalByte, BitVec.toNat_ofNat] at this
  omega

/-- A frame that goes on the wire with the bytes of this station's CLAIM for a trunk is a CLAIM for that trunk (R92,
R93). -/
theorem State.onWire_claim {s : State} {f : TxFrame} {t : Trunk} {line : Option Line}
    (h : encodeFrame (s.onWire f) = encodeFrame (.claim s.slot t line)) : ∃ m, f = .claim t m := by
  have kinds {a b : Nat} (ha : a < 16) (hb : b < 16) (apart : a ≠ b) : header a (headerSlot s.slot) ≠ header b (headerSlot s.slot) :=
    fun e => apart (by rw [← header_kind ha (headerSlot s.slot), e, header_kind hb])
  cases f with
  | claim u m =>
    have trunks : octalByte u = octalByte t := by
      simp only [State.onWire, encodeFrame, withCheck, List.cons_append, List.cons.injEq] at h
      exact h.2.1
    exact ⟨m, by rw [octalByte_injective trunks]⟩
  | release u c => exact absurd (List.head_eq_of_cons_eq h) (kinds (by omega) (by omega) (by omega))
  | retire u c => exact absurd (List.head_eq_of_cons_eq h) (kinds (by omega) (by omega) (by omega))
  | restore u => exact absurd (List.head_eq_of_cons_eq h) (kinds (by omega) (by omega) (by omega))
  | report p => exact absurd (List.head_eq_of_cons_eq h) (kinds (by omega) (by omega) (by omega))

/-! ## The law -/

/-- The station states in which a station may have something to serve: all but those before the first entry to ACTIVE or
ISOLATED (R45, R169). -/
def StationState.Serves (st : StationState) : Prop := st ≠ .strapCheck ∧ st ≠ .selfTest ∧ st ≠ .listen

/-- The hunt queue, the transmit queue and the pending claim are exact, and empty until the first service. -/
structure State.QueuesExact (s : State) : Prop where
  hunt : s.HuntQueueExact
  tx : s.tx.Sound
  claims : s.tx.Claims s.hunt.claim s.inReset
  own : ∀ t line, s.link.own = some (encodeFrame (.claim s.slot t line)) →
    ∃ c, s.hunt.claim = some c ∧ c.stage = .inFlight ∧ c.trunk = t
  isolated : s.ctl.station = .isolated → s.hunt.claim = none
  owner : ∀ c l, s.hunt.claim = some c → c.owner = .line l → (s.call l).state = .hunting
  unserved : s.UnservedUntilActive

theorem State.queuesExact_iff {s : State} :
    s.QueuesExact ↔ s.HuntQueueExact ∧ s.tx.Sound ∧ s.ClaimExact ∧ s.UnservedUntilActive := by
  constructor
  · intro h
    exact ⟨h.hunt, h.tx, ⟨h.claims.carried, h.claims.waits, h.claims.flies, h.own, h.isolated,
      fun c hc => ⟨fun l => h.owner c l hc, h.claims.queued c hc, h.claims.inFlight c hc⟩⟩, h.unserved⟩
  · rintro ⟨hunt, tx, ⟨carried, waits, flies, own, isolated, claim⟩, unserved⟩
    exact { hunt, tx, own, isolated, unserved
            claims := ⟨carried, waits, flies, fun c hc => (claim c hc).2.1, fun c hc => (claim c hc).2.2⟩
            owner := fun c l hc => (claim c hc).1 l }

theorem State.unservedUntilActive_of_serves {s : State} (serves : s.ctl.station.Serves) : s.UnservedUntilActive := by
  obtain ⟨strapCheck, selfTest, listen⟩ := serves
  intro early
  simp [strapCheck, selfTest, listen] at early

/-- Calls, queues, trunks and what there is to send stand as they were, or are given up. -/
theorem State.Unserved.of_same {s t : State} (h : s.Unserved) (calls : ∀ l, (t.call l).state = (s.call l).state)
    (hunt : t.hunt.queue = s.hunt.queue ∧ t.hunt.claim = s.hunt.claim)
    (probe : t.hunt.probe = none ∨ t.hunt.probe = s.hunt.probe)
    (trunks : ∀ u, (t.entry u).isOwn = (s.entry u).isOwn ∧ (s.session u = none → t.session u = none))
    (tx : t.tx = s.tx) (reply : t.link.reply = none ∨ t.link.reply = s.link.reply) : t.Unserved := by
  obtain ⟨idle, queue, claim, asked, resting, flushed, silent⟩ := h
  refine ⟨fun l => (calls l).trans (idle l), hunt.1.trans queue, hunt.2.trans claim, ?_,
    fun u => ⟨(trunks u).1.trans (resting u).1, (trunks u).2 (resting u).2⟩, tx.trans flushed, ?_⟩
  · rcases probe with e | e
    · exact e
    · exact e.trans asked
  · rcases reply with e | e
    · exact e
    · exact e.trans silent

section
variable {s t : State} (h : s.QueuesExact)
include h

/-- A station with something to serve is past its first entry to ACTIVE or ISOLATED. -/
theorem State.QueuesExact.served (busy : ¬ s.Unserved) : s.ctl.station.Serves :=
  ⟨fun e => busy (h.unserved (.inl e)), fun e => busy (h.unserved (.inr (.inl e))),
    fun e => busy (h.unserved (.inr (.inr e)))⟩

/-- The queues and the claim stand, and the HUNTING lines with them. -/
theorem State.QueuesExact.of_same (same : t.inReset = s.inReset ∧ t.ctl.station = s.ctl.station ∧
      t.ctl.straps = s.ctl.straps ∧ t.tx = s.tx ∧ t.hunt.queue = s.hunt.queue ∧ t.hunt.claim = s.hunt.claim)
    (own : t.link.own = none ∨ t.link.own = s.link.own)
    (hunting : ∀ l, (t.call l).state = .hunting ↔ (s.call l).state = .hunting)
    (unserved : t.UnservedUntilActive) : t.QueuesExact := by
  obtain ⟨inReset, station, straps, tx, queue, claim⟩ := same
  have slot : t.slot = s.slot := by simp [State.slot, straps]
  refine ⟨⟨queue ▸ h.hunt.1, fun l => ?_⟩, tx ▸ h.tx, ?_, fun v line hv => ?_, ?_, fun c l hc ho => ?_, unserved⟩
  · rw [queue, hunting]; exact h.hunt.2 l
  · rw [tx, claim, inReset]; exact h.claims
  · rw [claim]
    rcases own with none_ | own
    · rw [none_] at hv; cases hv
    · exact h.own v line (by rw [← own, hv, slot])
  · rw [station, claim]; exact h.isolated
  · rw [hunting]; exact h.owner c l (claim ▸ hc) ho

theorem State.QueuesExact.agrees (same : s.Agrees t) : t.QueuesExact := by
  refine h.of_same ⟨same.inReset, same.station, same.straps, same.tx, same.queue, same.claim⟩ same.link.own
    (fun l => by rw [(same.calls l).state]) fun early => ?_
  rw [same.station] at early
  refine (h.unserved early).of_same (fun l => (same.calls l).state) ⟨same.queue, same.claim⟩ same.probe
    (fun u => ⟨same.entries u, fun none_ => ?_⟩) same.tx same.link.reply
  have := same.sessions u
  rw [none_] at this
  simpa using this

/-- Senders' acts leave the queues of the Hunt Unit and of the link alone. -/
theorem State.QueuesExact.sendsOn (sends : s.SendsOn t) (same : t.inReset = s.inReset ∧ t.ctl = s.ctl ∧ t.tx = s.tx ∧
    t.hunt = s.hunt ∧ t.link = s.link ∧ t.view = s.view) : t.QueuesExact := by
  obtain ⟨inReset, ctl, tx, hunt, link, view⟩ := same
  refine h.of_same (by simp [inReset, ctl, tx, hunt]) (.inr (by rw [link])) (fun l => by rw [(sends.calls l).state])
    fun early => ?_
  rw [ctl] at early
  refine (h.unserved early).of_same (fun l => (sends.calls l).state) (by simp [hunt]) (.inr (by rw [hunt]))
    (fun u => ⟨by simp [State.entry, view], fun none_ => ?_⟩) tx (.inr (by rw [link]))
  have := sends.purposes u
  rw [none_] at this
  simpa using this

/-- In a station that serves, what leaves the queues, the claim and the HUNTING lines alone. -/
theorem State.QueuesExact.of_served (same : t.inReset = s.inReset ∧ t.ctl = s.ctl ∧ t.tx = s.tx ∧ t.hunt = s.hunt)
    (own : t.link.own = none ∨ t.link.own = s.link.own) (calls : t.calls = s.calls)
    (serves : s.ctl.station.Serves) : t.QueuesExact := by
  obtain ⟨inReset, ctl, tx, hunt⟩ := same
  exact h.of_same (by simp [inReset, ctl, tx, hunt]) own (fun l => by simp [State.call, calls])
    (State.unservedUntilActive_of_serves (ctl ▸ serves))

/-! ## The transmit queue -/

/-- The transmit queue becomes another that is right for the claim. -/
theorem State.QueuesExact.setTx {q : TxQueue} (sound : q.Sound) (claims : q.Claims s.hunt.claim s.inReset)
    (serves : s.ctl.station.Serves ∨ q = s.tx) : (s.setTx q).QueuesExact := by
  refine ⟨h.hunt, sound, claims, h.own, h.isolated, h.owner, ?_⟩
  rcases serves with serves | rfl
  · exact State.unservedUntilActive_of_serves serves
  · exact h.unserved

theorem State.QueuesExact.place {f : TxFrame} (serves : s.ctl.station.Serves) (other : f.key ≠ .claim) :
    (s.place f).QueuesExact :=
  h.setTx (h.tx.place _) (h.claims.place other) (.inl serves)

/-- With nothing queued there is no outcome to come. -/
theorem State.QueuesExact.flight_serves {f : Flight} (flies : s.tx.flight = some f) : s.ctl.station.Serves :=
  h.served fun ⟨_, _, _, _, _, flushed, _⟩ => by
    rw [flushed] at flies
    cases flies

theorem State.QueuesExact.sent : (s.setTx s.tx.sent).QueuesExact := by
  refine h.setTx h.tx.sent (h.claims.sent h.tx) ?_
  cases flies : s.tx.flight with
  | none => exact .inr (by simp [TxQueue.sent, flies])
  | some f => exact .inl (h.flight_serves flies)

/-- The claim is removed, with no CLAIM left in the queue and none of this station's on the wire. -/
theorem State.QueuesExact.dropClaim {q : TxQueue} {x : HuntUnit} (sound : q.Sound) (unclaimed : q.Unclaimed)
    (off : ∀ t line, s.link.own ≠ some (encodeFrame (.claim s.slot t line)))
    (queue : x.queue = s.hunt.queue) (claim : x.claim = none) (serves : s.ctl.station.Serves) :
    ((s.setTx q).setHunt x).QueuesExact := by
  refine ⟨⟨queue ▸ h.hunt.1, fun l => ?_⟩, sound, TxQueue.claims_of_unclaimed unclaimed sound (by simp [claim]),
    fun t line hv => absurd hv (off t line), fun _ => claim, fun c l hc => ?_,
    State.unservedUntilActive_of_serves serves⟩
  · simpa [queue] using h.hunt.2 l
  · simp [claim] at hc

/-- A QUEUED claim is withdrawn with its CLAIM (R137, R138). -/
theorem State.QueuesExact.withdrawClaim (stage : ∀ c, s.hunt.claim = some c → c.stage = .queued) :
    s.withdrawClaim.QueuesExact := by
  unfold State.withdrawClaim
  split
  · exact h
  · rename_i c hc
    have serves : s.ctl.station.Serves := h.served fun ⟨_, _, free, _⟩ => by rw [free] at hc; cases hc
    have grounded := h.claims.grounded stage
    have dropped : ((s.setTx (s.tx.withdraw .claim)).setHunt { s.hunt with claim := none }).QueuesExact := by
      refine h.dropClaim (h.tx.withdraw _) (TxQueue.Sound.unclaimed_withdraw grounded) (fun t line hv => ?_) rfl rfl serves
      obtain ⟨d, hd, hs, -⟩ := h.own t line hv
      rw [stage d hd] at hs
      cases hs
    dsimp only
    split
    · exact dropped.agrees (State.agrees_probeAgain _)
    · exact dropped

/-- The claim changes its stage, or lapses, its trunk the same. -/
theorem State.QueuesExact.setClaim {q : TxQueue} {x : HuntUnit} {c d : Claim} (hc : s.hunt.claim = some c)
    (sound : q.Sound) (claims : q.Claims (some d) s.inReset) (queue : x.queue = s.hunt.queue) (claim : x.claim = some d)
    (trunk : d.trunk = c.trunk) (owner : d.owner = c.owner ∨ d.owner = .lapsed)
    (stage : (∃ t line, s.link.own = some (encodeFrame (.claim s.slot t line))) → d.stage = .inFlight) :
    ((s.setTx q).setHunt x).QueuesExact := by
  have serves : s.ctl.station.Serves := h.served fun ⟨_, _, free, _⟩ => by rw [free] at hc; cases hc
  refine ⟨⟨queue ▸ h.hunt.1, fun l => ?_⟩, sound, claim ▸ claims, fun t line hv => ?_, fun isolated => ?_,
    fun e l he ho => ?_, State.unservedUntilActive_of_serves serves⟩
  · simpa [queue] using h.hunt.2 l
  · obtain ⟨e, he, hs, ht⟩ := h.own t line hv
    rw [hc] at he
    cases he
    exact ⟨d, claim, stage ⟨t, line, hv⟩, trunk.trans ht⟩
  · rw [h.isolated isolated] at hc
    cases hc
  · simp only [State.setHunt_hunt, claim, Option.some.injEq] at he
    subst he
    rcases owner with same | lapsed
    · exact h.owner c l hc (same ▸ ho)
    · rw [lapsed] at ho
      cases ho

theorem State.QueuesExact.flightEnds (run : s.running = true) (off : s.link.own = none) : s.flightEnds.QueuesExact := by
  have uncut : s.inReset = false := by simp_all [State.running]
  obtain ⟨stands, restages⟩ := h.claims.unsent h.tx uncut
  have serves (flies : s.tx.inFlight .claim = true) : s.ctl.station.Serves := by
    obtain ⟨f, hf, -⟩ := TxQueue.inFlight_iff.1 flies
    exact h.flight_serves hf
  unfold State.flightEnds
  dsimp only
  split
  · rename_i flies
    split
    · rename_i c hc
      split
      · rename_i lapsed
        have grounded : s.tx.unsent.inFlight .claim = false := by simp [TxQueue.inFlight]
        have dropped := h.dropClaim (q := s.tx.unsent.withdraw .claim) (x := { s.hunt with claim := none })
          (h.tx.unsent.withdraw _) (TxQueue.Sound.unclaimed_withdraw grounded) (by simp [off]) rfl rfl (serves flies)
        have notProbe : c.owner ≠ .probe := by simp [lapsed]
        simp only [State.setTx_hunt] at hc
        have withdrawn : (s.setTx s.tx.unsent).withdrawClaim =
            (s.setTx (s.tx.unsent.withdraw .claim)).setHunt { s.hunt with claim := none } := by
          simp only [State.withdrawClaim, State.setTx_hunt, hc, if_neg notProbe]
          rfl
        rw [withdrawn]
        exact dropped
      · exact h.setClaim hc h.tx.unsent (restages c flies hc) rfl rfl rfl (.inl rfl) (by simp [off])
    · rename_i hc
      obtain ⟨f, hf, hk⟩ := TxQueue.inFlight_iff.1 flies
      obtain ⟨c, hc', -⟩ := h.claims.flies f hf hk
      simp [hc'] at hc
  · rename_i grounded
    refine h.setTx h.tx.unsent (stands (by simpa using grounded)) ?_
    cases flies : s.tx.flight with
    | none =>
      refine .inr ?_
      obtain ⟨-, -, waiting⟩ := h.tx
      cases hw : s.tx.waiting with
      | none =>
        cases whole : s.tx
        simp_all [TxQueue.unsent]
      | some w =>
        obtain ⟨f, hf, -⟩ := waiting w hw
        simp [flies] at hf
    | some f => exact .inl (h.flight_serves flies)

/-- What this station has on the wire changes, where a CLAIM of its own is the pending claim's. -/
theorem State.QueuesExact.setOwn {k : Link} (serves : s.ctl.station.Serves)
    (own : ∀ t line, k.own = some (encodeFrame (.claim s.slot t line)) →
      ∃ c, s.hunt.claim = some c ∧ c.stage = .inFlight ∧ c.trunk = t) : (s.setLink k).QueuesExact :=
  { h with own, unserved := State.unservedUntilActive_of_serves serves }

/-- The frame offered begins its flight, and a CLAIM's claim is IN FLIGHT (R72, R105, R136). -/
theorem State.QueuesExact.startFrame (run : s.running = true) (joining : Bool) : (s.startFrame joining).QueuesExact := by
  have uncut : s.inReset = false := by simp_all [State.running]
  unfold State.startFrame
  split
  · rename_i starts
    have grounded : s.tx.flight = none := by
      have := starts.2
      simp [State.sending] at this
      exact this.1
    split
    · exact h
    · rename_i f offered
      obtain ⟨x, hx, rfl⟩ := Option.map_eq_some_iff.1 offered
      obtain ⟨queued, offers⟩ := State.mem_offerable.1 (firstOffered_mem hx)
      have serves : s.ctl.station.Serves := by
        refine ⟨fun e => ?_, fun e => ?_, fun e => ?_⟩ <;> simp [Control.offers, e] at offers
      have sound (b : List Byte) (n : Nat) := h.tx.departs grounded queued (f := { frame := x.frame, bytes := b, start := n }) rfl
      by_cases key : x.frame.key = .claim
      · obtain ⟨c, hc, line, carries, -⟩ := h.claims.carried x queued key
        have flown := h.setClaim (x := { s.hunt with claim := some { c with stage := .inFlight } }) hc
          (sound (encodeFrame (s.onWire x.frame)) s.now) (h.claims.claimDeparts hc key) rfl rfl rfl (.inl rfl) fun _ => rfl
        have sending := flown.setOwn (k := s.link.beginFrame (some (encodeFrame (s.onWire x.frame))) s.now) serves
          fun t m own => by
            obtain ⟨line', same⟩ := State.onWire_claim (Option.some.inj own)
            rw [carries, TxFrame.claim.injEq] at same
            exact ⟨_, rfl, rfl, same.1⟩
        simp only [carries, State.setLink_hunt, State.setTx_hunt, hc] at sending ⊢
        exact sending
      · have flown := h.setTx (sound (encodeFrame (s.onWire x.frame)) s.now) (h.claims.departs grounded uncut key) (.inl serves)
        have sending := flown.setOwn (k := s.link.beginFrame (some (encodeFrame (s.onWire x.frame))) s.now) serves
          fun t m own => by
            obtain ⟨line', same⟩ := State.onWire_claim (Option.some.inj own)
            simp [same, TxFrame.key] at key
        dsimp only
        split
        · simp [*, TxFrame.key] at key
        · exact sending
  · exact h

end
end Sys2Proof.Machine
end

section
/-! Digit queues and the transmit queue: what the Hunt Unit, the calls and the trunks leave of the queues. -/

namespace Sys2Proof.Machine
open Sys2Proof

/-- What the end of a line's hunt entry makes of the pending claim (R131, R138). -/
def State.disown (s : State) (l : Line) : State :=
  match s.hunt.claim with
  | some c =>
    if c.owner = .line l then
      match c.stage with
      | .queued => s.withdrawClaim
      | .inFlight => s.setHunt { s.hunt with claim := some { c with owner := .lapsed } }
    else s
  | none => s

theorem State.huntDrop_disown (s : State) (l : Line) : (s.huntDrop l).tx = (s.disown l).tx ∧
    (s.huntDrop l).hunt.claim = (s.disown l).hunt.claim ∧
    (s.huntDrop l).hunt.queue = (s.disown l).hunt.queue.filter (· ≠ l) := by
  unfold State.huntDrop State.disown
  simp only [State.setHunt_hunt]
  cases hc : s.hunt.claim with
  | none => exact ⟨rfl, hc.symm, rfl⟩
  | some c =>
    dsimp only
    split
    · cases c.stage with
      | queued =>
        simp only [State.withdrawClaim, State.setHunt_hunt, hc]
        split <;> simp
      | inFlight => exact ⟨rfl, rfl, rfl⟩
    · exact ⟨rfl, hc.symm, rfl⟩

@[simp] theorem State.disown_frame (s : State) (l : Line) : (s.disown l).inReset = s.inReset ∧ (s.disown l).ctl = s.ctl ∧
    (s.disown l).calls = s.calls ∧ (s.disown l).link = s.link := by
  unfold State.disown
  split
  · split
    · split <;> simp
    · simp
  · simp

/-- The claim that is left is not the line's. -/
theorem State.disown_owner {s : State} {l : Line} {c : Claim} (hc : (s.disown l).hunt.claim = some c) :
    c.owner ≠ .line l := by
  unfold State.disown at hc
  cases held : s.hunt.claim with
  | none => simp [held] at hc
  | some d =>
    simp only [held] at hc
    split at hc
    · cases hs : d.stage with
      | queued =>
        rw [hs] at hc
        unfold State.withdrawClaim at hc
        simp only [held] at hc
        split at hc <;> simp at hc
      | inFlight =>
        rw [hs] at hc
        simp only [State.setHunt_hunt, Option.some.injEq] at hc
        simp [← hc]
    · rw [held] at hc
      cases hc
      assumption

section
variable {s t : State} (h : s.QueuesExact)
include h

/-! ## The hunt queue and the pending claim -/

theorem State.QueuesExact.disown (l : Line) : (s.disown l).QueuesExact := by
  unfold State.disown
  split
  · rename_i c hc
    split
    · rename_i owner
      split
      · rename_i queued
        exact h.withdrawClaim fun d hd => by
          rw [hc] at hd
          cases hd
          exact queued
      · rename_i inFlight
        exact h.setClaim hc h.tx (h.claims.lapses hc owner) rfl rfl rfl (.inr rfl) fun _ => inFlight
    · exact h
  · exact h

/-- In a station that serves, the hunt queue is exact again and a claim's line still HUNTING. -/
theorem State.QueuesExact.moves (same : t.inReset = s.inReset ∧ t.ctl = s.ctl ∧ t.tx = s.tx ∧ t.hunt.claim = s.hunt.claim)
    (own : t.link.own = none ∨ t.link.own = s.link.own) (queue : t.HuntQueueExact)
    (owner : ∀ c l, s.hunt.claim = some c → c.owner = .line l → (t.call l).state = .hunting)
    (serves : s.ctl.station.Serves) : t.QueuesExact := by
  obtain ⟨inReset, ctl, tx, claim⟩ := same
  have slot : t.slot = s.slot := by simp [State.slot, ctl]
  refine ⟨queue, tx ▸ h.tx, ?_, fun v line hv => ?_, ?_, fun c l hc => owner c l (claim ▸ hc),
    State.unservedUntilActive_of_serves (ctl ▸ serves)⟩
  · rw [tx, claim, inReset]; exact h.claims
  · rw [claim]
    rcases own with none_ | own
    · rw [none_] at hv; cases hv
    · exact h.own v line (by rw [← own, hv, slot])
  · rw [ctl, claim]; exact h.isolated

/-- A line that owns no claim leaves the hunt queue and HUNTING (R131). -/
theorem State.QueuesExact.leaves {l : Line}
    (same : t.inReset = s.inReset ∧ t.ctl = s.ctl ∧ t.tx = s.tx ∧ t.hunt.claim = s.hunt.claim ∧ t.link = s.link)
    (queue : t.hunt.queue = s.hunt.queue.filter (· ≠ l)) (left : (t.call l).state ≠ .hunting)
    (others : ∀ m, m ≠ l → t.call m = s.call m) (unowned : ∀ c, s.hunt.claim = some c → c.owner ≠ .line l)
    (serves : s.ctl.station.Serves) : t.QueuesExact := by
  obtain ⟨inReset, ctl, tx, claim, link⟩ := same
  refine h.moves ⟨inReset, ctl, tx, claim⟩ (.inr (by rw [link])) ⟨?_, fun m => ?_⟩ (fun c m hc ho => ?_) serves
  · rw [queue]; exact h.hunt.1.filter _
  · rw [queue, List.mem_filter]
    by_cases hm : m = l
    · subst hm; simpa using left
    · simpa [hm, others m hm] using h.hunt.2 m
  · have apart : m ≠ l := fun e => unowned c hc (e ▸ ho)
    rw [others m apart]
    exact h.owner c m hc ho

/-- A line joins the hunt queue and HUNTING, at its head or its tail (R50, R131). -/
theorem State.QueuesExact.joins {l : Line}
    (same : t.inReset = s.inReset ∧ t.ctl = s.ctl ∧ t.tx = s.tx ∧ t.hunt.claim = s.hunt.claim ∧ t.link = s.link)
    (queue : t.hunt.queue = s.hunt.queue ++ [l] ∨ t.hunt.queue = l :: s.hunt.queue)
    (fresh : (s.call l).state ≠ .hunting) (hunting : (t.call l).state = .hunting)
    (others : ∀ m, m ≠ l → t.call m = s.call m) (serves : s.ctl.station.Serves) : t.QueuesExact := by
  obtain ⟨inReset, ctl, tx, claim, link⟩ := same
  have absent : l ∉ s.hunt.queue := fun e => fresh ((h.hunt.2 l).1 e)
  have exact_ : t.HuntQueueExact := by
    refine ⟨?_, fun m => ?_⟩
    · rcases queue with e | e <;> rw [e]
      · exact List.nodup_append.2 ⟨h.hunt.1, List.nodup_singleton _, fun a ha b hb e => by
          rw [List.mem_singleton.1 hb] at e; exact absent (e ▸ ha)⟩
      · exact List.nodup_cons.2 ⟨absent, h.hunt.1⟩
    · have members : m ∈ t.hunt.queue ↔ m = l ∨ m ∈ s.hunt.queue := by
        rcases queue with e | e <;> simp [e, or_comm]
      rw [members]
      by_cases hm : m = l
      · subst hm; simp [hunting]
      · simp [hm, others m hm, h.hunt.2 m]
  refine h.moves ⟨inReset, ctl, tx, claim⟩ (.inr (by rw [link])) exact_ (fun c m hc ho => ?_) serves
  by_cases hm : m = l
  · subst hm; exact hunting
  · rw [others m hm]; exact h.owner c m hc ho

/-- A HUNTING line goes back to the head of the hunt queue (R154). -/
theorem State.QueuesExact.requeues {l : Line}
    (same : t.inReset = s.inReset ∧ t.ctl = s.ctl ∧ t.tx = s.tx ∧ t.hunt.claim = s.hunt.claim ∧ t.link = s.link ∧
      t.calls = s.calls)
    (queue : t.hunt.queue = l :: s.hunt.queue.filter (· ≠ l)) (hunting : (s.call l).state = .hunting)
    (serves : s.ctl.station.Serves) : t.QueuesExact := by
  obtain ⟨inReset, ctl, tx, claim, link, calls⟩ := same
  have call (m : Line) : t.call m = s.call m := by simp [State.call, calls]
  refine h.moves ⟨inReset, ctl, tx, claim⟩ (.inr (by rw [link])) ⟨?_, fun m => ?_⟩
    (fun c m hc ho => by rw [call]; exact h.owner c m hc ho) serves
  · rw [queue]
    exact List.nodup_cons.2 ⟨by simp, h.hunt.1.filter _⟩
  · rw [queue, call, ← h.hunt.2 m]
    by_cases hm : m = l
    · subst hm; simpa using (h.hunt.2 m).2 hunting
    · simp [hm]

/-- A claim is made where none was pending, and its CLAIM placed (R136). -/
theorem State.QueuesExact.newClaim {f : TxFrame} {x : HuntUnit} {c : Claim} (active : s.ctl.station = .active)
    (free : s.hunt.claim = none) (key : f.key = .claim) (carries : c.carriedBy f) (stage : c.stage = .queued)
    (queue : x.queue = s.hunt.queue) (claim : x.claim = some c)
    (owner : ∀ l, c.owner = .line l → (s.call l).state = .hunting) : ((s.place f).setHunt x).QueuesExact := by
  have claims := h.claims
  rw [free] at claims
  refine ⟨⟨queue ▸ h.hunt.1, fun l => ?_⟩, h.tx.place _, ?_, fun t line hv => ?_, fun isolated => ?_, fun d l hd ho => ?_,
    State.unservedUntilActive_of_serves ?_⟩
  · simpa [State.call, queue] using h.hunt.2 l
  · exact claim ▸ claims.placeClaim key carries stage
  · obtain ⟨d, hd, -⟩ := h.own t line hv
    rw [free] at hd
    cases hd
  · simp [active] at isolated
  · simp only [State.setHunt_hunt, claim, Option.some.injEq] at hd
    subst hd
    simpa [State.call] using owner l ho
  · simp [StationState.Serves, active]

theorem State.QueuesExact.makeChoice (active : s.ctl.station = .active) : s.makeChoice.QueuesExact := by
  unfold State.makeChoice
  split
  · rename_i l rest free _
    split
    · rename_i v hunting _
      exact h.newClaim (c := { trunk := v, owner := .line l, stage := .queued }) active free rfl ⟨_, rfl, rfl⟩ rfl (by simp)
        rfl fun m hm => by
          cases hm
          exact hunting
    · exact h
  · exact h

theorem State.QueuesExact.judgeActive (active : s.ctl.station = .active) : s.judgeActive.QueuesExact := by
  unfold State.judgeActive
  split
  · exact h.makeChoice active
  · rename_i c hc
    split
    · exact h
    · rename_i queued
      split
      · exact h
      · have withdrawn := h.withdrawClaim fun d hd => by
          rw [hc] at hd
          cases hd
          exact queued
        exact withdrawn.makeChoice (by simpa using active)

/-- A line seized for leaves the hunt queue for SEIZING, where it owns no claim (R52, R153). -/
theorem State.QueuesExact.seizes {u : State} {v : Trunk} {l : Line}
    (same : u.inReset = s.inReset ∧ u.ctl = s.ctl ∧ u.tx = s.tx ∧ u.hunt = s.hunt ∧ u.link = s.link ∧ u.calls = s.calls)
    (free : s.hunt.claim = none) (serves : s.ctl.station.Serves) : ((u.unqueue l).seizeForLine v l).QueuesExact := by
  obtain ⟨inReset, ctl, tx, hunt, link, calls⟩ := same
  have call (m : Line) : (u.unqueue l).call m = s.call m := by simp [State.call, calls]
  refine h.leaves (l := l) (by simp [inReset, ctl, tx, hunt, link]) (by simp [State.unqueue, hunt]) ?_ (fun m hm => ?_)
    (by simp [free]) serves
  · simp [State.seizeForLine_call]
  · rw [State.seizeForLine_call, if_neg hm, call]

theorem State.QueuesExact.judgeIsolated (isolated : s.ctl.station = .isolated) : s.judgeIsolated.QueuesExact := by
  unfold State.judgeIsolated
  split
  · split
    · exact h.seizes (by simp) (h.isolated isolated) (by simp [StationState.Serves, isolated])
    · exact h
  · exact h

theorem State.QueuesExact.judge : s.judge.QueuesExact := by
  unfold State.judge
  split
  · exact h.judgeActive ‹_›
  · exact h.judgeIsolated ‹_›
  · exact h

theorem State.QueuesExact.settleSenders : s.settleSenders.QueuesExact := h.sendsOn State.sendsOn_settleSenders (by simp)

theorem State.QueuesExact.settle : s.settle.QueuesExact := h.judge.settleSenders

/-! ## Releases -/

section
variable (serves : s.ctl.station.Serves)
include serves

theorem State.QueuesExact.retireSelf (v : Trunk) (cause : Cause) : (s.retireSelf v cause).QueuesExact := by
  have retired := h.agrees (State.agrees_setRetiredBy v (some s.slot))
  have placed := retired.place (f := .retire v cause) (by simpa using serves) (by simp [TxFrame.key])
  exact placed.agrees (State.agrees_of_same (by simp [State.retireSelf]) fun u => by simp [State.retireSelf, State.entry])

theorem State.QueuesExact.releaseTrunk (v : Trunk) (cause : Cause) : (s.releaseTrunk v cause).QueuesExact := by
  have freed : (((((s.setSeize v false).openTrunk v).abortSenders v).setSession v none).freeOwn v).QueuesExact :=
    h.of_served (by simp) (.inr (by simp)) (by simp) serves
  exact freed.place (by simpa using serves) (by simp [TxFrame.key])

theorem State.QueuesExact.endSession (v : Trunk) (cause : Cause) : (s.endSession v cause).QueuesExact := by
  have released := h.releaseTrunk serves v cause
  unfold State.endSession
  split
  · exact released.retireSelf (by simpa using serves) v _
  · exact released

theorem State.QueuesExact.countFailure (v : Trunk) : (s.countFailure v).QueuesExact := by
  unfold State.countFailure
  dsimp only
  split
  · exact h.of_served (by simp) (.inr rfl) rfl serves
  · have counted : (s.setEntry v { s.entry v with failures := 0 }).QueuesExact := h.of_served (by simp) (.inr rfl) rfl serves
    exact counted.retireSelf (by simpa using serves) v _

/-! ## Calls -/

/-- The line's hunt entry and claim are dropped, and its call is no longer HUNTING (R60, R61). -/
theorem State.QueuesExact.drops {l : Line}
    (same : t.inReset = s.inReset ∧ t.ctl = s.ctl ∧ t.link = s.link)
    (queues : t.tx = (s.huntDrop l).tx ∧ t.hunt = (s.huntDrop l).hunt)
    (left : (t.call l).state ≠ .hunting) (others : ∀ m, m ≠ l → t.call m = s.call m) : t.QueuesExact := by
  obtain ⟨inReset, ctl, link⟩ := same
  obtain ⟨tx, claim, queue⟩ := s.huntDrop_disown l
  have call (m : Line) : (s.disown l).call m = s.call m := by simp [State.call]
  refine (h.disown l).leaves (l := l) (by simp [inReset, ctl, link, queues, tx, claim]) (by rw [queues.2, queue]) left
    (fun m hm => by rw [others m hm, call]) (fun c hc => State.disown_owner hc) (by simpa using serves)

theorem State.QueuesExact.lockout (l : Line) : (s.lockout l).QueuesExact := by
  obtain ⟨hunt, tx⟩ := s.lockout_hunt l
  refine h.drops serves (by simp) ⟨tx, hunt⟩ ?_ fun m hm => ?_
  · simp [State.lockout_call, CallRecord.lockedOut]
  · simp [State.lockout_call, hm]

theorem State.QueuesExact.clearCall (l : Line) : (s.clearCall l).QueuesExact := by
  have let_go : (s.dropTrunk l).QueuesExact := by
    unfold State.dropTrunk
    split
    · exact h.endSession serves _ _
    · exact h
  refine let_go.drops (l := l) (by simpa using serves) (by simp) ?_ ?_ fun m hm => ?_
  · simp [State.clearCall_eq]
  · rw [State.clearCall_call, if_pos rfl]
    unfold CallRecord.atRest
    cases (s.call l).pendingBlock <;> simp
  · rw [State.clearCall_call, if_neg hm]
    simp [State.call]

theorem State.QueuesExact.callFailed (l : Line) : (s.callFailed l).QueuesExact := by
  unfold State.callFailed
  dsimp only
  split
  · rename_i seizing
    split
    · exact h.joins (l := l) (by simp) (.inr (by simp [State.queueHead])) (by simp [seizing]) (by simp [State.queueHead])
        (fun m hm => by simp [State.queueHead, hm]) serves
    · exact h.lockout serves l
  · exact h

theorem State.QueuesExact.startCall {l : Line} (idle : (s.call l).state = .idle) : (s.startCall l).QueuesExact := by
  obtain ⟨call, -, -, -⟩ := s.callStarts_startCall l
  have others (m : Line) (hm : m ≠ l) : (s.startCall l).call m = s.call m := (s.lineStands_startCall l hm).1
  have queue := s.startCall_queue l
  unfold State.startedCall at call
  cases hm : s.ctl.straps.mode with
  | overlap =>
    rw [hm] at call queue
    exact h.joins (l := l) (by simp) (.inl queue) (by simp [idle]) (by simp [call]) others serves
  | enBloc =>
    rw [hm] at call queue
    refine h.of_same (by simp [queue]) (.inr (by simp)) (fun m => ?_)
      (State.unservedUntilActive_of_serves (by simpa using serves))
    by_cases same : m = l
    · subst same; simp [call, idle]
    · rw [others m same]

theorem State.QueuesExact.enterHunting {l : Line} (collecting : (s.call l).state = .collecting) :
    (s.enterHunting l).QueuesExact :=
  h.joins (l := l) (by simp [State.enterHunting, State.queueTail]) (.inl (by simp [State.enterHunting, State.queueTail]))
    (by simp [collecting]) (by simp [State.enterHunting_call]) (fun m hm => by simp [State.enterHunting_call, hm]) serves

end
end
end Sys2Proof.Machine
end

section
/-! Digit queues and the transmit queue: claims at their EOF, Station Control's entries, and every step (R103, R104,
R131, R136, R169). -/

namespace Sys2Proof.Machine
open Sys2Proof

section
variable {s t : State} (h : s.QueuesExact)
include h

/-! ## Trunks -/

theorem State.QueuesExact.serves_of_session {v : Trunk} {ses : Session} (opened : s.session v = some ses) :
    s.ctl.station.Serves :=
  h.served fun ⟨_, _, _, _, resting, _⟩ => by
    rw [(resting v).2] at opened
    cases opened

theorem State.QueuesExact.serves_of_own {v : Trunk} (own : (s.entry v).isOwn = true) : s.ctl.station.Serves :=
  h.served fun ⟨_, _, _, _, resting, _⟩ => by
    rw [(resting v).1] at own
    cases own

theorem State.QueuesExact.serves_of_call {l : Line} {st : CallState} (is : (s.call l).state = st) (busy : st ≠ .idle) :
    s.ctl.station.Serves :=
  h.served fun ⟨idle, _⟩ => busy (is ▸ idle l)

theorem State.QueuesExact.serves_of_claim {c : Claim} (pending : s.hunt.claim = some c) : s.ctl.station.Serves :=
  h.served fun ⟨_, _, free, _⟩ => by
    rw [free] at pending
    cases pending

theorem State.QueuesExact.establish {v : Trunk} (serves : s.ctl.station.Serves) (x : Session) (l : Line) :
    (s.establish v x l).QueuesExact := by
  have opened : ((s.setSession v (some { x with state := .established, answer := none })).setEntry v
      { (s.setSession v (some { x with state := .established, answer := none })).entry v with failures := 0 }).QueuesExact :=
    h.of_served (by simp) (.inr rfl) rfl serves
  unfold State.establish
  dsimp only
  refine State.QueuesExact.settleSenders ?_
  split
  · rename_i seizing
    refine opened.of_same (by simp) (.inr rfl) (fun m => ?_) (State.unservedUntilActive_of_serves (by simpa using serves))
    by_cases hm : m = l
    · subst hm
      have before : (s.call m).state = .seizing := seizing
      simp [before]
    · simp [hm]
  · exact opened

theorem State.QueuesExact.seizureFails (serves : s.ctl.station.Serves) (v : Trunk) (l : Line) :
    (s.seizureFails v l).QueuesExact := by
  have failed := (h.releaseTrunk serves v .ptsFail).countFailure (by simpa using serves) v
  unfold State.seizureFails
  dsimp only
  refine State.QueuesExact.settle ?_
  split
  · exact (failed.retireSelf (by simpa using serves) v _).callFailed (by simpa using serves) l
  · exact failed.callFailed (by simpa using serves) l

theorem State.QueuesExact.yieldTo {v : Trunk} (own : (s.entry v).isOwn = true) (p : Slot) : (s.yieldTo v p).QueuesExact := by
  have serves := h.serves_of_own own
  have held : (s.makeHeld v p none).QueuesExact := h.of_served (by simp) (.inr rfl) rfl serves
  unfold State.yieldTo
  dsimp only
  split
  · exact held
  · have ended := held.endSession (by simpa using serves) v .yield
    split
    · exact ended.lockout (by simpa using serves) _
    · exact ended.agrees (State.agrees_probeAgain v)

omit h in
theorem queuesLearn : Learns State.QueuesExact where
  agreesWithin h same := h.agrees same
  yieldTo _ own h := h.yieldTo own _

/-! ## Claims at EOF -/

/-- The claim of a CLAIM that was sent is settled: no CLAIM is left in the queue, nor this station's on the wire. -/
def State.Settling (s : State) : Prop := s.QueuesExact ∧ s.tx.Unclaimed ∧ s.link.own = none ∧ s.ctl.station.Serves

end

section
variable {s t : State}

theorem TxQueue.Unclaimed.place {q : TxQueue} (h : q.Unclaimed) {n : QFrame} (other : n.frame.key ≠ .claim) :
    (q.place n).Unclaimed := fun x hx hk =>
  h x ((TxQueue.mem_place_iff (by rw [hk]; exact other.symm)).1 hx) hk

theorem TxQueue.Unclaimed.withdraw {q : TxQueue} (h : q.Unclaimed) (k : TxKey) : (q.withdraw k).Unclaimed :=
  fun x hx => h x (TxQueue.mem_of_mem_withdraw hx)

theorem State.unclaimed_releaseTrunk (h : s.tx.Unclaimed) (v : Trunk) (cause : Cause) :
    (s.releaseTrunk v cause).tx.Unclaimed := by
  have := h.place (n := { frame := .release v cause, age := s.now }) (by simp [TxFrame.key])
  simpa [State.releaseTrunk, State.place] using this

theorem State.unclaimed_retireSelf (h : s.tx.Unclaimed) (v : Trunk) (cause : Cause) :
    (s.retireSelf v cause).tx.Unclaimed := by
  have := h.place (n := { frame := .retire v cause, age := s.now }) (by simp [TxFrame.key])
  simpa [State.retireSelf, State.place] using this

theorem State.unclaimed_endSession (h : s.tx.Unclaimed) (v : Trunk) (cause : Cause) :
    (s.endSession v cause).tx.Unclaimed := by
  unfold State.endSession
  split
  · exact State.unclaimed_retireSelf (State.unclaimed_releaseTrunk h v cause) v _
  · exact State.unclaimed_releaseTrunk h v cause

theorem State.unclaimed_lockout (h : s.tx.Unclaimed) (l : Line) : (s.lockout l).tx.Unclaimed := by
  obtain ⟨-, tx⟩ := s.lockout_hunt l
  obtain ⟨disowned, -, -⟩ := s.huntDrop_disown l
  rw [tx, disowned]
  unfold State.disown State.withdrawClaim
  split
  · split
    · split
      · split
        · exact h
        · dsimp only
          split <;> simpa using h.withdraw .claim
      · exact h
    · exact h
  · exact h

theorem State.unclaimed_yieldTo (h : s.tx.Unclaimed) (v : Trunk) (p : Slot) : (s.yieldTo v p).tx.Unclaimed := by
  have ended := State.unclaimed_endSession (s := s.makeHeld v p none) (by simpa using h) v .yield
  unfold State.yieldTo
  dsimp only
  split
  · simpa using h
  · split
    · exact State.unclaimed_lockout ended _
    · simpa using ended

theorem settlingLearns : Learns State.Settling where
  agreesWithin := by
    rintro s t ⟨exact_, unclaimed, off, serves⟩ same
    refine ⟨exact_.agrees same, same.tx ▸ unclaimed, ?_, same.station ▸ serves⟩
    rcases same.link.own with none_ | own
    · exact none_
    · rw [own, off]
  yieldTo := by
    rintro s t p - own ⟨exact_, unclaimed, off, serves⟩
    exact ⟨exact_.yieldTo own p, State.unclaimed_yieldTo unclaimed t p, by simpa using off, by simpa using serves⟩

/-- With no CLAIM left a claim may be removed (R141, R144, R146). -/
theorem State.Settling.removeClaim (h : s.Settling) : (s.setHunt { s.hunt with claim := none }).QueuesExact := by
  obtain ⟨exact_, unclaimed, off, serves⟩ := h
  exact exact_.dropClaim exact_.tx unclaimed (by simp [off]) rfl rfl serves

theorem State.Settling.ownWithoutEffect (h : s.Settling) (c : Claim) : (s.ownWithoutEffect c).QueuesExact := by
  unfold State.ownWithoutEffect
  dsimp only
  split
  · exact h.removeClaim.agrees (State.agrees_probeAgain _)
  · exact h.removeClaim

section
variable (h : s.QueuesExact) (serves : s.ctl.station.Serves) (free : s.hunt.claim = none)
include h serves

theorem State.QueuesExact.giveUp (v : Trunk) : (s.giveUp v).QueuesExact := by
  have freed : (s.freeOwn v).QueuesExact := h.of_served (by simp) (.inr (by simp)) (by simp) serves
  exact freed.place (by simpa using serves) (by simp [TxFrame.key])

theorem State.QueuesExact.conflict (v : Trunk) : ((s.conflictOwn v).place (.release v .busyConflict)).QueuesExact := by
  have freed : (s.conflictOwn v).QueuesExact := h.of_served (by simp) (.inr (by simp)) (by simp) serves
  exact freed.place (by simpa using serves) (by simp [TxFrame.key])

theorem State.QueuesExact.handProbe (v : Trunk) : (s.handProbe v).QueuesExact := by
  unfold State.handProbe
  split
  · exact (h.conflict serves v).agrees (State.agrees_probeAgain v)
  · exact h.of_served (by simp) (.inr (by simp)) (by simp) serves

include free in
theorem State.QueuesExact.handLine (v : Trunk) {l : Line} (hunting : (s.call l).state = .hunting) :
    (s.handLine v l).QueuesExact := by
  unfold State.handLine
  dsimp only
  split
  · have conflicted := h.conflict serves v
    have placed : (((s.unqueue l).conflictOwn v).place (.release v .busyConflict)).tx =
        ((s.conflictOwn v).place (.release v .busyConflict)).tx := by
      simp [State.place]
    refine conflicted.requeues (l := l) (by simp [placed]) (by simp [State.queueHead, State.unqueue]) ?_ (by simpa using serves)
    simpa [State.call] using hunting
  · exact h.seizes (by simp) free serves

end

theorem State.Settling.ownEffective (h : s.Settling) (c : Claim) (line : Option Line) :
    (s.ownEffective c line).QueuesExact := by
  obtain ⟨exact_, unclaimed, off, serves⟩ := h
  have removed := State.Settling.removeClaim ⟨exact_, unclaimed, off, serves⟩
  have owned : (((s.raiseCount c.trunk).makeOwn c.trunk line).setHunt { s.hunt with claim := none }).QueuesExact :=
    removed.of_served (by simp) (.inr (by simp)) (by simp) serves
  unfold State.ownEffective
  dsimp only
  split
  · split
    · exact owned.handLine (by simpa using serves) rfl c.trunk ‹_›
    · exact owned.giveUp (by simpa using serves) c.trunk
  · exact owned.handProbe (by simpa using serves) c.trunk
  · exact owned.giveUp (by simpa using serves) c.trunk

/-- The outcome sent of this station's CLAIM leaves its claim pending, with no CLAIM in the queue (R106). -/
theorem State.QueuesExact.claimSent (h : s.QueuesExact) (run : s.running = true) {c : Claim}
    (pending : s.hunt.claim = some c) (stage : c.stage = .inFlight) (off : s.link.own = none) : s.claimSent.Settling := by
  have serves := h.serves_of_claim pending
  have uncut : s.inReset = false := by simp_all [State.running]
  unfold State.claimSent
  split
  · rename_i flies
    obtain ⟨f, hf, hk⟩ := TxQueue.inFlight_iff.1 flies
    refine ⟨h.sent.agrees (State.agrees_setLink ⟨.inr rfl, .inr rfl⟩), fun x hx => ?_, off, serves⟩
    simp only [State.setLink_tx, State.setTx_tx, TxQueue.sent, hf] at hx
    rcases List.mem_append.1 hx with left | waited
    · simpa [hk] using (List.mem_filter.1 left).2
    · exact h.claims.waits x (by simpa using waited)
  · rename_i grounded
    exact ⟨h, fun x hx hk =>
      grounded (TxQueue.inFlight_iff.2 (h.claims.inFlight c pending stage uncut ⟨x, hx, hk⟩)), off, serves⟩

theorem State.QueuesExact.ownClaim (h : s.QueuesExact) (run : s.running = true) {c : Claim}
    (pending : s.hunt.claim = some c) (stage : c.stage = .inFlight) (off : s.link.own = none) (line : Option Line)
    (v : Trunk) (outcome : ClaimOutcome) : (s.ownClaim v line outcome).QueuesExact := by
  have sent := h.claimSent run pending stage off
  unfold State.ownClaim
  dsimp only
  split
  · exact sent.1
  · rename_i d _
    split
    · split
      · exact (sent.ownEffective d line).settle
      · rename_i code o
        have refreshed := settlingLearns.agreesWithin sent (State.agrees_refresh o)
        have learnt := settlingLearns.applyObjection (by simpa [State.running] using run) refreshed v code o
        exact (learnt.ownWithoutEffect d).settle
      · exact (sent.ownWithoutEffect d).settle
    · exact sent.1

/-! ## Station Control -/

theorem State.QueuesExact.beginReset (h : s.QueuesExact) : s.beginReset.QueuesExact := by
  refine ⟨h.hunt, ⟨h.tx.1, nofun, nofun⟩, ?_, nofun, h.isolated, h.owner, fun early => ?_⟩
  · exact ⟨h.claims.carried, nofun, nofun, h.claims.queued, fun _ _ _ cut => by cases cut⟩
  · have unserved := h.unserved early
    refine unserved.of_same (fun _ => rfl) ⟨rfl, rfl⟩ (.inr rfl) (fun _ => ⟨rfl, id⟩) ?_ (.inl rfl)
    obtain ⟨-, -, -, -, -, flushed, -⟩ := unserved
    simp [State.beginReset, flushed, TxQueue.flushed]

theorem State.QueuesExact.halt (h : s.QueuesExact) {st : StationState} (stops : st.halted = true) :
    (s.halt st).QueuesExact := by
  have station : (s.halt st).ctl.station = st := by simp [State.halt, Control.enter]
  have claim : (s.halt st).hunt.claim = none := by simp [State.halt]
  have queue : (s.halt st).hunt.queue = s.hunt.queue := by simp [State.halt]
  have tx : (s.halt st).tx = TxQueue.flushed := by simp [State.halt]
  refine ⟨⟨queue ▸ h.hunt.1, fun l => ?_⟩, tx ▸ TxQueue.sound_flushed, ?_, fun t line hv => ?_, fun _ => claim,
    fun c l hc => ?_, State.unservedUntilActive_of_serves ?_⟩
  · simpa [queue, State.call] using h.hunt.2 l
  · rw [tx, claim]
    exact TxQueue.claims_flushed _
  · simp [State.halt] at hv
  · rw [claim] at hc
    cases hc
  · rw [station]
    refine ⟨?_, ?_, ?_⟩ <;> rintro rfl <;> simp [StationState.halted] at stops

theorem State.endReset_queuesExact (s : State) (pins : BitVec 15) : (s.endReset pins).QueuesExact := by
  have cleared (straps : Straps) : (s.cleared straps).QueuesExact := by
    obtain ⟨hunt, tx, ⟨carried, waits, flies, -, -, -⟩, -⟩ := State.reset_queuesExact
    exact ⟨hunt, tx, ⟨carried, waits, flies, nofun, nofun⟩, nofun, nofun, nofun, fun _ => State.reset_unserved⟩
  unfold State.endReset
  dsimp only
  split
  · exact (cleared _).halt rfl
  · exact cleared _

theorem State.QueuesExact.enterListen (h : s.QueuesExact) (test : s.ctl.station = .selfTest) :
    s.enterListen.QueuesExact := by
  refine ⟨h.hunt, h.tx, h.claims, h.own, ?_, h.owner, fun _ => ?_⟩
  · simp [State.enterListen, Control.enter]
  · exact (h.unserved (.inr (.inl test))).of_same (fun _ => rfl) ⟨rfl, rfl⟩ (.inr rfl) (fun _ => ⟨rfl, id⟩) rfl (.inr rfl)

theorem State.QueuesExact.activating (h : s.QueuesExact) : s.activating.QueuesExact :=
  ⟨h.hunt, h.tx.place _, h.claims.place (by simp [TxFrame.key]), h.own, by simp [State.activating], h.owner,
    State.unservedUntilActive_of_serves (by simp [State.activating, StationState.Serves])⟩

theorem State.QueuesExact.isolating (h : s.QueuesExact) : s.isolating.QueuesExact := by
  have claim : s.isolating.hunt.claim = none ∧ s.isolating.hunt.queue = s.hunt.queue := by
    unfold State.isolating
    rw [State.dropClaim_hunt]
    exact ⟨rfl, rfl⟩
  have tx : s.isolating.tx = TxQueue.flushed := by simp [State.isolating, TxQueue.flushed]
  refine ⟨⟨claim.2 ▸ h.hunt.1, fun l => ?_⟩, tx ▸ TxQueue.sound_flushed, ?_, fun t line hv => ?_, fun _ => claim.1,
    fun c l hc => ?_, State.unservedUntilActive_of_serves (by simp [State.isolating, StationState.Serves])⟩
  · simpa [claim.2, State.call, State.isolating] using h.hunt.2 l
  · rw [tx, claim.1]
    exact TxQueue.claims_flushed _
  · simp [State.isolating] at hv
  · rw [claim.1] at hc
    cases hc

theorem State.QueuesExact.enterRejoin (h : s.QueuesExact) : s.enterRejoin.QueuesExact :=
  ⟨h.hunt, h.tx.withdraw _, h.claims.withdraw (by simp), h.own, by simp [State.enterRejoin, Control.enter], h.owner,
    State.unservedUntilActive_of_serves (by simp [State.enterRejoin, Control.enter, StationState.Serves])⟩

/-! ## Lines -/

theorem State.QueuesExact.setState (h : s.QueuesExact) (serves : s.ctl.station.Serves)
    (same : t.inReset = s.inReset ∧ t.ctl = s.ctl ∧ t.tx = s.tx ∧ t.hunt = s.hunt ∧ t.link = s.link)
    (hunting : ∀ l, (t.call l).state = .hunting ↔ (s.call l).state = .hunting) : t.QueuesExact := by
  obtain ⟨inReset, ctl, tx, hunt, link⟩ := same
  exact h.of_same (by simp [inReset, ctl, tx, hunt]) (.inr (by rw [link])) hunting
    (State.unservedUntilActive_of_serves (ctl ▸ serves))

theorem State.QueuesExact.blockLine (h : s.QueuesExact) (serves : s.ctl.station.Serves) (l : Line) :
    (s.blockLine l).QueuesExact := by
  unfold State.blockLine
  dsimp only
  split
  · rename_i idle
    refine h.setState serves (by simp) fun m => ?_
    by_cases hm : m = l
    · subst hm; simp [State.endGuard, idle]
    · simp [State.endGuard, hm]
  · exact h
  · exact h.agrees (State.agrees_setCall ⟨rfl, rfl, rfl, rfl, rfl, rfl, rfl, rfl⟩)

theorem State.QueuesExact.unblockLine (h : s.QueuesExact) (serves : s.ctl.station.Serves) (l : Line) :
    (s.unblockLine l).QueuesExact := by
  unfold State.unblockLine
  dsimp only
  split
  · rename_i blocked
    refine h.setState serves (by simp) fun m => ?_
    by_cases hm : m = l
    · subst hm; simp [blocked]
    · simp [hm]
  · exact h
  · exact h.agrees (State.agrees_setCall ⟨rfl, rfl, rfl, rfl, rfl, rfl, rfl, rfl⟩)
end

/-! ## Every step -/

theorem queuesKept : Kept State.QueuesExact State.QueuesExact StationState.Serves where
  toLearns := queuesLearn
  within h := h
  agrees h same := h.agrees same
  served h busy := h.served busy
  serving := by simp [StationState.Serves]
  settle _ h := h.settle
  settleSenders _ h := h.settleSenders
  beginReset h := h.beginReset
  endReset := State.endReset_queuesExact
  halt _ stops h := h.halt stops
  enterListen _ test h := h.enterListen test
  activating _ _ h := h.activating
  isolating _ h := h.isolating
  enterRejoin _ _ h := h.enterRejoin
  startCall _ starts idle h := h.startCall (by
    refine ⟨?_, ?_, ?_⟩ <;> intro e <;> simp [e, StationState.callsStart] at starts) idle
  clearCall {s l} _ busy _ h :=
    h.clearCall (h.serves_of_call (l := l) rfl fun e => by simp [e, CallState.inCall] at busy) l
  lockout {s l} _ state h := h.lockout (h.serves_of_call (l := l) rfl fun e => by simp [e] at state) l
  enterHunting _ collecting h := h.enterHunting (h.serves_of_call collecting (by simp)) collecting
  collects {s l _ _} _ collecting h :=
    h.setState (h.serves_of_call collecting (by simp)) (by simp) fun m => by
      by_cases hm : m = l
      · subst hm; simp
      · simp [hm]
  requeues _ h := h.sendsOn (State.sendsOn_setCall ⟨rfl, rfl, rfl, rfl, rfl, rfl, rfl, rfl, rfl⟩) (by simp)
  blockedEdge _ blocked h := h.setState (h.serves_of_call blocked (by simp)) (by simp) fun _ => .rfl
  blockLine _ serves h := h.blockLine serves _
  unblockLine _ serves h := h.unblockLine serves _
  place _ serves other h := h.place serves other
  placeWithin _ serves other h := h.place serves other
  startFrame run h := h.startFrame run _
  flightEnds run off h := h.flightEnds run off
  sent _ h := h.sent
  replies _ gives own h := h.of_served (by simp) own rfl (by
    refine ⟨?_, ?_, ?_⟩ <;> intro e <;> simp [State.replies, e] at gives)
  ownClaim run marked off reply h := by
    obtain ⟨c, pending, stage, -⟩ := h.own _ _ marked
    exact State.QueuesExact.ownClaim (h.agrees (State.agrees_setLink ⟨.inl off, .inr reply⟩))
      (by simpa [State.running] using run) pending stage off _ _ _
  holdsProbe _ active h := h.moves (by simp) (.inr rfl) h.hunt h.owner (by simp [StationState.Serves, active])
  claimsProbe _ active free _ h :=
    h.newClaim active free rfl ⟨none, rfl, rfl⟩ rfl rfl rfl nofun
  establish _ opened _ _ h := h.establish (h.serves_of_session opened) _ _
  seizureFails _ opened _ _ h := h.seizureFails (h.serves_of_session opened) _ _
  switchCleared _ opened _ h :=
    (h.endSession (h.serves_of_session opened) _ _).lockout (by simpa using h.serves_of_session opened) _
  probeEnds _ opened _ h := h.endSession (h.serves_of_session opened) _ _
  breakEnds _ opened _ h :=
    h.of_served (by simp) (.inr (by simp)) (by simp) (h.serves_of_session opened)
  codeBoundary _ _ h := h.sendsOn (State.sendsOn_codeBoundary _) (by simp)
  silenceEnds _ _ _ h := h.sendsOn ((State.sendsOn_removeHead _).trans (State.sendsOn_codeBoundary _)) (by simp)

/-- Settles O56: from what the parts of the commands do to the hunt queue, the transmit queue and the pending claim. -/
theorem everyStepKeepsTheQueuesExact : Obligations.EveryStepKeepsTheQueuesExact := by
  unfold Obligations.EveryStepKeepsTheQueuesExact
  intro s t h e
  exact State.queuesExact_iff.1 (queuesKept.step (State.queuesExact_iff.2 h) e)

end Sys2Proof.Machine
end

section
/-! Crosspoints, senders and sessions: what a release and a closed pair write (R160, R167, R183). -/

namespace Sys2Proof.Machine
open Sys2Proof

section
variable (s : State) (l m : Line) (t v : Trunk) (cause : Cause)

/-- A placing leaves the records alone that are not the transmit queue's. -/
@[simp] theorem State.place_reads (f : TxFrame) : (s.place f).entry = s.entry ∧ (s.place f).session = s.session ∧
    (s.place f).sender = s.sender ∧ (s.place f).call = s.call ∧ (s.place f).closed = s.closed ∧
    (s.place f).retireWaits = s.retireWaits := ⟨rfl, rfl, rfl, rfl, rfl, rfl⟩

/-! ## Pairs -/

theorem pairIndex_inj : pairIndex l t = pairIndex m v ↔ l = m ∧ t = v := by
  simp only [pairIndex, Fin.ext_iff]
  omega

@[simp] theorem State.setPoints_closed (points : Vector Bool 64) :
    (s.setPoints points).closed l t = points[pairIndex l t] := by
  unfold State.setPoints
  split
  · rename_i same
    subst same
    rfl
  · rfl

theorem State.openTrunk_closed : (s.openTrunk t).closed l v = (s.closed l v && v ≠ t) := by
  have place : (pairIndex l v).val % 8 = v.val := by
    have := v.isLt
    simp only [pairIndex]
    omega
  have trunk : (v.val = t.val) = (v = t) := by simp [Fin.ext_iff]
  rw [State.openTrunk, State.setPoints_closed]
  simp [State.closed, place, trunk]

/-- A pair is closed by request where its trunk has an established session for its line, and no other pair changes
(R167). -/
theorem State.closePair_closed : (s.closePair l t).closed m v = true ↔ s.closed m v = true ∨
    (m = l ∧ v = t ∧ ∃ ses, s.session t = some ses ∧ ses.purpose = .line l ∧
      (ses.state = .established ∨ ses.state = .recallBreak)) := by
  have set : (s.sup.points.set (pairIndex l t) true)[pairIndex m v] = (s.closed m v || decide (m = l ∧ v = t)) := by
    by_cases same : pairIndex l t = pairIndex m v
    · obtain ⟨rfl, rfl⟩ := (pairIndex_inj l m t v).1 same
      simp
    · have apart : (pairIndex l t).val ≠ (pairIndex m v).val := fun e => same (Fin.ext e)
      have other : ¬ (m = l ∧ v = t) := fun ⟨hm, hv⟩ => same (by rw [hm, hv])
      simp only [Fin.getElem_fin, Vector.getElem_set_ne _ _ apart, other, decide_false, Bool.or_false]
      rfl
  unfold State.closePair
  split
  · rename_i ses opened
    split
    · rename_i joined
      rw [State.setPoints_closed, set]
      simp [opened, joined]
    · rename_i apart
      simp only [opened, Option.some.injEq, exists_eq_left', apart, and_false, or_false]
  · rename_i none_
    simp [none_]

/-! ## Releases -/

theorem State.abortSenders_sender (i : Fin 2) : (s.abortSenders t).sender i =
    if (s.sender i).trunk = some t then (s.sender i).freed else s.sender i := by
  unfold State.abortSenders State.sender
  simp only [Fin.getElem_fin, Vector.getElem_map]

theorem State.freeOwn_entry : (s.freeOwn t).entry v =
    if v = t ∧ (s.entry t).isOwn = true then (s.entry t).freed s.scanTime else s.entry v := by
  unfold State.freeOwn
  split
  · rename_i own
    simp [own]
  · rename_i other
    simp [other]

/-- What the release of trunk `t` leaves: no session and no seize, its pairs open, its senders aborted, its entry freed if
it was OWN, and the rest as it was (R160). -/
structure State.Releases (s r : State) (t : Trunk) : Prop where
  session : ∀ v, r.session v = if v = t then none else s.session v
  seize : ∀ v : Trunk, r.sup.seize[v] = if v = t then false else s.sup.seize[v]
  closed : ∀ l v, r.closed l v = (s.closed l v && v ≠ t)
  sender : ∀ i, r.sender i = if (s.sender i).trunk = some t then (s.sender i).freed else s.sender i
  holding : ∀ v, (r.entry v).holding = if v = t ∧ (s.entry t).isOwn = true then .free else (s.entry v).holding
  freeSince : ∀ v, (r.entry v).freeSince = if v = t ∧ (s.entry t).isOwn = true then s.scanTime else (s.entry v).freeSince

/-- What reads none of the records that a release writes. -/
theorem State.Releases.of_same {s r r' : State} {t : Trunk} (h : s.Releases r t)
    (same : r'.sup.sessions = r.sup.sessions ∧ r'.sup.seize = r.sup.seize ∧ r'.sup.points = r.sup.points ∧
      r'.senders = r.senders)
    (entries : ∀ v, (r'.entry v).holding = (r.entry v).holding ∧ (r'.entry v).freeSince = (r.entry v).freeSince) :
    s.Releases r' t := by
  obtain ⟨sessions, seize, points, senders⟩ := same
  refine ⟨fun v => ?_, fun v => ?_, fun l v => ?_, fun i => ?_, fun v => ?_, fun v => ?_⟩
  · rw [State.session, sessions]; exact h.session v
  · rw [seize]; exact h.seize v
  · rw [State.closed, points]; exact h.closed l v
  · rw [State.sender, senders]; exact h.sender i
  · rw [(entries v).1]; exact h.holding v
  · rw [(entries v).2]; exact h.freeSince v

theorem State.releases_releaseTrunk : s.Releases (s.releaseTrunk t cause) t := by
  have let_go : s.Releases (((((s.setSeize t false).openTrunk t).abortSenders t).setSession t none).freeOwn t) t := by
    have entry : ((((s.setSeize t false).openTrunk t).abortSenders t).setSession t none).entry = s.entry := by
      funext v
      simp [State.entry]
    refine ⟨fun v => ?_, fun v => ?_, fun l v => ?_, fun i => ?_, fun v => ?_, fun v => ?_⟩
    · have before : (((s.setSeize t false).openTrunk t).abortSenders t).session v = s.session v := by simp [State.session]
      have after : (((((s.setSeize t false).openTrunk t).abortSenders t).setSession t none).freeOwn t).session v =
          ((((s.setSeize t false).openTrunk t).abortSenders t).setSession t none).session v := by simp [State.session]
      rw [after, State.setSession_session, before]
    · simp
    · have after : (((((s.setSeize t false).openTrunk t).abortSenders t).setSession t none).freeOwn t).closed l v =
          ((s.setSeize t false).openTrunk t).closed l v := by simp [State.closed]
      rw [after, State.openTrunk_closed]
      rfl
    · have after : (((((s.setSeize t false).openTrunk t).abortSenders t).setSession t none).freeOwn t).sender i =
          (((s.setSeize t false).openTrunk t).abortSenders t).sender i := by simp [State.sender]
      have before : ((s.setSeize t false).openTrunk t).sender i = s.sender i := by simp [State.sender]
      rw [after, State.abortSenders_sender, before]
    · rw [State.freeOwn_entry, entry]
      split <;> simp [TrunkEntry.freed]
    · rw [State.freeOwn_entry, entry]
      split
      · simp [TrunkEntry.freed, State.scanTime]
      · simp
  exact let_go.of_same (by simp [State.releaseTrunk]) fun v => by simp [State.releaseTrunk, State.entry]

theorem State.releases_endSession : s.Releases (s.endSession t cause) t := by
  have released := s.releases_releaseTrunk t cause
  unfold State.endSession
  split
  · refine released.of_same (by simp) fun v => ?_
    by_cases hv : v = t
    · subst hv; simp [State.retireSelf, State.setRetiredBy]
    · simp [State.retireSelf, State.setRetiredBy, hv]
  · exact released
end
end Sys2Proof.Machine
end

section
/-! Senders and crosspoints: sessions, calls, pairs and senders in agreement, and what keeps them so (R52, R57, R109, R140,
R152, R155, R160, R167, R172, R175, R180). -/

namespace Sys2Proof.Machine
open Sys2Proof

/-- Sessions, calls, pairs, senders and the pool view agree, and a pending claim's trunk is at rest. -/
structure State.SendersSound (s : State) : Prop where
  calls : s.CallsOnTrunks
  pairs : s.PairsExact
  senders : s.SendersExact
  owned : s.running = true → ∀ t, (s.entry t).isOwn = (s.session t).isSome
  claim : ∀ c, s.hunt.claim = some c → s.session c.trunk = none
  isolated : s.ctl.station = .isolated → s.hunt.claim = none

/-- From record `c` to `d` a call stays on its trunk, or is on none before and after. -/
def CallRecord.StaysOn (c d : CallRecord) : Prop :=
  (d.state = c.state ∧ d.trunk = c.trunk ∧ (c.audio = true → d.audio = true)) ∨
    (c.trunk = none ∧ d.trunk = none ∧ d.state ≠ .seizing ∧ d.state ≠ .dialling)

theorem CallRecord.StaysOn.refl (c : CallRecord) : c.StaysOn c := .inl ⟨rfl, rfl, id⟩

/-- A session in one of two agreeing states is in the other, for the same purpose and in the same state. -/
theorem Session.of_role {x y : Option Session} (same : y.map Session.role = x.map Session.role) {ses : Session}
    (opened : y = some ses) : ∃ old, x = some old ∧ old.purpose = ses.purpose ∧ old.state = ses.state := by
  subst opened
  simp only [Option.map_some] at same
  obtain ⟨old, hold, role⟩ := Option.map_eq_some_iff.1 same.symm
  simp only [Session.role, Prod.mk.injEq] at role
  exact ⟨old, hold, role.1, role.2⟩

section
variable {s t : State} (h : s.SendersSound)
include h

/-- A session for a line is its call's, SEIZING in WAIT PTS and DIALLING after it (R52, R155). -/
theorem State.SendersSound.call_of_session {v : Trunk} {ses : Session} {l : Line} (opened : s.session v = some ses)
    (purpose : ses.purpose = .line l) : ses.state ≠ .probeWait ∧ (s.call l).trunk = some v ∧
      (s.call l).state = if ses.state = .waitPts then .seizing else .dialling := by
  have := h.calls.1 v ses opened
  rwa [purpose] at this

theorem State.SendersSound.of_probe {v : Trunk} {ses : Session} (opened : s.session v = some ses)
    (purpose : ses.purpose = .probe) : ses.state = .probeWait := by
  have := h.calls.1 v ses opened
  rwa [purpose] at this

theorem State.SendersSound.offTrunk (run : s.running = true) {l : Line} (seizing : (s.call l).state ≠ .seizing)
    (dialling : (s.call l).state ≠ .dialling) : (s.call l).trunk = none := by
  have on := (h.calls.2 run l).1
  cases trunk : (s.call l).trunk with
  | none => rfl
  | some v => exact absurd (on.1 (by simp [trunk])) (by simp [seizing, dialling])

/-- A call stays on its trunk, and the records that go with it stand. -/
theorem State.SendersSound.of_same (same : t.inReset = s.inReset ∧ t.running = s.running ∧ t.sup.points = s.sup.points)
    (calls : ∀ l, (s.call l).StaysOn (t.call l))
    (sessions : ∀ v, (t.session v).map Session.role = (s.session v).map Session.role)
    (senders : ∀ i, (s.sender i).Alike (t.sender i)) (entries : ∀ v, (t.entry v).isOwn = (s.entry v).isOwn)
    (claim : ∀ c, t.hunt.claim = some c → s.session c.trunk = none)
    (isolated : t.ctl.station = .isolated → t.hunt.claim = none) : t.SendersSound := by
  obtain ⟨inReset, running, points⟩ := same
  have closed (l : Line) (v : Trunk) : t.closed l v = s.closed l v := by simp [State.closed, points]
  have open_ (v : Trunk) : (t.session v).isSome = (s.session v).isSome := by
    simpa using congrArg Option.isSome (sessions v)
  have onTrunk {l : Line} {v : Trunk} (on : (s.call l).trunk = some v) :
      (t.call l).state = (s.call l).state ∧ (t.call l).trunk = some v ∧
        ((s.call l).audio = true → (t.call l).audio = true) := by
    rcases calls l with ⟨state, trunk, audio⟩ | ⟨off, _⟩
    · exact ⟨state, trunk.trans on, audio⟩
    · rw [on] at off; cases off
  refine ⟨⟨fun v ses opened => ?_, fun run l => ?_⟩, ⟨fun l v joined => ?_, fun l m v hl hm => ?_⟩,
    ⟨fun i => ?_, fun i j v hi hj => ?_⟩, fun run v => ?_, fun c hc => ?_, isolated⟩
  · obtain ⟨old, before, purpose, state⟩ := Session.of_role (sessions v) opened
    have sound := h.calls.1 v old before
    rw [purpose, state] at sound
    cases hp : ses.purpose with
    | probe => simpa [hp] using sound
    | line l =>
      rw [hp] at sound
      obtain ⟨waits, on, call⟩ := sound
      obtain ⟨same_, trunk, -⟩ := onTrunk on
      exact ⟨waits, trunk, same_.trans call⟩
  · rw [running] at run
    obtain ⟨on, joined⟩ := h.calls.2 run l
    rcases calls l with ⟨state, trunk, _⟩ | ⟨_, off, seizing, dialling⟩
    · rw [state, trunk]
      refine ⟨on, fun v hv => ?_⟩
      obtain ⟨ses, opened, purpose⟩ := joined v hv
      obtain ⟨new, after, purpose', -⟩ := Session.of_role (sessions v).symm opened
      exact ⟨new, after, purpose'.trans purpose⟩
    · simp [off, seizing, dialling]
  · rw [closed] at joined
    obtain ⟨dialling, on, audio⟩ := h.pairs.1 l v joined
    obtain ⟨state, trunk, same_⟩ := onTrunk on
    exact ⟨state.trans dialling, trunk, same_ audio⟩
  · rw [closed] at hl hm
    exact h.pairs.2 l m v hl hm
  · obtain ⟨trunk, line, select, free, waits⟩ := senders i
    have sound := h.senders.1 i
    rw [trunk, line, select, inReset]
    simp only [free, waits]
    split
    · rwa [if_pos ‹_›] at sound
    · rw [if_neg ‹_›] at sound
      obtain ⟨l, v, ses, hl, hv, selected, opened, purpose, state⟩ := sound
      obtain ⟨new, after, purpose', state'⟩ := Session.of_role (sessions v).symm opened
      exact ⟨l, v, new, hl, hv, selected, after, purpose'.trans purpose, state'.trans state⟩
  · rw [(senders i).trunk] at hi
    rw [(senders j).trunk] at hj
    exact h.senders.2 i j v hi hj
  · rw [entries, open_]
    exact h.owned (running ▸ run) v
  · have rests := claim c hc
    simpa [rests] using open_ c.trunk

theorem State.SendersSound.agrees (same : s.Agrees t) : t.SendersSound :=
  h.of_same ⟨same.inReset, same.running, same.points⟩
    (fun l => .inl ⟨(same.calls l).state, (same.calls l).trunk, fun on => (same.calls l).audio.trans on⟩) same.sessions same.senders
    same.entries (fun c hc => h.claim c (same.claim ▸ hc)) fun isolated => same.claim ▸ h.isolated (same.station ▸ isolated)

/-- What touches calls alone, and leaves them on their trunks. -/
theorem State.SendersSound.of_calls (same : t.inReset = s.inReset ∧ t.ctl.station = s.ctl.station ∧ t.sup.points = s.sup.points ∧
      t.sup.sessions = s.sup.sessions ∧ t.senders = s.senders)
    (entries : ∀ v, (t.entry v).isOwn = (s.entry v).isOwn)
    (claim : ∀ c, t.hunt.claim = some c → ∃ d, s.hunt.claim = some d ∧ c.trunk = d.trunk)
    (calls : ∀ l, (s.call l).StaysOn (t.call l)) : t.SendersSound := by
  obtain ⟨inReset, station, points, sessions, senders⟩ := same
  refine h.of_same ⟨inReset, by simp [State.running, inReset, station], points⟩ calls (fun v => by simp [State.session, sessions])
    (fun i => by simpa [State.sender, senders] using Sender.Alike.refl _) entries (fun c hc => ?_) fun isolated => ?_
  · obtain ⟨d, hd, trunk⟩ := claim c hc
    rw [trunk, h.claim d hd]
  · cases hc : t.hunt.claim with
    | none => rfl
    | some c =>
      obtain ⟨d, hd, -⟩ := claim c hc
      rw [h.isolated (station ▸ isolated)] at hd
      cases hd

/-! ## A trunk is let go -/

/-- Trunk `v` is let go, and a call that was on it is on none and neither SEIZING nor DIALLING (R160). -/
theorem State.SendersSound.releases (run : s.running = true) {v : Trunk}
    (same : t.inReset = s.inReset ∧ t.ctl.station = s.ctl.station)
    (session : ∀ u, t.session u = if u = v then none else s.session u)
    (closed : ∀ l u, t.closed l u = (s.closed l u && u ≠ v))
    (sender : ∀ i, t.sender i = if (s.sender i).trunk = some v then (s.sender i).freed else s.sender i)
    (entry : ∀ u, (t.entry u).isOwn = ((s.entry u).isOwn && u ≠ v))
    (claim : ∀ c, t.hunt.claim = some c → ∃ d, s.hunt.claim = some d ∧ c.trunk = d.trunk)
    (calls : ∀ l, ((s.call l).trunk ≠ some v ∧ (s.call l).StaysOn (t.call l)) ∨
      ((s.call l).trunk = some v ∧ (t.call l).trunk = none ∧ (t.call l).state ≠ .seizing ∧ (t.call l).state ≠ .dialling)) :
    t.SendersSound := by
  obtain ⟨inReset, station⟩ := same
  have running : t.running = s.running := by simp [State.running, inReset, station]
  have live : s.inReset = false := by simp_all [State.running]
  have elsewhere {l : Line} {u : Trunk} (on : (s.call l).trunk = some u) (apart : u ≠ v) :
      (t.call l).state = (s.call l).state ∧ (t.call l).trunk = some u ∧
        ((s.call l).audio = true → (t.call l).audio = true) := by
    rcases calls l with ⟨_, ⟨state, trunk, audio⟩ | ⟨off, _⟩⟩ | ⟨here, _⟩
    · exact ⟨state, trunk.trans on, audio⟩
    · rw [on] at off; cases off
    · rw [on] at here; cases here; exact absurd rfl apart
  have still {u : Trunk} {ses : Session} (opened : t.session u = some ses) : u ≠ v ∧ s.session u = some ses := by
    rw [session] at opened
    split at opened
    · cases opened
    · exact ⟨‹_›, opened⟩
  refine ⟨⟨fun u ses opened => ?_, fun _ l => ?_⟩, ⟨fun l u joined => ?_, fun l m u hl hm => ?_⟩,
    ⟨fun i => ?_, fun i j u hi hj => ?_⟩, fun _ u => ?_, fun c hc => ?_, fun isolated => ?_⟩
  · obtain ⟨apart, before⟩ := still opened
    have sound := h.calls.1 u ses before
    cases hp : ses.purpose with
    | probe => simpa [hp] using sound
    | line l =>
      rw [hp] at sound
      obtain ⟨waits, on, call⟩ := sound
      obtain ⟨state, trunk, -⟩ := elsewhere on apart
      exact ⟨waits, trunk, state.trans call⟩
  · obtain ⟨on, joined⟩ := h.calls.2 run l
    rcases calls l with ⟨apart, ⟨state, trunk, _⟩ | ⟨_, off, seizing, dialling⟩⟩ | ⟨_, off, seizing, dialling⟩
    · rw [state, trunk]
      refine ⟨on, fun u hu => ?_⟩
      obtain ⟨ses, opened, purpose⟩ := joined u hu
      have hne : u ≠ v := fun e => apart (e ▸ hu)
      exact ⟨ses, by rw [session, if_neg hne, opened], purpose⟩
    · simp [off, seizing, dialling]
    · simp [off, seizing, dialling]
  · rw [closed, Bool.and_eq_true, decide_eq_true_eq] at joined
    obtain ⟨dialling, on, audio⟩ := h.pairs.1 l u joined.1
    obtain ⟨state, trunk, same_⟩ := elsewhere on joined.2
    exact ⟨state.trans dialling, trunk, same_ audio⟩
  · rw [closed, Bool.and_eq_true] at hl hm
    exact h.pairs.2 l m u hl.1 hm.1
  · have sound := h.senders.1 i
    rw [sender, inReset]
    by_cases here : (s.sender i).trunk = some v
    · rw [if_pos here]
      simp [Sender.freed]
    · rw [if_neg here]
      split
      · rwa [if_pos ‹_›] at sound
      · rw [if_neg ‹_›] at sound
        obtain ⟨l, u, ses, hl, hu, selected, opened, rest⟩ := sound
        have apart : u ≠ v := fun e => here (e ▸ hu)
        exact ⟨l, u, ses, hl, hu, selected, by rw [session, if_neg apart, opened], rest⟩
  · have before (k : Fin 2) (hk : (t.sender k).trunk = some u) : (s.sender k).trunk = some u := by
      rw [sender] at hk
      split at hk
      · cases hk
      · exact hk
    exact h.senders.2 i j u (before i hi) (before j hj)
  · rw [entry, session, h.owned run u]
    by_cases here : u = v <;> simp [here]
  · obtain ⟨d, hd, trunk⟩ := claim c hc
    have rests := h.claim d hd
    rw [trunk, session]
    split
    · rfl
    · exact rests
  · cases hc : t.hunt.claim with
    | none => rfl
    | some c =>
      obtain ⟨d, hd, -⟩ := claim c hc
      rw [h.isolated (station ▸ isolated)] at hd
      cases hd

end
end Sys2Proof.Machine
end

section
/-! Senders and crosspoints: what sending keeps in agreement (R57, R59, R159, R167, R174 to R182). -/

namespace Sys2Proof.Machine
open Sys2Proof

/-- A FREE sender has no trunk, no line and no select; any other is attached to a trunk with an established session for its
line, in RECALL WAIT exactly during a recall break (R172, R175, R180). -/
def State.SenderRight (s : State) (x : Sender) : Prop :=
  if x.state = .free then x.trunk = none ∧ x.line = none ∧ x.select = none
  else ∃ l t ses, x.line = some l ∧ x.trunk = some t ∧ x.select = (if s.inReset then none else some t) ∧
    s.session t = some ses ∧ ses.purpose = .line l ∧
    ses.state = (if x.state = .recallWait then .recallBreak else .established)

/-- What makes an attached sender right. -/
theorem State.senderRight_of_attached {s : State} {x : Sender} {l : Line} {v : Trunk} {ses : Session}
    (busy : x.state ≠ .free) (attached : x.line = some l ∧ x.trunk = some v ∧ x.select = (if s.inReset then none else some v))
    (opened : s.session v = some ses) (purpose : ses.purpose = .line l)
    (state : ses.state = (if x.state = .recallWait then .recallBreak else .established)) : s.SenderRight x := by
  unfold State.SenderRight
  rw [if_neg busy]
  exact ⟨l, v, ses, attached.1, attached.2.1, attached.2.2, opened, purpose, state⟩

theorem State.senderRight_freed (s : State) (x : Sender) : s.SenderRight x.freed := by
  unfold State.SenderRight
  rw [if_pos (show x.freed.state = .free from rfl)]
  exact ⟨rfl, rfl, rfl⟩

/-- An attached sender is right in any state that has its trunk's session as it was. -/
theorem State.SenderRight.of_session {s t : State} {x : Sender} (h : s.SenderRight x) (inReset : t.inReset = s.inReset)
    (session : ∀ v, x.trunk = some v → t.session v = s.session v) : t.SenderRight x := by
  unfold State.SenderRight at h ⊢
  split
  · rwa [if_pos ‹_›] at h
  · rw [if_neg ‹_›] at h
    obtain ⟨l, v, ses, hl, hv, selected, opened, rest⟩ := h
    exact ⟨l, v, ses, hl, hv, by rw [inReset, selected], by rw [session v hv, opened], rest⟩

section
variable {s t : State} (h : s.SendersSound)
include h

theorem State.SendersSound.right (i : Fin 2) : s.SenderRight (s.sender i) := h.senders.1 i

/-! ## A call's own records -/

/-- A call that stays on its trunk. -/
theorem State.SendersSound.setCall {l : Line} {c : CallRecord} (stays : (s.call l).StaysOn c) : (s.setCall l c).SendersSound :=
  h.of_calls (by simp) (fun _ => rfl) (fun c hc => ⟨c, hc, rfl⟩) fun m => by
    by_cases hm : m = l
    · subst hm; simpa using stays
    · simpa [hm] using CallRecord.StaysOn.refl _

theorem State.SendersSound.toneOff (l : Line) : (s.toneOff l).SendersSound := h.agrees (State.agrees_toneOff l)

/-- A pair is closed for a DIALLING call on its trunk; the session there is for its line, so no other line's pair of that
trunk is closed (R57, R167). -/
theorem State.SendersSound.closePair (run : s.running = true) {l : Line} {v : Trunk}
    (dials : (s.call l).state = .dialling ∧ (s.call l).trunk = some v ∧ (s.call l).audio = true) :
    (s.closePair l v).SendersSound := by
  obtain ⟨dialling, on, audio⟩ := dials
  have session (u : Trunk) : (s.closePair l v).session u = s.session u := by simp [State.session]
  have call (m : Line) : (s.closePair l v).call m = s.call m := by simp [State.call]
  have sender (i : Fin 2) : (s.closePair l v).sender i = s.sender i := by simp [State.sender]
  have entry (u : Trunk) : (s.closePair l v).entry u = s.entry u := by simp [State.entry]
  have running : (s.closePair l v).running = s.running := by simp [State.running]
  have owner {m : Line} {u : Trunk} (joined : (s.closePair l v).closed m u = true) :
      (s.call m).state = .dialling ∧ (s.call m).trunk = some u ∧ (s.call m).audio = true := by
    rcases (State.closePair_closed s l m v u).1 joined with old | ⟨rfl, rfl, -⟩
    · exact h.pairs.1 m u old
    · exact ⟨dialling, on, audio⟩
  refine ⟨?_, ⟨fun m u joined => ?_, fun m n u hm hn => ?_⟩, ?_, fun _ u => ?_, ?_, ?_⟩
  · simpa only [State.CallsOnTrunks, session, call, running] using h.calls
  · rw [call]
    exact owner joined
  · obtain ⟨-, onM, -⟩ := owner hm
    obtain ⟨-, onN, -⟩ := owner hn
    obtain ⟨sesM, openM, forM⟩ := (h.calls.2 run m).2 u onM
    obtain ⟨sesN, openN, forN⟩ := (h.calls.2 run n).2 u onN
    rw [openM] at openN
    cases openN
    rw [forM] at forN
    cases forN
    rfl
  · simpa [State.SendersExact, sender, session] using h.senders
  · rw [entry, session]
    exact h.owned run u
  · simpa [session] using h.claim
  · simpa using h.isolated

theorem State.SendersSound.connectAudio (run : s.running = true) (l : Line) : (s.connectAudio l).SendersSound := by
  unfold State.connectAudio
  dsimp only
  split
  · rename_i silent
    have connected := (h.setCall (l := l) (c := { s.call l with audio := true }) (.inl ⟨rfl, rfl, fun _ => rfl⟩)).toneOff l
    split
    · rename_i v on
      refine connected.closePair (by simpa [State.running, State.toneOff] using run) ?_
      simp [State.toneOff, silent, on]
    · exact connected
  · exact h

theorem State.SendersSound.removeHead (run : s.running = true) (l : Line) : (s.removeHead l).SendersSound := by
  have removed := h.setCall (l := l) (c := { s.call l with
    queue := (s.call l).queue.tail, firstDigitSent := true, dialTimer := (s.call l).dialTimer.halted }) (.inl ⟨rfl, rfl, id⟩)
  unfold State.removeHead
  dsimp only
  split
  · exact removed.connectAudio (by simpa [State.running] using run) l
  · exact removed

theorem State.SendersSound.identityEnded (run : s.running = true) (l : Line) : (s.identityEnded l).SendersSound := by
  have ended := h.setCall (l := l) (c := { s.call l with identitySent := true }) (.inl ⟨rfl, rfl, id⟩)
  unfold State.identityEnded
  dsimp only
  split
  · exact ended.connectAudio (by simpa [State.running] using run) l
  · exact ended

theorem State.SendersSound.spoil (run : s.running = true) (l : Line) : (s.spoil l).SendersSound := by
  refine State.SendersSound.connectAudio (h.setCall ?_) (by simpa [State.running] using run) l
  exact .inl ⟨rfl, rfl, id⟩

/-! ## A sender's own records -/

/-- A sender that becomes free, or is attached to a trunk with an established session for its line that has no other
sender. -/
theorem State.SendersSound.setSender {i : Fin 2} {x : Sender} (right : s.SenderRight x)
    (alone : ∀ j v, j ≠ i → x.trunk = some v → (s.sender j).trunk ≠ some v) : (s.setSender i x).SendersSound := by
  refine { h with senders := ⟨fun j => ?_, fun j k v hj hk => ?_⟩ }
  · by_cases hj : j = i
    · rw [State.setSender_sender, if_pos hj]
      exact right
    · rw [State.setSender_sender, if_neg hj]
      exact h.right j
  · by_cases ji : j = i <;> by_cases ki : k = i
    · rw [ji, ki]
    · rw [State.setSender_sender, if_pos ji] at hj
      rw [State.setSender_sender, if_neg ki] at hk
      exact absurd hk (alone k v ki hj)
    · rw [State.setSender_sender, if_neg ji] at hj
      rw [State.setSender_sender, if_pos ki] at hk
      exact absurd hj (alone j v ji hk)
    · rw [State.setSender_sender, if_neg ji] at hj
      rw [State.setSender_sender, if_neg ki] at hk
      exact h.senders.2 j k v hj hk

theorem State.SendersSound.detach (i : Fin 2) : (s.detach i).SendersSound :=
  h.setSender (s.senderRight_freed _) (by simp [Sender.freed])

/-- What a sender that is not FREE and waits for no break is attached to (R172). -/
theorem State.SendersSound.attachment {i : Fin 2} {v : Trunk} (on : (s.sender i).trunk = some v)
    (ready : (s.sender i).state ≠ .recallWait) : (s.sender i).state ≠ .free ∧ ∃ l ses, (s.sender i).line = some l ∧
      (s.sender i).select = (if s.inReset then none else some v) ∧ s.session v = some ses ∧ ses.purpose = .line l ∧
      ses.state = .established := by
  have sound := h.right i
  unfold State.SenderRight at sound
  rw [if_neg ready] at sound
  split at sound
  · rw [sound.1] at on
    cases on
  · obtain ⟨l, u, ses, hl, hu, selected, opened, purpose, state⟩ := sound
    rw [on] at hu
    cases hu
    exact ⟨‹_›, l, ses, hl, selected, opened, purpose, state⟩

/-- An attached sender goes on, waiting for no break before or after. -/
theorem State.SendersSound.goesOn {i : Fin 2} {x : Sender} {v : Trunk} (on : (s.sender i).trunk = some v)
    (ready : (s.sender i).state ≠ .recallWait)
    (same : x.trunk = (s.sender i).trunk ∧ x.line = (s.sender i).line ∧ x.select = (s.sender i).select)
    (state : x.state ≠ .free ∧ x.state ≠ .recallWait) : (s.setSender i x).SendersSound := by
  obtain ⟨busy, -⟩ := h.attachment on ready
  obtain ⟨trunk, line, select⟩ := same
  exact h.agrees (State.agrees_setSender ⟨trunk, line, select, by simp [busy, state.1], by simp [ready, state.2]⟩)

/-- The session on `v` of a DIALLING call goes into a recall break, or comes out of it, and the senders with it (R159). -/
theorem State.SendersSound.turns {v : Trunk} {ses x : Session} {l : Line} (opened : s.session v = some ses)
    (purpose : ses.purpose = .line l ∧ x.purpose = .line l) (answered : ses.state ≠ .waitPts)
    (state : x.state = .established ∨ x.state = .recallBreak)
    (same : t.inReset = s.inReset ∧ t.ctl = s.ctl ∧ t.calls = s.calls ∧ t.view = s.view ∧ t.hunt = s.hunt ∧
      t.sup.points = s.sup.points)
    (session : ∀ u, t.session u = if u = v then some x else s.session u) (right : ∀ i, t.SenderRight (t.sender i))
    (trunk : ∀ i, (t.sender i).trunk = (s.sender i).trunk) : t.SendersSound := by
  obtain ⟨inReset, ctl, calls, view, hunt, points⟩ := same
  obtain ⟨was, is⟩ := purpose
  have call (m : Line) : t.call m = s.call m := by simp [State.call, calls]
  have running : t.running = s.running := by simp [State.running, inReset, ctl]
  have closed (m : Line) (u : Trunk) : t.closed m u = s.closed m u := by simp [State.closed, points]
  refine ⟨⟨fun u y hy => ?_, fun run m => ?_⟩, ?_, ⟨right, fun i j u hi hj => ?_⟩, fun run u => ?_, fun c hc => ?_, ?_⟩
  · rw [session] at hy
    simp only [call]
    split at hy
    · subst u
      cases hy
      obtain ⟨waits, on, callState⟩ := h.call_of_session opened was
      rw [if_neg answered] at callState
      rw [is]
      rcases state with e | e <;> simp [e, on, callState]
    · exact h.calls.1 u y hy
  · rw [running] at run
    rw [call]
    refine ⟨(h.calls.2 run m).1, fun u hu => ?_⟩
    obtain ⟨y, hy, forM⟩ := (h.calls.2 run m).2 u hu
    by_cases here : u = v
    · subst here
      rw [opened] at hy
      cases hy
      rw [was] at forM
      exact ⟨x, by rw [session, if_pos rfl], is.trans forM⟩
    · exact ⟨y, by rw [session, if_neg here, hy], forM⟩
  · simpa only [State.PairsExact, closed, call] using h.pairs
  · rw [trunk] at hi hj
    exact h.senders.2 i j u hi hj
  · have entry : t.entry u = s.entry u := by simp [State.entry, view]
    rw [entry, session, h.owned (running ▸ run) u]
    split
    · subst u
      simp [opened]
    · rfl
  · rw [hunt] at hc
    have rests := h.claim c hc
    have apart : c.trunk ≠ v := fun e => by rw [e, opened] at rests; cases rests
    rw [session, if_neg apart, rests]
  · rw [ctl, hunt]
    exact h.isolated

/-- In ESTABLISHED the session goes into RECALL BREAK and its sender waits for it (R159, R180). -/
theorem State.SendersSound.askBreak {i : Fin 2} {v : Trunk} (on : (s.sender i).trunk = some v)
    (ready : (s.sender i).state ≠ .recallWait) : (s.askBreak i v).SendersSound := by
  obtain ⟨busy, l, ses, line, select, opened, purpose, established⟩ := h.attachment on ready
  unfold State.askBreak
  simp only [opened, established, if_true]
  refine h.turns (x := { ses with state := .recallBreak, breakTimer := s.after breakTime }) opened ⟨purpose, purpose⟩
    (by simp [established]) (.inr rfl) (by simp) (fun u => State.setSession_session s v _ u) (fun j => ?_) fun j => ?_
  · by_cases hj : j = i
    · subst hj
      rw [State.setSender_sender, if_pos rfl]
      exact State.senderRight_of_attached (l := l) (v := v) (by simp) ⟨line, on, select⟩
        ((State.setSession_session s v _ v).trans (if_pos rfl)) purpose (by simp)
    · rw [State.setSender_sender, if_neg hj]
      refine (h.right j).of_session rfl fun u hu => ?_
      have apart : u ≠ v := fun e => hj (h.senders.2 j i v (e ▸ hu) on)
      exact (State.setSession_session s v _ u).trans (if_neg apart)
  · by_cases hj : j = i
    · subst hj
      rw [State.setSender_sender, if_pos rfl]
    · rw [State.setSender_sender, if_neg hj]
      rfl

/-- The choice at a code boundary keeps the records in agreement (R176). -/
theorem State.SendersSound.nextCode (run : s.running = true) {i : Fin 2} (l : Line) {v : Trunk}
    (on : (s.sender i).trunk = some v) (ready : (s.sender i).state ≠ .recallWait) : (s.nextCode i l v).SendersSound := by
  have plays (source : Source) (code : Code) : (s.play i source code).SendersSound :=
    h.goesOn on ready ⟨rfl, rfl, rfl⟩ (by simp)
  unfold State.nextCode
  dsimp only
  split
  · exact plays _ _
  · split
    · split
      · exact h.detach i
      · split
        · exact plays _ _
        · exact h.askBreak on ready
        · exact (h.spoil run l).detach i
    · exact h.detach i

theorem State.SendersSound.codeBoundary (run : s.running = true) {i : Fin 2} (ready : (s.sender i).state ≠ .recallWait) :
    (s.codeBoundary i).SendersSound := by
  unfold State.codeBoundary
  split
  · rename_i l v _ on
    have removed : (if (s.sender i).source = some .entry then s.removeHead l else s).SendersSound := by
      split
      · exact h.removeHead run l
      · exact h
    have ended : (if (s.sender i).source = some (.identity 5) then
        (if (s.sender i).source = some .entry then s.removeHead l else s).identityEnded l
        else if (s.sender i).source = some .entry then s.removeHead l else s).SendersSound := by
      split
      · exact removed.identityEnded (by split <;> simpa [State.running] using run) l
      · exact removed
    refine ended.nextCode ?_ l ?_ ?_
    · split <;> split <;> simpa [State.running] using run
    · split <;> split <;> simpa [State.sender] using on
    · split <;> split <;> simpa [State.sender] using ready
  · exact h

end
end Sys2Proof.Machine
end

section
/-! Senders and crosspoints: the arbiter grants until no request waits with a sender free (R173, R174). -/

namespace Sys2Proof.Machine
open Sys2Proof

/-! ## Who wants a sender -/

theorem State.wantsSender_iff {s : State} {l : Line} : s.wantsSender l = true ↔ s.sendable (s.call l) = true ∧
    ∃ v ses, (s.call l).trunk = some v ∧ s.attached v = false ∧ s.session v = some ses ∧ ses.purpose = .line l ∧
      ses.state = .established := by
  unfold State.wantsSender
  cases trunk : (s.call l).trunk with
  | none => simp
  | some v =>
    cases opened : s.session v with
    | none => simp [opened]
    | some ses => simp [opened]

theorem State.attached_iff {s : State} {v : Trunk} : s.attached v = true ↔ ∃ i, (s.sender i).trunk = some v := by
  simp [State.attached]

theorem State.attached_eq_false {s : State} {v : Trunk} : s.attached v = false ↔ ∀ i, (s.sender i).trunk ≠ some v := by
  simp [← Bool.not_eq_true, State.attached_iff]

/-- What a line that wants a sender reads is its call, its trunk's session and the senders' trunks. -/
theorem State.wantsSender_congr {s t : State} {l : Line} (sendable : t.sendable (t.call l) = s.sendable (s.call l))
    (trunk : (t.call l).trunk = (s.call l).trunk)
    (sessions : ∀ v, (t.session v).map Session.role = (s.session v).map Session.role)
    (senders : ∀ i, (t.sender i).trunk = (s.sender i).trunk) : t.wantsSender l = s.wantsSender l := by
  have one {x y : State} (same : ∀ v, (y.session v).map Session.role = (x.session v).map Session.role)
      (trunks : ∀ i, (y.sender i).trunk = (x.sender i).trunk) (sends : y.sendable (y.call l) = x.sendable (x.call l))
      (on : (y.call l).trunk = (x.call l).trunk) (wants : x.wantsSender l = true) : y.wantsSender l = true := by
    obtain ⟨able, v, ses, hv, free, opened, purpose, established⟩ := State.wantsSender_iff.1 wants
    obtain ⟨new, after, purpose', state'⟩ := Session.of_role (same v).symm opened
    refine State.wantsSender_iff.2 ⟨sends.trans able, v, new, on.trans hv, ?_, after, purpose'.trans purpose,
      state'.trans established⟩
    rw [State.attached_eq_false] at free ⊢
    intro i
    rw [trunks]
    exact free i
  exact Bool.eq_iff_iff.2 ⟨one (fun v => (sessions v).symm) (fun i => (senders i).symm) sendable.symm trunk.symm,
    one sessions senders sendable trunk⟩

/-! ## What a code boundary leaves of the others -/

section
variable {s : State} (i : Fin 2) (l : Line) (v : Trunk)

/-- The record of a call whose audio connection is made, if it is DIALLING without one (R57). -/
def CallRecord.connected (c : CallRecord) : CallRecord :=
  if c.state = .dialling ∧ c.audio = false then { c with audio := true, localTone := false } else c

theorem State.connectAudio_call (m : Line) :
    (s.connectAudio l).call m = if m = l then (s.call l).connected else s.call m := by
  have joined (u : State) (w : Trunk) : (u.closePair l w).call m = u.call m := by simp [State.call]
  unfold State.connectAudio CallRecord.connected
  dsimp only
  split
  · split
    · rw [joined]
      by_cases hm : m = l <;> simp [State.toneOff, hm]
    · by_cases hm : m = l <;> simp [State.toneOff, hm]
  · split
    · rw [‹m = l›]
    · rfl

theorem State.spoil_call (m : Line) : (s.spoil l).call m = if m = l then
    ({ s.call l with spoiled := true, queue := [], dialTimer := (s.call l).dialTimer.halted } : CallRecord).connected
    else s.call m := by
  unfold State.spoil
  dsimp only
  rw [State.connectAudio_call]
  by_cases hm : m = l <;> simp [hm]

@[simp] theorem CallRecord.connected_reads (c : CallRecord) : c.connected.state = c.state ∧ c.connected.trunk = c.trunk ∧
    c.connected.queue = c.queue ∧ c.connected.spoiled = c.spoiled ∧ c.connected.identitySent = c.identitySent ∧
    c.connected.firstDigitSent = c.firstDigitSent ∧ c.connected.dialTimer = c.dialTimer := by
  unfold CallRecord.connected
  split <;> simp

@[simp] theorem State.spoil_reads : (s.spoil l).session = s.session ∧ (s.spoil l).sender = s.sender := by
  refine ⟨funext fun u => ?_, funext fun j => ?_⟩
  · simp [State.session]
  · simp [State.sender]

theorem State.askBreak_session {u : Trunk} (apart : u ≠ v) : (s.askBreak i v).session u = s.session u := by
  unfold State.askBreak
  split
  · split
    · exact (State.setSession_session s v _ u).trans (if_neg apart)
    · rfl
  · rfl

theorem State.askBreak_trunk (j : Fin 2) : ((s.askBreak i v).sender j).trunk = (s.sender j).trunk := by
  have one (u : State) (x : Sender) (same : u.sender = s.sender) (trunk : x.trunk = (s.sender i).trunk) :
      ((u.setSender i x).sender j).trunk = (s.sender j).trunk := by
    rw [State.setSender_sender]
    split
    · subst j; exact trunk
    · rw [same]
  unfold State.askBreak
  split
  · split
    · exact one _ _ rfl rfl
    · exact one _ _ rfl rfl
  · exact one _ _ rfl rfl

theorem State.nextCode_session {u : Trunk} (apart : u ≠ v) : (s.nextCode i l v).session u = s.session u := by
  unfold State.nextCode
  dsimp only
  split
  · rfl
  · split
    · split
      · rfl
      · split
        · rfl
        · exact State.askBreak_session i v apart
        · exact congrFun (State.spoil_reads l).1 u
    · rfl

/-- At a code boundary a sender keeps its trunk or detaches, and no other sender is touched. -/
theorem State.nextCode_trunk (j : Fin 2) : ((s.nextCode i l v).sender j).trunk = (s.sender j).trunk ∨
    (j = i ∧ ((s.nextCode i l v).sender j).trunk = none) := by
  have plays (source : Source) (code : Code) : ((s.play i source code).sender j).trunk = (s.sender j).trunk := by
    unfold State.play
    rw [State.setSender_sender]
    split
    · subst j; rfl
    · rfl
  have detaches (u : State) (same : u.sender = s.sender) : ((u.detach i).sender j).trunk = (s.sender j).trunk ∨
      (j = i ∧ ((u.detach i).sender j).trunk = none) := by
    unfold State.detach
    rw [State.setSender_sender]
    split
    · exact .inr ⟨‹_›, rfl⟩
    · exact .inl (by rw [same])
  unfold State.nextCode
  dsimp only
  split
  · exact .inl (plays _ _)
  · split
    · split
      · exact detaches s rfl
      · split
        · exact .inl (plays _ _)
        · exact .inl (State.askBreak_trunk i v j)
        · exact detaches _ (State.spoil_reads l).2
    · exact detaches s rfl

/-- After the choice at a code boundary the sender's line wants no other sender: the sender is still attached, or there is
nothing left to send (R173, R176). -/
theorem State.nextCode_wants (on : (s.sender i).trunk = some v) (call : (s.call l).trunk = some v) :
    (s.nextCode i l v).wantsSender l = false := by
  have attached {u : State} (trunk : (u.sender i).trunk = some v) (same : (u.call l).trunk = some v) :
      u.wantsSender l = false := by
    by_contra wants
    obtain ⟨-, w, -, hw, free, -⟩ := State.wantsSender_iff.1 (by simpa using wants)
    rw [same] at hw
    cases hw
    exact State.attached_eq_false.1 free i trunk
  have unable {u : State} (no : u.sendable (u.call l) = false) : u.wantsSender l = false := by simp [State.wantsSender, no]
  have plays (source : Source) (code : Code) : (s.play i source code).wantsSender l = false :=
    attached (by simp [State.play, on]) (by simpa [State.play] using call)
  unfold State.nextCode
  dsimp only
  split
  · exact plays _ _
  · rename_i identified
    split
    · rename_i able
      split
      · rename_i empty
        simp [State.sendable, empty, identified] at able
      · split
        · exact plays _ _
        · exact attached ((State.askBreak_trunk i v i).trans on) (by simpa [State.call] using call)
        · refine unable ?_
          have spoiled : (((s.spoil l).detach i).call l).spoiled = true := by
            have call : ((s.spoil l).detach i).call l = (s.spoil l).call l := by simp [State.detach]
            simp [call, State.spoil_call]
          simp [State.sendable, spoiled]
    · rename_i no
      have call : (s.detach i).call l = s.call l := by simp [State.detach]
      have idle : s.sendable (s.call l) = false := by simpa using no
      refine unable ?_
      rw [call]
      exact idle
end
end Sys2Proof.Machine
end

section
/-! Senders and crosspoints: the arbiter's rounds leave the request set exact (R173, R174). -/

namespace Sys2Proof.Machine
open Sys2Proof

/-- The records of sending are in agreement, and the request set is exact. -/
def State.SendingExact (s : State) : Prop := s.SendersSound ∧ s.RequestsExact

section
variable {s : State} {i : Fin 2} {l : Line}

theorem State.freeSender_free (free : s.freeSender = some i) : (s.sender i).state = .free := by
  simpa using List.find?_some free

theorem State.freeSender_eq_none (none_ : s.freeSender = none) (j : Fin 2) : (s.sender j).state ≠ .free := by
  simpa using List.find?_eq_none.1 none_ j (List.mem_finRange j)

theorem mem_cyclicAfter (p m : Line) : m ∈ cyclicAfter p := by
  simp only [cyclicAfter, List.mem_map, List.mem_finRange, true_and]
  exact ⟨m - (p + 1), by abel⟩

/-- With no request to be granted next there is none at all (R174). -/
theorem Arbiter.requests_of_next {a : Arbiter} (none_ : a.next = none) : a.requests = [] :=
  List.eq_nil_iff_forall_not_mem.2 fun m hm => by
    simpa [hm] using List.find?_eq_none.1 none_ m (mem_cyclicAfter _ m)

/-- A grant as the code boundary it takes (R175, R176). -/
theorem State.grant_eq {v : Trunk} (on : (s.call l).trunk = some v) : s.grant i l =
    ((s.setArb { requests := s.arb.requests.filter (· ≠ l), pointer := l }).setSender i { s.sender i with
      state := .gap, trunk := some v, line := some l, source := none, code := none, select := some v }).nextCode i l v := by
  unfold State.grant State.codeBoundary
  simp [on]

section
variable (h : s.SendersSound) (run : s.running = true)
include h run

/-- The sender granted is right, and the line's trunk has no other (R172, R175). -/
theorem State.SendersSound.attaches (wants : s.wantsSender l = true) {v : Trunk} (on : (s.call l).trunk = some v) :
    ((s.setArb { requests := s.arb.requests.filter (· ≠ l), pointer := l }).setSender i { s.sender i with
      state := .gap, trunk := some v, line := some l, source := none, code := none, select := some v }).SendersSound := by
  obtain ⟨-, w, ses, hw, free, opened, purpose, established⟩ := State.wantsSender_iff.1 wants
  rw [on] at hw
  cases hw
  have live : s.inReset = false := by simp_all [State.running]
  have granted : (s.setArb { requests := s.arb.requests.filter (· ≠ l), pointer := l }).SendersSound :=
    ⟨h.calls, h.pairs, h.senders, h.owned, h.claim, h.isolated⟩
  refine granted.setSender ?_ fun j u _ hu => ?_
  · exact State.senderRight_of_attached (by simp) ⟨rfl, rfl, by simp [live]⟩ opened purpose (by simp [established])
  · cases hu
    exact State.attached_eq_false.1 free j

theorem State.SendersSound.grant (wants : s.wantsSender l = true) : (s.grant i l).SendersSound := by
  obtain ⟨-, v, -, on, -⟩ := State.wantsSender_iff.1 wants
  rw [State.grant_eq on]
  refine (h.attaches run wants on).nextCode (by simpa [State.running] using run) l ?_ ?_ <;> simp

omit run in
/-- A grant takes the line out of those that want a sender, and adds none (R173, R174). -/
theorem State.SendersSound.wants_of_grant (free : (s.sender i).state = .free) (wants : s.wantsSender l = true) {m : Line}
    (still : (s.grant i l).wantsSender m = true) : m ≠ l ∧ s.wantsSender m = true := by
  obtain ⟨-, v, ses, on, unattached, opened, purpose, established⟩ := State.wantsSender_iff.1 wants
  have apart : m ≠ l := by
    rintro rfl
    rw [State.grant_eq on, State.nextCode_wants i m v (by simp) (by simpa using on)] at still
    cases still
  refine ⟨apart, ?_⟩
  obtain ⟨able, u, new, onM, freeM, openedM, purposeM, establishedM⟩ := State.wantsSender_iff.1 still
  have call := (sameLine_grant s i apart).1
  rw [call] at able onM
  have sendable : s.sendable (s.call m) = true := by
    have straps : (s.grant i l).ctl = s.ctl := by simp
    simpa [State.sendable, State.released, straps] using able
  have other : u ≠ v := by
    rintro rfl
    have mine := (State.sendsOn_grant i l).purposes u (s := s)
    rw [openedM, opened] at mine
    simp only [Option.map_some, Option.some.injEq, purpose, purposeM, Purpose.line.injEq] at mine
    exact apart mine
  have before : s.session u = some new := by
    rw [State.grant_eq on, State.nextCode_session i l v other] at openedM
    exact openedM
  refine State.wantsSender_iff.2 ⟨sendable, u, new, onM, ?_, before, purposeM, establishedM⟩
  rw [State.attached_eq_false] at freeM ⊢
  intro j hj
  by_cases hij : j = i
  · subst hij
    have rests := h.right j
    unfold State.SenderRight at rests
    rw [if_pos free] at rests
    rw [rests.1] at hj
    cases hj
  · refine freeM j ?_
    rw [State.grant_eq on]
    rcases State.nextCode_trunk (s := (s.setArb { requests := s.arb.requests.filter (· ≠ l), pointer := l }).setSender i
      { s.sender i with state := .gap, trunk := some v, line := some l, source := none, code := none, select := some v })
      i l v j with same | ⟨e, _⟩
    · rw [same, State.setSender_sender, if_neg hij]
      exact hj
    · exact absurd e hij

end

/-- The lines that want a sender. -/
def State.wanting (s : State) : Finset Line := Finset.univ.filter fun l => s.wantsSender l = true

/-- Each round grants to a line that wants a sender and takes it out of the set, so as many rounds as lines that want one,
and one more, leave none waiting with a sender free (R173, R174). -/
theorem State.SendersSound.settleRounds (n : Nat) {s : State} (h : s.SendersSound) (run : s.running = true)
    (few : s.wanting.card < n) : (settleRounds n s).SendingExact := by
  induction n generalizing s with
  | zero => omega
  | succ n ih =>
    have refreshed : s.refreshRequests.SendersSound := ⟨h.calls, h.pairs, h.senders, h.owned, h.claim, h.isolated⟩
    have members (l : Line) : l ∈ s.refreshRequests.arb.requests ↔ s.wantsSender l = true := by
      simp [State.refreshRequests]
    unfold Machine.settleRounds
    dsimp only
    split
    · rename_i i l free next
      have wants : s.refreshRequests.wantsSender l = true := (members l).1 (Arbiter.next_mem next)
      have running : s.refreshRequests.running = true := run
      refine ih (refreshed.grant running wants) (by simpa [State.running] using run) ?_
      have fewer : (s.refreshRequests.grant i l).wanting ⊂ s.wanting := by
        refine Finset.ssubset_iff_subset_ne.2 ⟨fun m hm => ?_, fun same => ?_⟩
        · obtain ⟨-, before⟩ := refreshed.wants_of_grant (State.freeSender_free free) wants
            (Finset.mem_filter.1 hm).2
          exact Finset.mem_filter.2 ⟨Finset.mem_univ m, before⟩
        · have there : l ∈ (s.refreshRequests.grant i l).wanting :=
            same ▸ Finset.mem_filter.2 ⟨Finset.mem_univ l, wants⟩
          exact (refreshed.wants_of_grant (State.freeSender_free free) wants (Finset.mem_filter.1 there).2).1 rfl
      have := Finset.card_lt_card fewer
      omega
    · rename_i stuck
      refine ⟨refreshed, fun l => (members l).trans Iff.rfl, ?_⟩
      cases free : s.refreshRequests.freeSender with
      | none => exact .inr (State.freeSender_eq_none free)
      | some i =>
        cases next : s.refreshRequests.arb.next with
        | none => exact .inl (Arbiter.requests_of_next next)
        | some l => exact absurd next (stuck i l free)

theorem State.SendersSound.settleSenders (h : s.SendersSound) (run : s.running = true) :
    s.settleSenders.SendingExact :=
  h.settleRounds 10 run (by
    have := Finset.card_le_univ s.wanting
    simp only [Fintype.card_fin] at this
    omega)
end
end Sys2Proof.Machine
end

section
/-! Senders and crosspoints: the Hunt Unit's claims, and the trunks it hands over (R109, R134 to R148, R153, R165). -/

namespace Sys2Proof.Machine
open Sys2Proof

section
variable {s t : State} {v : Trunk}

/-! ## What is OWN -/

theorem State.makeOwn_isOwn (line : Option Line) (u : Trunk) :
    ((s.makeOwn v line).entry u).isOwn = ((s.entry u).isOwn || u = v) := by
  by_cases hu : u = v
  · subst hu; simp [State.makeOwn, TrunkEntry.isOwn]
  · simp [State.makeOwn, hu]

theorem State.freeOwn_isOwn (u : Trunk) : ((s.freeOwn v).entry u).isOwn = ((s.entry u).isOwn && u ≠ v) := by
  rw [State.freeOwn_entry]
  by_cases hu : u = v
  · subst hu
    cases own : (s.entry u).isOwn <;> simp [own]
  · simp [hu]

theorem State.conflictOwn_isOwn (u : Trunk) : ((s.conflictOwn v).entry u).isOwn = ((s.entry u).isOwn && u ≠ v) := by
  unfold State.conflictOwn
  by_cases hu : u = v
  · subst hu
    split
    · simp [TrunkEntry.isOwn, TrunkEntry.freed]
    · simpa using ‹¬ (s.entry u).isOwn = true›
  · split <;> simp [hu]

theorem TrunkEntry.isOwn_of_free {e : TrunkEntry} (free : e.holding = .free) : e.isOwn = false := by
  simp [TrunkEntry.isOwn, free]

theorem State.isOwn_of_huntable (huntable : s.huntable v = true) : (s.entry v).isOwn = false :=
  TrunkEntry.isOwn_of_free (by
    simp only [State.huntable, Bool.and_eq_true, decide_eq_true_eq] at huntable
    exact huntable.1.1.1.1.2)

theorem State.candidate_of_choice (chosen : s.choice = some v) : s.candidate v = true := by
  have least : v ∈ s.leastUsed := by simpa using List.find?_some chosen
  simp only [State.leastUsed, List.mem_filter] at least
  exact least.1.2

/-! ## What becomes of the pending claim -/

theorem State.withdrawClaim_claim : s.withdrawClaim.hunt.claim = none := by
  unfold State.withdrawClaim
  split
  · assumption
  · dsimp only
    split <;> simp

/-- The claim left by the end of a line's hunt entry, if any, is for the trunk it was for (R131, R138). -/
theorem State.huntDrop_claim {l : Line} {c : Claim} (hc : (s.huntDrop l).hunt.claim = some c) :
    ∃ d, s.hunt.claim = some d ∧ c.trunk = d.trunk := by
  obtain ⟨-, claim, -⟩ := s.huntDrop_disown l
  rw [claim] at hc
  unfold State.disown at hc
  split at hc
  · rename_i d hd
    split at hc
    · split at hc
      · rw [State.withdrawClaim_claim] at hc; cases hc
      · cases hc; exact ⟨d, hd, rfl⟩
    · exact ⟨c, hc, rfl⟩
  · exact ⟨c, hc, rfl⟩

section
variable (h : s.SendersSound)
include h

theorem State.SendersSound.unowned (run : s.running = true) (free : (s.entry v).isOwn = false) : s.session v = none := by
  simpa [h.owned run v] using free

/-- What touches neither calls, sessions, pairs nor senders, and makes no new claim. -/
theorem State.SendersSound.of_frame (same : t.inReset = s.inReset ∧ t.ctl.station = s.ctl.station ∧
      t.sup.points = s.sup.points ∧ t.sup.sessions = s.sup.sessions ∧ t.senders = s.senders ∧ t.calls = s.calls)
    (entries : ∀ u, (t.entry u).isOwn = (s.entry u).isOwn)
    (claim : ∀ c, t.hunt.claim = some c → ∃ d, s.hunt.claim = some d ∧ c.trunk = d.trunk) : t.SendersSound := by
  obtain ⟨inReset, station, points, sessions, senders, calls⟩ := same
  exact h.of_calls ⟨inReset, station, points, sessions, senders⟩ entries claim fun l => by
    simpa [State.call, calls] using CallRecord.StaysOn.refl _

theorem State.SendersSound.withdrawClaim : s.withdrawClaim.SendersSound := by
  refine h.of_frame (by simp) (fun u => by simp [State.entry]) fun c hc => ?_
  rw [State.withdrawClaim_claim] at hc
  cases hc

/-- A claim is made for a trunk that is FREE in the view of an active station (R133, R136). -/
theorem State.SendersSound.newClaim (run : s.running = true) (active : s.ctl.station = .active) {f : TxFrame} {x : HuntUnit}
    {c : Claim} (made : x.claim = some c) (free : (s.entry c.trunk).isOwn = false) : ((s.place f).setHunt x).SendersSound := by
  refine h.of_same ⟨rfl, rfl, rfl⟩ (fun l => CallRecord.StaysOn.refl _) (fun _ => rfl) (fun _ => Sender.Alike.refl _)
    (fun _ => rfl) (fun d hd => ?_) fun isolated => ?_
  · simp only [State.setHunt_hunt, made, Option.some.injEq] at hd
    rw [← hd, h.unowned run free]
  · simp [active] at isolated

theorem State.SendersSound.makeChoice (run : s.running = true) (active : s.ctl.station = .active) :
    s.makeChoice.SendersSound := by
  unfold State.makeChoice
  split
  · split
    · rename_i v _ chosen
      have candidate := State.candidate_of_choice chosen
      simp only [State.candidate, Bool.and_eq_true] at candidate
      exact h.newClaim run active rfl (State.isOwn_of_huntable candidate.1)
    · exact h
  · exact h

theorem State.SendersSound.judgeActive (run : s.running = true) (active : s.ctl.station = .active) :
    s.judgeActive.SendersSound := by
  unfold State.judgeActive
  split
  · exact h.makeChoice run active
  · split
    · exact h
    · split
      · exact h
      · exact h.withdrawClaim.makeChoice (by simpa [State.running] using run) (by simpa using active)

/-! ## A trunk is seized -/

/-- A session opens on trunk `v`, which had none, for a line that was on no trunk and is SEIZING on it, or for a probe
(R52, R153, R165). -/
theorem State.SendersSound.opens (run : s.running = true) {x : Session} (shut : s.session v = none)
    (same : t.inReset = s.inReset ∧ t.ctl.station = s.ctl.station ∧ t.sup.points = s.sup.points ∧ t.senders = s.senders)
    (session : ∀ u, t.session u = if u = v then some x else s.session u) (opensIn : x.state = x.purpose.opensIn)
    (entries : ∀ u, (t.entry u).isOwn = ((s.entry u).isOwn || u = v)) (claim : t.hunt.claim = none)
    (calls : ∀ l, if x.purpose = .line l then
      (s.call l).trunk = none ∧ (t.call l).state = .seizing ∧ (t.call l).trunk = some v else t.call l = s.call l) :
    t.SendersSound := by
  obtain ⟨inReset, station, points, senders⟩ := same
  have running : t.running = s.running := by simp [State.running, inReset, station]
  have sender (i : Fin 2) : t.sender i = s.sender i := by simp [State.sender, senders]
  have still {u : Trunk} {ses : Session} (opened : s.session u = some ses) : t.session u = some ses := by
    have apart : u ≠ v := fun e => by rw [e, shut] at opened; cases opened
    rw [session, if_neg apart, opened]
  have onTrunk {l : Line} {u : Trunk} (on : (s.call l).trunk = some u) : t.call l = s.call l := by
    have := calls l
    split at this
    · rw [this.1] at on; cases on
    · exact this
  refine ⟨⟨fun u ses opened => ?_, fun _ l => ?_⟩, ⟨fun l u joined => ?_, ?_⟩, ⟨fun i => ?_, fun i j u hi hj => ?_⟩,
    fun _ u => ?_, fun c hc => ?_, fun _ => claim⟩
  · rw [session] at opened
    split at opened
    · subst u
      obtain rfl : x = ses := Option.some.inj opened
      cases hp : x.purpose with
      | probe => rw [opensIn, hp]; rfl
      | line l =>
        have seized := calls l
        rw [if_pos hp] at seized
        simp [opensIn, hp, Purpose.opensIn, seized]
    · have sound := h.calls.1 u ses opened
      cases hp : ses.purpose with
      | probe => simpa [hp] using sound
      | line l =>
        rw [hp] at sound
        simpa [onTrunk sound.2.1] using sound
  · have sound := h.calls.2 run l
    have := calls l
    split at this
    · obtain ⟨-, state, trunk⟩ := this
      refine ⟨by simp [state, trunk], fun u hu => ?_⟩
      rw [trunk] at hu
      cases hu
      exact ⟨x, by rw [session, if_pos rfl], ‹_›⟩
    · rw [this]
      refine ⟨sound.1, fun u hu => ?_⟩
      obtain ⟨ses, opened, purpose⟩ := sound.2 u hu
      exact ⟨ses, still opened, purpose⟩
  · have before : s.closed l u = true := by simpa [State.closed, points] using joined
    have sound := h.pairs.1 l u before
    rw [onTrunk sound.2.1]
    exact sound
  · simpa [State.closed, points] using h.pairs.2
  · rw [sender]
    refine (h.right i).of_session inReset fun u on => ?_
    have sound := h.right i
    unfold State.SenderRight at sound
    split at sound
    · rw [sound.1] at on; cases on
    · obtain ⟨_, w, ses, _, hw, _, opened, _⟩ := sound
      rw [on] at hw
      cases hw
      rw [still opened, opened]
  · rw [sender] at hi hj
    exact h.senders.2 i j u hi hj
  · rw [entries, session, h.owned run u]
    by_cases hu : u = v <;> simp [hu]
  · rw [claim] at hc
    cases hc

omit h in
/-- The session that a seizure opens (R153, R165). -/
def State.newSession (s : State) (p : Purpose) : Session where
  purpose := p
  state := p.opensIn
  answer := s.after answerTime
  breakTimer := none
  retireAtRelease := false
  opened := s.scanTime

omit h in
theorem State.seizeTrunk_session (p : Purpose) (u : Trunk) :
    (s.seizeTrunk v p).session u = if u = v then some (s.newSession p) else s.session u :=
  State.setSession_session s v _ u

omit h in
/-- From `s` to `u` trunk `v` has become OWN, with no claim pending, and nothing else that the records of sending read has
changed (R114, R147). -/
structure State.Takes (s u : State) (v : Trunk) : Prop where
  inReset : u.inReset = s.inReset
  ctl : u.ctl = s.ctl
  sup : u.sup = s.sup
  senders : u.senders = s.senders
  calls : u.calls = s.calls
  entries : ∀ w, (u.entry w).isOwn = ((s.entry w).isOwn || w = v)
  claim : u.hunt.claim = none

section
variable (run : s.running = true) {u : State} (takes : s.Takes u v) (shut : s.session v = none)
include run takes shut

/-- A HUNTING line takes a trunk with no session: its call is SEIZING on it (R52, R147, R153). -/
theorem State.SendersSound.seizeForLine {l : Line} (hunting : (s.call l).state = .hunting) :
    (u.seizeForLine v l).SendersSound := by
  have off : (s.call l).trunk = none := h.offTrunk run (by simp [hunting]) (by simp [hunting])
  have call (m : Line) : u.call m = s.call m := by simp [State.call, takes.calls]
  have session (w : Trunk) : u.session w = s.session w := by simp [State.session, takes.sup]
  refine h.opens run (x := u.newSession (.line l)) shut ?_ (fun w => ?_) rfl (fun w => takes.entries w)
    (by simpa using takes.claim) fun m => ?_
  · simp [takes.inReset, takes.ctl, takes.sup, takes.senders, State.seizeForLine, State.seizeTrunk]
  · rw [← session]
    exact State.seizeTrunk_session _ w
  · rw [State.seizeForLine_call]
    by_cases hm : m = l
    · subst hm
      rw [if_pos (show (u.newSession (.line m)).purpose = .line m from rfl)]
      simp [off]
    · have apart : (u.newSession (.line l)).purpose ≠ .line m := fun e => hm (by cases e; rfl)
      rw [if_neg apart, if_neg hm, call]

/-- What frees the trunk again leaves the records as they were (R142, R143). -/
theorem State.SendersSound.givesBack (entries : ∀ w, (t.entry w).isOwn = ((u.entry w).isOwn && w ≠ v))
    (same : t.inReset = u.inReset ∧ t.ctl = u.ctl ∧ t.sup.points = u.sup.points ∧ t.sup.sessions = u.sup.sessions ∧
      t.senders = u.senders ∧ t.calls = u.calls ∧ t.hunt.claim = u.hunt.claim) : t.SendersSound := by
  obtain ⟨inReset, ctl, points, sessions, senders, calls, claim⟩ := same
  refine h.of_frame ⟨inReset.trans takes.inReset, by rw [ctl, takes.ctl], by rw [points, takes.sup],
    by rw [sessions, takes.sup], senders.trans takes.senders, calls.trans takes.calls⟩ (fun w => ?_)
    (by simp [claim, takes.claim])
  rw [entries, takes.entries]
  by_cases hw : w = v
  · subst hw
    simp [h.owned run, shut]
  · simp [hw]

theorem State.SendersSound.giveUp : (u.giveUp v).SendersSound :=
  h.givesBack run takes shut (fun w => State.freeOwn_isOwn w) (by simp)

theorem State.SendersSound.handLine {l : Line} (hunting : (s.call l).state = .hunting) : (u.handLine v l).SendersSound := by
  unfold State.handLine
  dsimp only
  split
  · exact h.givesBack run takes shut (fun w => State.conflictOwn_isOwn w) (by simp [State.unqueue, State.queueHead])
  · have unqueued : s.Takes (u.unqueue l) v := { takes with claim := takes.claim }
    exact h.seizeForLine run unqueued shut hunting

theorem State.SendersSound.handProbe : (u.handProbe v).SendersSound := by
  have session (w : Trunk) : u.session w = s.session w := by simp [State.session, takes.sup]
  unfold State.handProbe
  split
  · exact h.givesBack run takes shut (fun w => (State.probeAgain_entry _ _).trans (State.conflictOwn_isOwn w)) (by simp)
  · refine h.opens run (x := u.newSession .probe) shut ?_ (fun w => ?_) rfl takes.entries (by simpa using takes.claim)
      fun m => ?_
    · simp [takes.inReset, takes.ctl, takes.sup, takes.senders, State.seizeTrunk]
    · rw [← session]
      exact State.seizeTrunk_session _ w
    · simp [State.newSession, State.call, takes.calls]

end

theorem State.SendersSound.judgeIsolated (run : s.running = true) (isolated : s.ctl.station = .isolated) :
    s.judgeIsolated.SendersSound := by
  unfold State.judgeIsolated
  split
  · rename_i l _ _
    split
    · rename_i taken
      obtain ⟨hunting, opens⟩ := taken
      simp only [State.homeOpen, Bool.and_eq_true, decide_eq_true_eq] at opens
      have free := TrunkEntry.isOwn_of_free opens.1.1.1.1.2
      refine h.seizeForLine run ?_ (h.unowned run free) hunting
      refine ⟨by simp, by simp, by simp, by simp, by simp, fun w => ?_, by simpa [State.unqueue] using h.isolated isolated⟩
      have entry : (((s.makeOwn s.slot (some l)).raiseCount s.slot).unqueue l).entry w =
          ((s.makeOwn s.slot (some l)).raiseCount s.slot).entry w := rfl
      rw [entry, State.raiseCount_isOwn, State.makeOwn_isOwn]
    · exact h
  · exact h

theorem State.SendersSound.judge (run : s.running = true) : s.judge.SendersSound := by
  unfold State.judge
  split
  · exact h.judgeActive run ‹_›
  · exact h.judgeIsolated run ‹_›
  · exact h

theorem State.SendersSound.settle (run : s.running = true) : s.settle.SendingExact :=
  (h.judge run).settleSenders (by simpa [State.running] using run)

/-! ## Claims at their EOF -/

/-- An effective claim hands over a trunk with no session (R142, R143, R146). -/
theorem State.SendersSound.ownEffective (run : s.running = true) {c : Claim} (pending : s.hunt.claim = some c)
    (line : Option Line) : (s.ownEffective c line).SendersSound := by
  have shut := h.claim c pending
  have takes : s.Takes (((s.raiseCount c.trunk).makeOwn c.trunk line).setHunt { s.hunt with claim := none }) c.trunk := by
    refine ⟨by simp, by simp, by simp, by simp, by simp, fun w => ?_, rfl⟩
    have entry : (((s.raiseCount c.trunk).makeOwn c.trunk line).setHunt { s.hunt with claim := none }).entry w =
        ((s.raiseCount c.trunk).makeOwn c.trunk line).entry w := rfl
    rw [entry, State.makeOwn_isOwn, State.raiseCount_isOwn]
  unfold State.ownEffective
  dsimp only
  split
  · split
    · exact h.handLine run takes shut (by simpa [State.call] using ‹_›)
    · exact h.giveUp run takes shut
  · exact h.handProbe run takes shut
  · exact h.giveUp run takes shut

theorem State.SendersSound.ownWithoutEffect (c : Claim) : (s.ownWithoutEffect c).SendersSound := by
  have removed : (s.setHunt { s.hunt with claim := none }).SendersSound := h.of_frame (by simp) (fun _ => rfl) nofun
  unfold State.ownWithoutEffect
  dsimp only
  split
  · exact removed.agrees (State.agrees_probeAgain _)
  · exact removed

end
end
end Sys2Proof.Machine
end

section
/-! Senders and crosspoints: trunks let go, answered and out of their recall breaks (R61, R120, R155, R156, R159, R160). -/

namespace Sys2Proof.Machine
open Sys2Proof

section
variable {s t : State} (h : s.SendersSound) (run : s.running = true)
include h run

/-- A call on a trunk is the one that the trunk's session is for (R52). -/
theorem State.SendersSound.alone {v : Trunk} {ses : Session} (opened : s.session v = some ses) {m : Line}
    (on : (s.call m).trunk = some v) : ses.purpose = .line m := by
  obtain ⟨other, hv, purpose⟩ := (h.calls.2 run m).2 v on
  rw [opened] at hv
  cases hv
  exact purpose

/-! ## A trunk is let go -/

/-- The trunk of a session is let go, and with it the call that the session was for (R160). What released it, `u`, may
first have given its entry to a peer (R162). -/
theorem State.SendersSound.lets_go {u : State} {v : Trunk} {ses : Session} (opened : s.session v = some ses)
    (released : u.Releases t v)
    (before : u.sup.sessions = s.sup.sessions ∧ u.sup.points = s.sup.points ∧ u.senders = s.senders)
    (entries : ∀ w, w ≠ v → (u.entry w).isOwn = (s.entry w).isOwn)
    (same : t.inReset = s.inReset ∧ t.ctl.station = s.ctl.station)
    (claim : ∀ c, t.hunt.claim = some c → ∃ d, s.hunt.claim = some d ∧ c.trunk = d.trunk)
    (calls : ∀ m, if ses.purpose = .line m then
      (t.call m).trunk = none ∧ (t.call m).state ≠ .seizing ∧ (t.call m).state ≠ .dialling else t.call m = s.call m) :
    t.SendersSound := by
  obtain ⟨sessions, points, senders⟩ := before
  refine h.releases run (v := v) same (fun w => ?_) (fun l w => ?_) (fun i => ?_) (fun w => ?_) claim fun m => ?_
  · simpa [State.session, sessions] using released.session w
  · simpa [State.closed, points] using released.closed l w
  · have sender : u.sender i = s.sender i := by simp [State.sender, senders]
    rw [released.sender, sender]
  · have holding := released.holding w
    by_cases hw : w = v
    · subst hw
      cases own : (u.entry w).isOwn with
      | true =>
        simp only [own, and_self, if_true] at holding
        simp [TrunkEntry.isOwn, holding]
      | false =>
        simp only [own, Bool.false_eq_true, and_false, if_false] at holding
        simp only [TrunkEntry.isOwn, holding] at own ⊢
        simp [own]
    · rw [if_neg (fun e => hw e.1)] at holding
      rw [← entries w hw, TrunkEntry.isOwn, holding]
      simp [hw, TrunkEntry.isOwn]
  · have := calls m
    split at this
    · obtain ⟨-, on, -⟩ := h.call_of_session opened ‹_›
      exact .inr ⟨on, this⟩
    · exact .inl ⟨fun on => absurd (h.alone run opened on) ‹_›, by rw [this]; exact CallRecord.StaysOn.refl _⟩

/-- A trunk is let go and its call ends in LOCKOUT (R157, R158, R162). -/
theorem State.SendersSound.lets_go_lockout {u : State} {v : Trunk} {ses : Session} {l : Line} {cause : Cause}
    (opened : s.session v = some ses) (purpose : ses.purpose = .line l)
    (before : u.sup.sessions = s.sup.sessions ∧ u.sup.points = s.sup.points ∧ u.senders = s.senders)
    (entries : ∀ w, w ≠ v → (u.entry w).isOwn = (s.entry w).isOwn)
    (same : u.inReset = s.inReset ∧ u.ctl.station = s.ctl.station ∧ u.hunt = s.hunt ∧ u.calls = s.calls) :
    ((u.endSession v cause).lockout l).SendersSound := by
  obtain ⟨inReset, station, hunt, calls⟩ := same
  have call (m : Line) : (u.endSession v cause).call m = s.call m := by simp [State.call, calls]
  have released : u.Releases ((u.endSession v cause).lockout l) v :=
    (u.releases_endSession v cause).of_same (by simp) fun w => by simp [State.entry]
  refine h.lets_go run opened released before entries (by simp [inReset, station]) (fun c hc => ?_) fun m => ?_
  · rw [(State.lockout_hunt _ l).1] at hc
    simpa [hunt] using State.huntDrop_claim hc
  · rw [State.lockout_call]
    by_cases hm : m = l
    · subst hm
      simp [purpose, CallRecord.lockedOut]
    · have apart : ses.purpose ≠ .line m := fun e => hm (by rw [purpose] at e; cases e; rfl)
      rw [if_neg apart, if_neg hm, call]

theorem State.SendersSound.yieldTo {v : Trunk} (own : (s.entry v).isOwn = true) (p : Slot) : (s.yieldTo v p).SendersSound := by
  have held (w : Trunk) (hw : w ≠ v) : ((s.makeHeld v p none).entry w).isOwn = (s.entry w).isOwn := by
    simp [State.makeHeld, hw]
  have some_ : (s.session v).isSome = true := by rw [← h.owned run v, own]
  unfold State.yieldTo
  dsimp only
  split
  · rename_i none_
    simp [none_] at some_
  · rename_i ses opened
    split
    · exact h.lets_go_lockout run opened ‹_› (by simp) held (by simp)
    · rename_i purpose
      have ended : ((s.makeHeld v p none).endSession v .yield).SendersSound :=
        h.lets_go run opened (State.releases_endSession _ v .yield) (by simp) held (by simp)
          (fun c hc => ⟨c, by simpa using hc, rfl⟩) fun m => by simp [purpose, State.call]
      exact ended.agrees (State.agrees_probeAgain v)

omit h run in
theorem sendersLearn : Learns State.SendersSound where
  agreesWithin h same := h.agrees same
  yieldTo run own h := h.yieldTo run own _

theorem State.SendersSound.probeEnds {v : Trunk} {ses : Session} (opened : s.session v = some ses)
    (waits : ses.state = .probeWait) (cause : Cause) : (s.endSession v cause).SendersSound := by
  have purpose : ses.purpose = .probe := by
    cases hp : ses.purpose with
    | probe => rfl
    | line l => exact absurd waits (h.call_of_session opened hp).1
  exact h.lets_go run opened (s.releases_endSession v cause) (by simp) (fun _ _ => rfl) (by simp)
    (fun c hc => ⟨c, by simpa using hc, rfl⟩) fun m => by simp [purpose, State.call]

/-- At its clear a call leaves its trunk, if it is on one (R61). -/
theorem State.SendersSound.clearCall (l : Line) : (s.clearCall l).SendersSound := by
  have dropped (m : Line) : (s.dropTrunk l).call m = s.call m := by simp [State.call]
  have claim (c : Claim) (hc : (s.clearCall l).hunt.claim = some c) : ∃ d, s.hunt.claim = some d ∧ c.trunk = d.trunk := by
    have hunt : (s.clearCall l).hunt = ((s.dropTrunk l).huntDrop l).hunt := by simp [State.clearCall_eq]
    rw [hunt] at hc
    simpa using State.huntDrop_claim hc
  have rests : ((s.call l).atRest.trunk = none) ∧ (s.call l).atRest.state ≠ .seizing ∧ (s.call l).atRest.state ≠ .dialling := by
    unfold CallRecord.atRest
    cases (s.call l).pendingBlock <;> simp [CallRecord.reset]
  have call := s.clearCall_call l
  cases trunk : (s.call l).trunk with
  | none =>
    have stands : s.dropTrunk l = s := by simp [State.dropTrunk, trunk]
    refine h.of_calls ?_ (fun w => ?_) claim fun m => ?_
    · simp [State.clearCall_eq, stands]
    · simp [State.clearCall_eq, stands, State.entry]
    · rw [call]
      split
      · subst m; exact .inr ⟨trunk, rests⟩
      · exact CallRecord.StaysOn.refl _
  | some v =>
    obtain ⟨ses, opened, purpose⟩ := (h.calls.2 run l).2 v trunk
    have ended : s.dropTrunk l = s.endSession v .lineClear := by simp [State.dropTrunk, trunk]
    have released : s.Releases (s.clearCall l) v := by
      refine (s.releases_endSession v .lineClear).of_same ?_ fun w => ?_
      · simp [State.clearCall_eq, ended]
      · simp [State.clearCall_eq, ended, State.entry]
    refine h.lets_go run opened released (by simp) (fun _ _ => rfl) (by simp) claim fun m => ?_
    rw [call]
    by_cases hm : m = l
    · subst hm
      simpa [purpose] using rests
    · have apart : ses.purpose ≠ .line m := fun e => hm (by rw [purpose] at e; cases e; rfl)
      rw [if_neg apart, if_neg hm]
end
end Sys2Proof.Machine
end

section
/-! Senders and crosspoints: seizures that fail or are answered, and recall breaks at their end (R155, R156, R159, R180). -/

namespace Sys2Proof.Machine
open Sys2Proof

/-! ## A seizure that fails -/

/-- The record of a call whose seizure failed: HUNTING again with its failure count raised, or at the third failure in
LOCKOUT (R52, R156). -/
def CallRecord.failed (c : CallRecord) (time : Nat) : CallRecord :=
  if c.failures < 2 then
    { c with state := .hunting, trunk := none, failures := c.failures + 1, huntTimer := some time }
  else c.lockedOut

@[simp] theorem CallRecord.failed_trunk (c : CallRecord) (time : Nat) : (c.failed time).trunk = none := by
  unfold CallRecord.failed
  split <;> rfl

theorem CallRecord.failed_state (c : CallRecord) (time : Nat) :
    (c.failed time).state ≠ .seizing ∧ (c.failed time).state ≠ .dialling := by
  unfold CallRecord.failed
  split <;> simp [CallRecord.lockedOut]

section
variable (s : State) {l : Line} (v : Trunk)

theorem State.callFailed_call (seizing : (s.call l).state = .seizing) (m : Line) : (s.callFailed l).call m =
    if m = l then (s.call l).failed (s.scanTime + huntTime) else s.call m := by
  unfold State.callFailed CallRecord.failed
  dsimp only
  rw [if_pos seizing]
  split
  · by_cases hm : m = l <;> simp [State.queueHead, State.after, hm]
  · rw [State.lockout_call]

/-- The failure of the seizure on trunk `v`, up to its call (R156, R163). -/
def State.trunkFails : State :=
  if s.retireWaits v then ((s.releaseTrunk v .ptsFail).countFailure v).retireSelf v .maintenance
  else (s.releaseTrunk v .ptsFail).countFailure v

theorem State.seizureFails_eq : s.seizureFails v l = ((s.trunkFails v).callFailed l).settle := rfl

@[simp] theorem State.retireSelf_reads (cause : Cause) (u : Trunk) :
    ((s.retireSelf v cause).entry u).holding = (s.entry u).holding ∧
      ((s.retireSelf v cause).entry u).freeSince = (s.entry u).freeSince := by
  by_cases hu : u = v
  · subst hu; simp [State.retireSelf, State.setRetiredBy]
  · simp [State.retireSelf, State.setRetiredBy, hu]

@[simp] theorem State.countFailure_reads (u : Trunk) : ((s.countFailure v).entry u).holding = (s.entry u).holding ∧
    ((s.countFailure v).entry u).freeSince = (s.entry u).freeSince := by
  have set (e : TrunkEntry) (holding : e.holding = (s.entry v).holding) (since : e.freeSince = (s.entry v).freeSince) :
      ((s.setEntry v e).entry u).holding = (s.entry u).holding ∧ ((s.setEntry v e).entry u).freeSince = (s.entry u).freeSince := by
    by_cases hu : u = v
    · subst hu; simp [holding, since]
    · simp [hu]
  unfold State.countFailure
  dsimp only
  split
  · exact set _ rfl rfl
  · rw [(State.retireSelf_reads _ v _ u).1, (State.retireSelf_reads _ v _ u).2]
    exact set _ rfl rfl

@[simp] theorem State.callFailed_sup (s : State) (l : Line) : (s.callFailed l).sup.sessions = s.sup.sessions ∧
    (s.callFailed l).sup.seize = s.sup.seize ∧ (s.callFailed l).sup.points = s.sup.points := by
  unfold State.callFailed
  dsimp only
  split
  · split <;> simp [State.queueHead]
  · simp

@[simp] theorem State.trunkFails_frame : (s.trunkFails v).now = s.now ∧ (s.trunkFails v).inReset = s.inReset ∧
    (s.trunkFails v).ctl = s.ctl ∧ (s.trunkFails v).iso = s.iso ∧ (s.trunkFails v).scan = s.scan ∧
    (s.trunkFails v).dec = s.dec ∧ (s.trunkFails v).calls = s.calls ∧ (s.trunkFails v).ldt = s.ldt ∧
    (s.trunkFails v).lko = s.lko ∧ (s.trunkFails v).link = s.link ∧ (s.trunkFails v).hunt = s.hunt ∧
    (s.trunkFails v).arb = s.arb := by
  unfold State.trunkFails
  split <;> simp

theorem State.releases_trunkFails : s.Releases (s.trunkFails v) v := by
  refine (s.releases_releaseTrunk v .ptsFail).of_same ?_ fun w => ?_
  · unfold State.trunkFails
    split <;> simp
  · unfold State.trunkFails
    split <;> simp
end

section
variable {s t : State} (h : s.SendersSound) (run : s.running = true) {v : Trunk} {ses : Session} (opened : s.session v = some ses)
include h run opened

theorem State.SendersSound.seizureFails (waits : ses.state = .waitPts) {l : Line} (purpose : ses.purpose = .line l) :
    (s.seizureFails v l).SendingExact := by
  obtain ⟨-, -, seizing⟩ := h.call_of_session opened purpose
  rw [if_pos waits] at seizing
  have call (m : Line) : (s.trunkFails v).call m = s.call m := by simp [State.call]
  have released : s.Releases ((s.trunkFails v).callFailed l) v :=
    (s.releases_trunkFails v).of_same (by simp) fun w => by simp [State.entry]
  have failed : ((s.trunkFails v).callFailed l).SendersSound := by
    refine h.lets_go run opened released (by simp) (fun _ _ => rfl) (by simp) (fun c hc => ?_) fun m => ?_
    · unfold State.callFailed at hc
      dsimp only at hc
      split at hc
      · split at hc
        · exact ⟨c, by simpa [State.queueHead] using hc, rfl⟩
        · rw [(State.lockout_hunt _ l).1] at hc
          simpa using State.huntDrop_claim hc
      · exact ⟨c, by simpa using hc, rfl⟩
    · rw [State.callFailed_call _ (by rw [call, seizing])]
      by_cases hm : m = l
      · subst hm
        rw [if_pos purpose, if_pos rfl]
        exact ⟨CallRecord.failed_trunk _ _, CallRecord.failed_state _ _⟩
      · have apart : ses.purpose ≠ .line m := fun e => hm (by rw [purpose] at e; cases e; rfl)
        rw [if_neg apart, if_neg hm, call]
  rw [State.seizureFails_eq]
  exact failed.settle (by simpa [State.running] using run)

/-! ## A trunk that answers -/

omit run in
/-- A session in WAIT PTS has no sender (R172). -/
theorem State.SendersSound.unattached (waits : ses.state = .waitPts) (i : Fin 2) : (s.sender i).trunk ≠ some v := by
  intro on
  have sound := h.right i
  unfold State.SenderRight at sound
  split at sound
  · rw [sound.1] at on; cases on
  · obtain ⟨_, u, other, _, hu, _, there, _, state⟩ := sound
    rw [on] at hu
    cases hu
    rw [opened] at there
    cases there
    rw [waits] at state
    split at state <;> cases state

/-- The trunk of a SEIZING call answers: its session is ESTABLISHED and the call DIALLING (R52, R155). -/
theorem State.SendersSound.answers (waits : ses.state = .waitPts) {l : Line} (purpose : ses.purpose = .line l) {x : Session}
    (established : x.purpose = .line l ∧ x.state = .established)
    (same : t.inReset = s.inReset ∧ t.ctl = s.ctl ∧ t.hunt = s.hunt ∧ t.sup.points = s.sup.points ∧ t.senders = s.senders)
    (session : ∀ u, t.session u = if u = v then some x else s.session u)
    (entries : ∀ u, (t.entry u).isOwn = (s.entry u).isOwn)
    (calls : ∀ m, t.call m = if m = l then { s.call l with state := .dialling } else s.call m) : t.SendersSound := by
  obtain ⟨inReset, ctl, hunt, points, senders⟩ := same
  obtain ⟨-, on, seizing⟩ := h.call_of_session opened purpose
  rw [if_pos waits] at seizing
  have sender (i : Fin 2) : t.sender i = s.sender i := by simp [State.sender, senders]
  have closed (m : Line) (u : Trunk) : t.closed m u = s.closed m u := by simp [State.closed, points]
  refine ⟨⟨fun u y hy => ?_, fun _ m => ?_⟩, ⟨fun m u joined => ?_, ?_⟩, ⟨fun i => ?_, fun i j u hi hj => ?_⟩, fun _ u => ?_,
    fun c hc => ?_, ?_⟩
  · rw [session] at hy
    split at hy
    · subst u
      obtain rfl : x = y := Option.some.inj hy
      simp [established, calls, on]
    · have sound := h.calls.1 u y hy
      cases hp : y.purpose with
      | probe => simpa [hp] using sound
      | line m =>
        rw [hp] at sound
        have apart : m ≠ l := by
          rintro rfl
          have there := sound.2.1
          rw [on] at there
          exact ‹¬ u = v› (Option.some.inj there).symm
        simpa [calls, apart] using sound
  · obtain ⟨trunks, joined⟩ := h.calls.2 run m
    rw [calls]
    split
    · subst m
      refine ⟨by simp [on], fun u hu => ⟨x, ?_, established.1⟩⟩
      rw [on] at hu
      rw [session, if_pos (Option.some.inj hu).symm]
    · refine ⟨trunks, fun u hu => ?_⟩
      obtain ⟨y, hy, forM⟩ := joined u hu
      have apart : u ≠ v := by
        rintro rfl
        rw [opened] at hy
        cases hy
        rw [purpose] at forM
        cases forM
        contradiction
      exact ⟨y, by rw [session, if_neg apart, hy], forM⟩
  · rw [closed] at joined
    obtain ⟨dialling, rest⟩ := h.pairs.1 m u joined
    have apart : m ≠ l := by
      rintro rfl
      rw [seizing] at dialling
      cases dialling
    rw [calls, if_neg apart]
    exact ⟨dialling, rest⟩
  · simpa only [closed] using h.pairs.2
  · rw [sender]
    refine (h.right i).of_session inReset fun u hu => ?_
    have apart : u ≠ v := fun e => h.unattached opened waits i (e ▸ hu)
    rw [session, if_neg apart]
  · rw [sender] at hi hj
    exact h.senders.2 i j u hi hj
  · rw [entries, session, h.owned run u]
    by_cases hu : u = v
    · subst hu; simp [opened]
    · simp [hu]
  · rw [hunt] at hc
    have rests := h.claim c hc
    have apart : c.trunk ≠ v := fun e => by rw [e, opened] at rests; cases rests
    rw [session, if_neg apart, rests]
  · rw [ctl, hunt]
    exact h.isolated

theorem State.SendersSound.establish (waits : ses.state = .waitPts) {l : Line} (purpose : ses.purpose = .line l) :
    (s.establish v ses l).SendingExact := by
  obtain ⟨-, -, seizing⟩ := h.call_of_session opened purpose
  rw [if_pos waits] at seizing
  unfold State.establish
  dsimp only
  rw [if_pos (show ((((s.setSession v (some { ses with state := .established, answer := none })).setEntry v
    { (s.setSession v (some { ses with state := .established, answer := none })).entry v with failures := 0 }).call
      l).state = .seizing) from seizing)]
  refine State.SendersSound.settleSenders ?_ (by simpa [State.running] using run)
  refine h.answers run opened waits purpose (x := { ses with state := .established, answer := none }) ⟨purpose, rfl⟩
    (by simp) (fun u => ?_) (fun u => ?_) fun m => ?_
  · exact State.setSession_session s v _ u
  · have opened_ : (s.setSession v (some { ses with state := .established, answer := none })).entry = s.entry := rfl
    by_cases hu : u = v
    · subst hu; simp [TrunkEntry.isOwn, opened_]
    · simp [hu, opened_]
  · by_cases hm : m = l
    · subst hm; simp
    · simp [hm]

/-! ## A recall break at its end -/

omit run in
/-- At the end of a recall break its session is ESTABLISHED again and the sender that waited keeps its silence (R159,
R180). -/
theorem State.SendersSound.breakEnds (broken : ses.state = .recallBreak) :
    (((s.setSession v (some { ses with state := .established, breakTimer := none })).setSeize v true).breakOver v).SendersSound := by
  obtain ⟨l, purpose⟩ : ∃ l, ses.purpose = .line l := by
    cases hp : ses.purpose with
    | line l => exact ⟨l, rfl⟩
    | probe =>
      rw [h.of_probe opened hp] at broken
      cases broken
  have answered : ses.state ≠ .waitPts := by simp [broken]
  have waits (i : Fin 2) (on : (s.sender i).trunk = some v) : (s.sender i).state = .recallWait := by
    by_contra ready
    obtain ⟨-, _, other, -, -, there, -, state⟩ := h.attachment on ready
    rw [opened] at there
    cases there
    rw [broken] at state
    cases state
  have session (u : Trunk) : (s.setSession v (some { ses with state := .established, breakTimer := none })).session u =
      if u = v then some { ses with state := .established, breakTimer := none } else s.session u :=
    State.setSession_session s v _ u
  unfold State.breakOver
  split
  · rename_i i found
    have on : (s.sender i).trunk = some v ∧ (s.sender i).state = .recallWait := by
      have := List.find?_some found
      exact of_decide_eq_true this
    have sound := h.right i
    unfold State.SenderRight at sound
    rw [if_neg (by simp [on.2])] at sound
    obtain ⟨m, u, other, line, trunk, select, there, forM, -⟩ := sound
    rw [on.1] at trunk
    cases trunk
    rw [opened] at there
    cases there
    rw [purpose] at forM
    cases forM
    have sender (j : Fin 2) : ((((s.setSession v (some { ses with state := .established, breakTimer := none })).setSeize v
        true).keepSilence i).sender j) = if j = i then { s.sender i with
          state := .recallSilence, source := none, code := none, endsAt := s.moment recallSilenceTime, output := 512 }
        else s.sender j :=
      State.setSender_sender _ i _ j
    refine h.turns (x := { ses with state := .established, breakTimer := none }) opened ⟨purpose, purpose⟩ answered (.inl rfl)
      (by simp) session (fun j => ?_) fun j => ?_
    · rw [sender]
      split
      · exact State.senderRight_of_attached (l := l) (v := v) (by simp) ⟨line, on.1, select⟩
          ((session v).trans (if_pos rfl)) purpose (by simp)
      · rename_i hj
        refine (h.right j).of_session rfl fun u hu => ?_
        have apart : u ≠ v := fun e => hj (h.senders.2 j i v (e ▸ hu) on.1)
        exact (session u).trans (if_neg apart)
    · rw [sender]
      split
      · subst j; rfl
      · rfl
  · rename_i none_
    refine h.turns (x := { ses with state := .established, breakTimer := none }) opened ⟨purpose, purpose⟩ answered (.inl rfl)
      (by simp) session (fun j => ?_) fun _ => rfl
    refine (h.right j).of_session rfl fun u hu => ?_
    have apart : u ≠ v := by
      rintro rfl
      have missing := List.find?_eq_none.1 none_ j (List.mem_finRange j)
      exact missing (decide_eq_true ⟨hu, waits j hu⟩)
    exact (session u).trans (if_neg apart)

end
end Sys2Proof.Machine
end

section
/-! Senders and crosspoints: Station Control's entries, and every step (R52, R57, R109, R140, R152, R155, R160, R167,
R172 to R175, R180). -/

namespace Sys2Proof.Machine
open Sys2Proof

theorem State.sendable_congr {s t : State} {c d : CallRecord} (alike : c.Alike d) (straps : t.ctl.straps = s.ctl.straps) :
    t.sendable d = s.sendable c := by
  simp only [State.sendable, State.released, straps, alike.state, alike.queue, alike.identitySent, alike.firstDigitSent,
    alike.spoiled, alike.dialTimer]

theorem State.wantsSender_of_off {s : State} {l : Line} (off : (s.call l).trunk = none) : s.wantsSender l = false := by
  simp [State.wantsSender, off]

section
variable {s t : State} (h : s.SendingExact)
include h

/-! ## What leaves sending alone -/

/-- Sessions, pairs and senders stand, and each call stands or is on no trunk before and after. -/
theorem State.SendingExact.of_same (same : t.inReset = s.inReset ∧ t.running = s.running ∧ t.ctl.straps = s.ctl.straps ∧
      t.sup.points = s.sup.points ∧ t.arb.requests = s.arb.requests)
    (calls : ∀ l, (s.call l).Alike (t.call l) ∨
      ((s.call l).trunk = none ∧ (t.call l).trunk = none ∧ (t.call l).state ≠ .seizing ∧ (t.call l).state ≠ .dialling))
    (sessions : ∀ v, (t.session v).map Session.role = (s.session v).map Session.role)
    (senders : ∀ i, (s.sender i).Alike (t.sender i)) (entries : ∀ v, (t.entry v).isOwn = (s.entry v).isOwn)
    (claim : ∀ c, t.hunt.claim = some c → s.session c.trunk = none)
    (isolated : t.ctl.station = .isolated → t.hunt.claim = none) : t.SendingExact := by
  obtain ⟨sound, requests, waiting⟩ := h
  obtain ⟨inReset, running, straps, points, asked⟩ := same
  refine ⟨sound.of_same ⟨inReset, running, points⟩ (fun l => ?_) sessions senders entries claim isolated, fun l => ?_, ?_⟩
  · rcases calls l with alike | off
    · exact .inl ⟨alike.state, alike.trunk, fun on => alike.audio.trans on⟩
    · exact .inr off
  · rw [asked, requests]
    have wants : t.wantsSender l = s.wantsSender l := by
      rcases calls l with alike | ⟨before, after, -⟩
      · exact State.wantsSender_congr (State.sendable_congr alike straps) alike.trunk sessions fun i => (senders i).trunk
      · rw [State.wantsSender_of_off before, State.wantsSender_of_off after]
    rw [wants]
  · rw [asked]
    exact waiting.imp id fun busy i => fun free => busy i ((senders i).free.1 free)

theorem State.SendingExact.agrees (same : s.Agrees t) : t.SendingExact :=
  h.of_same ⟨same.inReset, same.running, same.straps, same.points, same.requests⟩ (fun l => .inl (same.calls l)) same.sessions
    same.senders same.entries (fun c hc => h.1.claim c (same.claim ▸ hc)) fun isolated =>
      same.claim ▸ h.1.isolated (same.station ▸ isolated)

/-- Only calls that are on no trunk change. -/
theorem State.SendingExact.of_calls (same : t.inReset = s.inReset ∧ t.ctl = s.ctl ∧ t.sup = s.sup ∧ t.arb = s.arb ∧
      t.senders = s.senders ∧ t.view = s.view)
    (claim : ∀ c, t.hunt.claim = some c → ∃ d, s.hunt.claim = some d ∧ c.trunk = d.trunk)
    (calls : ∀ l, t.call l = s.call l ∨
      ((s.call l).trunk = none ∧ (t.call l).trunk = none ∧ (t.call l).state ≠ .seizing ∧ (t.call l).state ≠ .dialling)) :
    t.SendingExact := by
  obtain ⟨inReset, ctl, sup, arb, senders, view⟩ := same
  refine h.of_same (by simp [State.running, inReset, ctl, sup, arb]) (fun l => (calls l).imp_left fun stands => ?_)
    (fun v => by simp [State.session, sup]) (fun i => by simpa [State.sender, senders] using Sender.Alike.refl _)
    (fun v => by simp [State.entry, view]) (fun c hc => ?_) fun isolated => ?_
  · rw [stands]
    exact CallRecord.Alike.refl _
  · obtain ⟨d, hd, trunk⟩ := claim c hc
    rw [trunk, h.1.claim d hd]
  · cases hc : t.hunt.claim with
    | none => rfl
    | some c =>
      obtain ⟨d, hd, -⟩ := claim c hc
      rw [h.1.isolated (ctl ▸ isolated)] at hd
      cases hd

/-- One call changes, on no trunk before and after. -/
theorem State.SendingExact.of_call (run : s.running = true) {l : Line}
    (same : t.inReset = s.inReset ∧ t.ctl = s.ctl ∧ t.sup = s.sup ∧ t.arb = s.arb ∧ t.senders = s.senders ∧
      t.view = s.view)
    (claim : ∀ c, t.hunt.claim = some c → ∃ d, s.hunt.claim = some d ∧ c.trunk = d.trunk)
    (others : ∀ m, m ≠ l → t.call m = s.call m) (before : (s.call l).state ≠ .seizing ∧ (s.call l).state ≠ .dialling)
    (after : (t.call l).trunk = (s.call l).trunk ∨ (t.call l).trunk = none)
    (rests : (t.call l).state ≠ .seizing ∧ (t.call l).state ≠ .dialling) : t.SendingExact := by
  have off := h.1.offTrunk run before.1 before.2
  refine h.of_calls same claim fun m => ?_
  by_cases hm : m = l
  · subst hm
    exact .inr ⟨off, after.elim (·.trans off) id, rests⟩
  · exact .inl (others m hm)

/-- What is not a call's, a session's, a pair's or a sender's. -/
theorem State.SendingExact.of_frame (same : t.inReset = s.inReset ∧ t.ctl = s.ctl ∧ t.sup = s.sup ∧ t.arb = s.arb ∧
      t.senders = s.senders ∧ t.view = s.view ∧ t.calls = s.calls)
    (claim : ∀ c, t.hunt.claim = some c → ∃ d, s.hunt.claim = some d ∧ c.trunk = d.trunk) : t.SendingExact := by
  obtain ⟨inReset, ctl, sup, arb, senders, view, calls⟩ := same
  exact h.of_calls ⟨inReset, ctl, sup, arb, senders, view⟩ claim fun l => .inl (by simp [State.call, calls])

/-! ## Resets, halts and the entries of Station Control -/

theorem State.SendingExact.beginReset : s.beginReset.SendingExact := by
  obtain ⟨sound, requests, waiting⟩ := h
  have stopped : s.beginReset.running = false := by simp [State.running, State.beginReset]
  have sender (i : Fin 2) : s.beginReset.sender i = { s.sender i with output := 512, select := none } := by
    simp [State.sender, State.beginReset]
  refine ⟨⟨⟨sound.calls.1, fun run => absurd run (by simp [stopped])⟩, sound.pairs, ⟨fun i => ?_, fun i j v hi hj => ?_⟩,
    fun run => absurd run (by simp [stopped]), sound.claim, sound.isolated⟩, fun l => ?_, ?_⟩
  · have right := sound.right i
    unfold State.SenderRight at right
    rw [sender]
    split
    · rw [if_pos ‹_›] at right
      exact ⟨right.1, right.2.1, rfl⟩
    · rw [if_neg ‹_›] at right
      obtain ⟨l, v, ses, line, trunk, -, rest⟩ := right
      exact ⟨l, v, ses, line, trunk, rfl, rest⟩
  · rw [sender] at hi hj
    exact sound.senders.2 i j v hi hj
  · have wants : s.beginReset.wantsSender l = s.wantsSender l :=
      State.wantsSender_congr rfl rfl (fun _ => rfl) fun i => by rw [sender]
    rw [wants]
    exact requests l
  · exact waiting.imp id fun busy i => by rw [sender]; exact busy i

omit h in
theorem State.halt_sendingExact (s : State) {st : StationState} (stops : st.halted = true) : (s.halt st).SendingExact := by
  have stopped : (s.halt st).running = false := by simp [State.running, State.halt, Control.enter, stops]
  have shut (v : Trunk) : (s.halt st).session v = none := by simp [State.session, State.halt]
  have open_ (l : Line) (v : Trunk) : (s.halt st).closed l v = false := by simp [State.closed, State.halt]
  have sender (i : Fin 2) : (s.halt st).sender i = (s.sender i).freed := by simp [State.sender, State.halt]
  have claim : (s.halt st).hunt.claim = none := by simp [State.halt]
  have none_ : (s.halt st).arb.requests = [] := by simp [State.halt]
  refine ⟨⟨⟨fun v ses opened => ?_, fun run => ?_⟩, ⟨fun l v joined => ?_, fun l m v joined => ?_⟩,
    ⟨fun i => ?_, fun i j v hi => ?_⟩, fun run => ?_, fun c hc => ?_, fun _ => claim⟩, fun l => ?_, .inl none_⟩
  · rw [shut] at opened; cases opened
  · rw [stopped] at run; cases run
  · rw [open_] at joined; cases joined
  · rw [open_] at joined; cases joined
  · rw [sender]
    exact (s.halt st).senderRight_freed (s.sender i)
  · rw [sender] at hi; cases hi
  · rw [stopped] at run; cases run
  · rw [claim] at hc; cases hc
  · have idle : (s.halt st).wantsSender l = false := by
      by_contra wants
      obtain ⟨-, v, ses, -, -, opened, -⟩ := State.wantsSender_iff.1 (by simpa using wants)
      rw [shut] at opened
      cases opened
    simp [none_, idle]

omit h in
theorem State.endReset_sendingExact (s : State) (pins : BitVec 15) : (s.endReset pins).SendingExact := by
  have cleared (straps : Straps) : (s.cleared straps).SendingExact := by
    obtain ⟨calls, pairs, senders, -⟩ := State.reset_sendersSound
    refine ⟨⟨calls, pairs, senders, fun _ v => ?_, nofun, nofun⟩, fun l => ?_, .inl rfl⟩
    · have entry : (s.cleared straps).entry v = TrunkEntry.reset := State.reset_entry v
      have session : (s.cleared straps).session v = none := State.reset_session v
      rw [entry, session]
      rfl
    · have call : (s.cleared straps).call l = CallRecord.reset := State.reset_call l
      have idle : (s.cleared straps).wantsSender l = false := State.wantsSender_of_off (by rw [call]; rfl)
      have none_ : (s.cleared straps).arb.requests = [] := rfl
      simp [none_, idle]
  unfold State.endReset
  dsimp only
  split
  · exact State.halt_sendingExact _ rfl
  · exact cleared _

/-- Station Control enters a state in which the station runs on, with the pending claim kept or dropped. -/
theorem State.SendingExact.enters (run : s.running = true) (live : t.ctl.station.halted = false)
    (same : t.inReset = s.inReset ∧ t.ctl.straps = s.ctl.straps ∧ t.sup.points = s.sup.points ∧
      t.sup.sessions = s.sup.sessions ∧ t.arb = s.arb ∧ t.senders = s.senders ∧ t.calls = s.calls ∧
      t.view.entries = s.view.entries)
    (claim : t.hunt.claim = none ∨ (t.ctl.station ≠ .isolated ∧ t.hunt.claim = s.hunt.claim)) : t.SendingExact := by
  obtain ⟨inReset, straps, points, sessions, arb, senders, calls, entries⟩ := same
  refine h.of_same ⟨inReset, State.running_of_enters run inReset live, straps, points, by rw [arb]⟩
    (fun l => .inl (by simpa [State.call, calls] using CallRecord.Alike.refl _)) (fun v => by simp [State.session, sessions])
    (fun i => by simpa [State.sender, senders] using Sender.Alike.refl _) (fun v => by simp [State.entry, entries])
    (fun c hc => ?_) fun isolated => ?_
  · rcases claim with e | ⟨-, e⟩
    · rw [e] at hc; cases hc
    · exact h.1.claim c (e ▸ hc)
  · exact claim.elim id fun ⟨e, _⟩ => absurd isolated e

/-! ## Calls and lines -/

variable (run : s.running = true)
include run

theorem State.SendingExact.startCall {l : Line} (idle : (s.call l).state = .idle) : (s.startCall l).SendingExact := by
  obtain ⟨call, -⟩ := s.callStarts_startCall l
  refine h.of_call run (l := l) (by simp) (fun c hc => ⟨c, ?_, rfl⟩) (fun m hm => (s.lineStands_startCall l hm).1)
    (by simp [idle]) (.inr ?_) ?_
  · unfold State.startCall at hc
    dsimp only at hc
    split at hc <;> simpa [State.queueTail, State.endGuard] using hc
  · rw [call]
    unfold State.startedCall
    cases s.ctl.straps.mode <;> rfl
  · rw [call]
    unfold State.startedCall
    cases s.ctl.straps.mode <;> simp

theorem State.SendingExact.lockout {l : Line} (early : (s.call l).state = .collecting ∨ (s.call l).state = .hunting) :
    (s.lockout l).SendingExact := by
  have off := h.1.offTrunk run (l := l) (fun e => by simp [e] at early) fun e => by simp [e] at early
  refine h.of_same (by simp [State.running]) (fun m => ?_) (fun v => by simp [State.session])
    (fun i => by simpa [State.sender] using Sender.Alike.refl _) (fun v => by simp [State.entry]) (fun c hc => ?_) fun isolated => ?_
  · rw [State.lockout_call]
    split
    · subst m
      exact .inr ⟨off, by simp [CallRecord.lockedOut], by simp [CallRecord.lockedOut]⟩
    · exact .inl (CallRecord.Alike.refl _)
  · rw [(s.lockout_hunt l).1] at hc
    obtain ⟨d, hd, trunk⟩ := State.huntDrop_claim hc
    rw [trunk, h.1.claim d hd]
  · cases hc : (s.lockout l).hunt.claim with
    | none => rfl
    | some c =>
      rw [(s.lockout_hunt l).1] at hc
      obtain ⟨d, hd, -⟩ := State.huntDrop_claim hc
      rw [h.1.isolated (by simpa using isolated)] at hd
      cases hd

/-- The record of a call that is neither SEIZING nor DIALLING before and after. -/
theorem State.SendingExact.rewrites {l : Line} {c : CallRecord} (before : (s.call l).state ≠ .seizing ∧ (s.call l).state ≠ .dialling)
    (trunk : c.trunk = (s.call l).trunk) (after : c.state ≠ .seizing ∧ c.state ≠ .dialling) : (s.setCall l c).SendingExact :=
  h.of_call run (by simp) (fun c hc => ⟨c, hc, rfl⟩) (fun m hm => by simp [hm]) before (.inl (by simpa using trunk))
    (by simpa using after)

theorem State.SendingExact.blockLine (l : Line) : (s.blockLine l).SendingExact := by
  unfold State.blockLine
  dsimp only
  split
  · rename_i idle
    have blocked := h.rewrites run (l := l) (c := { s.call l with state := .blocked }) (by simp [idle]) rfl (by simp)
    exact blocked.of_frame (by simp) fun c hc => ⟨c, hc, rfl⟩
  · exact h
  · exact h.agrees (State.agrees_setCall ⟨rfl, rfl, rfl, rfl, rfl, rfl, rfl, rfl⟩)

theorem State.SendingExact.unblockLine (l : Line) : (s.unblockLine l).SendingExact := by
  unfold State.unblockLine
  dsimp only
  split
  · rename_i blocked
    have freed := h.rewrites run (l := l) (c := { s.call l with state := .idle }) (by simp [blocked]) rfl (by simp)
    exact freed.of_frame (by simp) fun c hc => ⟨c, hc, rfl⟩
  · exact h
  · exact h.agrees (State.agrees_setCall ⟨rfl, rfl, rfl, rfl, rfl, rfl, rfl, rfl⟩)

/-! ## Claims -/

omit run in
theorem State.SendingExact.startFrame (joining : Bool) : (s.startFrame joining).SendingExact := by
  unfold State.startFrame
  split
  · split
    · exact h
    · dsimp only
      split
      · rename_i c _ hc
        refine h.of_frame (by simp) fun d hd => ⟨c, by simpa using hc, ?_⟩
        cases hd
        rfl
      · exact h.of_frame (by simp) fun c hc => ⟨c, by simpa using hc, rfl⟩
  · exact h

omit run in
theorem State.SendingExact.flightEnds : s.flightEnds.SendingExact := by
  have unsent : (s.setTx s.tx.unsent).SendingExact := h.of_frame (by simp) fun c hc => ⟨c, hc, rfl⟩
  unfold State.flightEnds
  dsimp only
  split
  · split
    · rename_i c hc
      split
      · rename_i lapsed
        have notProbe : c.owner ≠ .probe := by simp [lapsed]
        have withdrawn : (s.setTx s.tx.unsent).withdrawClaim =
            ((s.setTx s.tx.unsent).setTx ((s.setTx s.tx.unsent).tx.withdraw .claim)).setHunt
              { s.hunt with claim := none } := by
          simp only [State.withdrawClaim, hc, if_neg notProbe]
          rfl
        rw [withdrawn]
        exact unsent.of_frame (by simp) nofun
      · refine unsent.of_frame (by simp) fun d hd => ⟨c, hc, ?_⟩
        cases hd
        rfl
    · exact unsent
  · exact unsent

theorem State.SendingExact.claimsProbe (active : s.ctl.station = .active) {v : Trunk} (candidate : s.probeCandidate v = true) :
    ((s.place (.claim v none)).setHunt
      { s.hunt with probe := none, claim := some { trunk := v, owner := .probe, stage := .queued } }).SendingExact := by
  simp only [State.probeCandidate, Bool.and_eq_true] at candidate
  refine h.of_same ⟨rfl, rfl, rfl, rfl, rfl⟩ (fun l => .inl (CallRecord.Alike.refl _)) (fun _ => rfl)
    (fun _ => Sender.Alike.refl _) (fun _ => rfl) (fun c hc => ?_) fun isolated => ?_
  · cases hc
    exact h.1.unowned run (State.isOwn_of_huntable candidate.1)
  · simp [active] at isolated

theorem State.SendingExact.ownClaim (v : Trunk) (line : Option Line) (outcome : ClaimOutcome) :
    (s.ownClaim v line outcome).SendingExact := by
  have sent : s.claimSent.SendingExact := by
    unfold State.claimSent
    split
    · exact h.of_frame (by simp) fun c hc => ⟨c, hc, rfl⟩
    · exact h
  have running : s.claimSent.running = true := by simpa [State.running] using run
  unfold State.ownClaim
  dsimp only
  split
  · exact sent
  · rename_i c pending
    split
    · split
      · exact (sent.1.ownEffective running pending line).settle (by simpa [State.running] using run)
      · rename_i code o
        have refreshed : (s.claimSent.refresh o).SendersSound := sent.1.agrees (State.agrees_refresh o)
        have learnt := sendersLearn.applyObjection (by simpa [State.running] using run) refreshed v code o
        exact (learnt.ownWithoutEffect c).settle (by simpa [State.running] using run)
      · exact (sent.1.ownWithoutEffect c).settle (by simpa [State.running] using run)
    · exact sent

end

/-! ## Every step -/

theorem sendingKept : Kept State.SendingExact State.SendersSound fun _ => True where
  toLearns := sendersLearn
  within h := h.1
  agrees h same := h.agrees same
  served _ _ := trivial
  serving := ⟨trivial, trivial⟩
  settle run h := h.settle run
  settleSenders run h := h.settleSenders run
  beginReset h := h.beginReset
  endReset := State.endReset_sendingExact
  halt _ stops _ := State.halt_sendingExact _ stops
  enterListen run _ h := h.enters run (by simp [State.enterListen, Control.enter, StationState.halted]) (by simp [State.enterListen, Control.enter])
    (.inr ⟨by simp [State.enterListen, Control.enter], by simp⟩)
  activating run _ h := h.enters run (by simp [State.activating, StationState.halted]) (by simp [State.activating])
    (.inr ⟨by simp [State.activating], by simp [State.activating]⟩)
  isolating run h := h.enters run (by simp [State.isolating, StationState.halted]) (by simp [State.isolating])
    (.inl (by simp [State.isolating]))
  enterRejoin run _ h := h.enters run (by simp [State.enterRejoin, Control.enter, StationState.halted])
    (by simp [State.enterRejoin, Control.enter])
    (.inr ⟨by simp [State.enterRejoin, Control.enter], by simp⟩)
  startCall run _ idle h := h.startCall run idle
  clearCall run _ _ h := h.1.clearCall run _
  lockout run early h := h.lockout run early
  enterHunting {s l} run collecting h :=
    have off := h.1.offTrunk run (l := l) (by simp [collecting]) (by simp [collecting])
    h.1.of_calls (by simp) (fun _ => by simp [State.entry]) (fun c hc => ⟨c, hc, rfl⟩) fun m => by
      rw [State.enterHunting_call]
      split
      · subst m; exact .inr ⟨off, off, by simp⟩
      · exact CallRecord.StaysOn.refl _
  collects run collecting h := h.rewrites run (by simp [collecting]) rfl (by simp [collecting])
  requeues _ h := h.1.setCall (.inl ⟨rfl, rfl, id⟩)
  blockedEdge _ _ h := h.of_frame (by simp) fun c hc => ⟨c, hc, rfl⟩
  blockLine run _ h := h.blockLine run _
  unblockLine run _ h := h.unblockLine run _
  place _ _ _ h := h.of_frame (by simp) fun c hc => ⟨c, hc, rfl⟩
  placeWithin _ _ _ h := h.of_frame (by simp) (fun _ => rfl) fun c hc => ⟨c, hc, rfl⟩
  startFrame _ h := h.startFrame _
  flightEnds _ _ h := h.flightEnds
  sent _ h := h.of_frame (by simp) fun c hc => ⟨c, hc, rfl⟩
  replies _ _ _ h := h.of_frame (by simp) fun c hc => ⟨c, hc, rfl⟩
  ownClaim {s k _ _ _} run _ _ _ h :=
    have linked : (s.setLink k).SendingExact := h.of_frame (by simp) fun c hc => ⟨c, hc, rfl⟩
    linked.ownClaim (by simpa [State.running] using run) _ _ _
  holdsProbe _ _ h := h.of_frame (by simp) fun c hc => ⟨c, hc, rfl⟩
  claimsProbe run active _ candidate h := h.claimsProbe run active candidate
  establish run opened waits purpose h := h.1.establish run opened waits purpose
  seizureFails run opened waits purpose h := h.1.seizureFails run opened waits purpose
  switchCleared run opened purpose h :=
    h.1.lets_go_lockout run opened purpose (by simp) (fun _ _ => rfl) (by simp)
  probeEnds run opened waits h := h.1.probeEnds run opened waits _
  breakEnds _ opened broken h := h.1.breakEnds opened broken
  codeBoundary run gap h := h.1.codeBoundary run (by simp [gap])
  silenceEnds {s i l} run silence _ h :=
    (h.1.removeHead run l).codeBoundary (by simpa [State.running] using run) (by
      have stands : (s.removeHead l).sender i = s.sender i := by simp [State.sender]
      simp [stands, silence])

/-- Settles O59: from what the parts of the commands do to calls, sessions, pairs, senders and requests. -/
theorem everyStepKeepsSendersAndCrosspointsExact : Obligations.EveryStepKeepsSendersAndCrosspointsExact := by
  unfold Obligations.EveryStepKeepsSendersAndCrosspointsExact
  rintro s t ⟨⟨-, owned, claim, isolated⟩, calls, pairs, senders, requests⟩ e
  obtain ⟨sound, asked⟩ := sendingKept.step ⟨⟨calls, pairs, senders, owned, claim, isolated⟩, requests⟩ e
  exact ⟨sound.calls, sound.pairs, sound.senders, asked⟩

end Sys2Proof.Machine
end

section
/-! Sending: what the arbiter's grants leave alone of a line, a trunk and a sender (R172 to R176). -/

namespace Sys2Proof.Machine
open Sys2Proof

/-- What a new request set keeps, and every grant to a line that wants a sender, settling keeps (R173, R174). -/
theorem State.settleSenders_keeps {P : State → Prop} (requests : ∀ {u : State} a, P u → P (u.setArb a))
    (grants : ∀ {u : State} {i : Fin 2} {l : Line}, P u → (u.sender i).state = .free → u.wantsSender l = true →
      P (u.grant i l)) {s : State} (h : P s) : P s.settleSenders := by
  have rounds (n : Nat) {u : State} (hu : P u) : P (settleRounds n u) := by
    induction n generalizing u with
    | zero => exact requests _ hu
    | succ n ih =>
      have refreshed : P u.refreshRequests := requests _ hu
      unfold settleRounds
      dsimp only
      split
      · rename_i i l free next
        have wants : u.refreshRequests.wantsSender l = true := by
          have asked := Arbiter.next_mem next
          simp only [State.refreshRequests, State.setArb_arb, List.mem_filter] at asked
          exact asked.2
        exact ih (grants refreshed (State.freeSender_free free) wants)
      · exact refreshed
  exact rounds 10 h

/-! ## Calls that a code boundary spoils -/

/-- A code boundary spoils the call: its identity sent, a MUTILATED entry is next (R59, R176). -/
def CallRecord.Spoils (c : CallRecord) : Prop :=
  c.state = .dialling ∧ c.spoiled = false ∧ c.identitySent = true ∧ ∃ e, c.queue.head? = some e ∧ e.kind = .mutilated

/-- The record of a call spoiled (R59). -/
def CallRecord.spoilt (c : CallRecord) : CallRecord :=
  ({ c with spoiled := true, queue := [], dialTimer := c.dialTimer.halted } : CallRecord).connected

/-- From `s` to `t` line `l` keeps its call and its dial tone, or its call is spoiled. -/
def State.StandsOrSpoils (s t : State) (l : Line) : Prop :=
  sameLine s t l ∨ ((s.call l).Spoils ∧ t.call l = (s.call l).spoilt)

section
variable {s : State}

theorem State.unsendable_of_spoiled {c : CallRecord} (spoiled : c.spoiled = true) : s.sendable c = false := by
  simp [State.sendable, spoiled]

theorem State.unwanted {l : Line} (no : s.sendable (s.call l) = false) : s.wantsSender l = false := by
  simp [State.wantsSender, no]

/-- An attached sender's line asks for no other on that trunk (R173). -/
theorem State.unwanted_of_attached {i : Fin 2} {l : Line} (on : (s.sender i).trunk = (s.call l).trunk) :
    s.wantsSender l = false := by
  by_contra wants
  obtain ⟨-, v, -, hv, free, -⟩ := State.wantsSender_iff.1 (by simpa using wants)
  exact State.attached_eq_false.1 free i (on.trans hv)

section
variable (i : Fin 2) (l : Line) (v : Trunk)

/-- At the choice of a code boundary a call stands or is spoiled (R176). -/
theorem State.nextCode_line : s.StandsOrSpoils (s.nextCode i l v) l := by
  have same {t : State} (calls : t.calls = s.calls) (ldt : t.ldt = s.ldt) : s.StandsOrSpoils t l :=
    .inl (sameLine_of_fields calls ldt)
  unfold State.nextCode
  dsimp only
  split
  · exact same (by simp) (by simp)
  · rename_i identified
    split
    · rename_i able
      split
      · exact same (by simp) (by simp)
      · rename_i e rest queue
        split
        · exact same (by simp) (by simp)
        · exact same (by simp) (by simp)
        · rename_i mutilated
          simp only [State.sendable, Bool.and_eq_true, decide_eq_true_eq, Bool.not_eq_true'] at able
          refine .inr ⟨⟨able.1.1, able.1.2, by simpa using identified, e, by simp [queue], mutilated⟩, ?_⟩
          have call : ((s.spoil l).detach i).call l = (s.spoil l).call l := by simp [State.call]
          rw [call, State.spoil_call, if_pos rfl]
          rfl
    · exact same (by simp) (by simp)

theorem State.nextCode_sender {j : Fin 2} (apart : j ≠ i) : (s.nextCode i l v).sender j = s.sender j := by
  have one (u : State) (x : Sender) (same : u.sender = s.sender) : (u.setSender i x).sender j = s.sender j := by
    rw [State.setSender_sender, if_neg apart, same]
  have silent (u : State) (same : u.sender = s.sender) : (u.detach i).sender j = s.sender j := one u _ same
  unfold State.nextCode
  dsimp only
  split
  · exact one s _ rfl
  · split
    · split
      · exact silent s rfl
      · split
        · exact one s _ rfl
        · unfold State.askBreak
          split
          · split
            · exact one _ _ rfl
            · exact one s _ rfl
          · exact one s _ rfl
        · exact silent _ (State.spoil_reads l).2
    · exact silent s rfl

/-- At the choice of a code boundary the sender stays with its line or detaches (R176). -/
theorem State.nextCode_senderLine : ((s.nextCode i l v).sender i).line = (s.sender i).line ∨
    ((s.nextCode i l v).sender i).line = none := by
  have stays (u : State) {x : Sender} (line : x.line = (s.sender i).line) :
      ((u.setSender i x).sender i).line = (s.sender i).line := by
    rw [State.setSender_sender, if_pos rfl, line]
  have detaches (u : State) : ((u.detach i).sender i).line = none := by
    rw [State.detach, State.setSender_sender, if_pos rfl, Sender.freed]
  unfold State.nextCode
  dsimp only
  split
  · exact .inl (stays s rfl)
  · split
    · split
      · exact .inr (detaches s)
      · split
        · exact .inl (stays s rfl)
        · unfold State.askBreak
          split
          · split
            · exact .inl (stays _ rfl)
            · exact .inl (stays s rfl)
          · exact .inl (stays s rfl)
        · exact .inr (detaches _)
    · exact .inr (detaches s)

/-! ## Pairs -/

/-- Only the trunk that the call is on gets a closed pair (R57, R167). -/
theorem State.connectAudio_closed (m : Line) (u : Trunk) (apart : (s.call l).trunk ≠ some u) :
    (s.connectAudio l).closed m u = s.closed m u := by
  have connected : ((s.setCall l { s.call l with audio := true }).toneOff l).closed m u = s.closed m u := by
    simp [State.closed, State.toneOff]
  unfold State.connectAudio
  dsimp only
  split
  · split
    · rename_i w on
      have other : ¬ u = w := fun e => apart (e ▸ on)
      have joined := State.closePair_closed ((s.setCall l { s.call l with audio := true }).toneOff l) l m w u
      rw [Bool.eq_iff_iff, joined, connected]
      simp [other]
    · exact connected
  · rfl

theorem State.connectAudio_joins {m : Line} {u : Trunk} (joined : s.closed m u = true) :
    (s.connectAudio l).closed m u = true := by
  have connected : ((s.setCall l { s.call l with audio := true }).toneOff l).closed m u = true := by
    simpa [State.closed, State.toneOff] using joined
  unfold State.connectAudio
  dsimp only
  split
  · split
    · exact (State.closePair_closed _ _ _ _ _).2 (.inl connected)
    · exact connected
  · exact joined

theorem State.askBreak_closed : (s.askBreak i v).closed = s.closed := by
  unfold State.askBreak
  split
  · split <;> rfl
  · rfl

theorem State.askBreak_seize {u : Trunk} (apart : u ≠ v) : (s.askBreak i v).sup.seize[u] = s.sup.seize[u] := by
  unfold State.askBreak
  split
  · split
    · simp [apart]
    · simp
  · simp

/-- The choice at a code boundary touches no trunk but its own (R176). -/
theorem State.nextCode_trunks {u : Trunk} (apart : u ≠ v) (on : (s.call l).trunk = some v) (m : Line) :
    (s.nextCode i l v).sup.seize[u] = s.sup.seize[u] ∧ (s.nextCode i l v).closed m u = s.closed m u := by
  have other : (s.call l).trunk ≠ some u := fun e => apart (Option.some.inj (e.symm.trans on))
  unfold State.nextCode
  dsimp only
  split
  · exact ⟨by simp, rfl⟩
  · split
    · split
      · exact ⟨by simp, rfl⟩
      · split
        · exact ⟨by simp, rfl⟩
        · exact ⟨State.askBreak_seize i v apart, by rw [State.askBreak_closed]⟩
        · refine ⟨by simp, ?_⟩
          exact State.connectAudio_closed (s := s.setCall l _) l m u (by simpa using other)
    · exact ⟨by simp, rfl⟩

theorem State.nextCode_joins {m : Line} {u : Trunk} (joined : s.closed m u = true) :
    (s.nextCode i l v).closed m u = true := by
  unfold State.nextCode
  dsimp only
  split
  · exact joined
  · split
    · split
      · exact joined
      · split
        · exact joined
        · rw [State.askBreak_closed]; exact joined
        · exact State.connectAudio_joins l joined
    · exact joined

/-! ## Grants -/

/-- The state in which a grant takes its code boundary: the sender attached to the line and its trunk (R175). -/
def State.attachedTo (s : State) : State :=
  (s.setArb { requests := s.arb.requests.filter (· ≠ l), pointer := l }).setSender i { s.sender i with
    state := .gap, trunk := some v, line := some l, source := none, code := none, select := some v }
end

section
variable {i : Fin 2} {l : Line} {v : Trunk}

theorem State.grant_attached (on : (s.call l).trunk = some v) : s.grant i l = (s.attachedTo i l v).nextCode i l v :=
  State.grant_eq on

theorem State.grant_sender (j : Fin 2) (apart : j ≠ i) : (s.grant i l).sender j = s.sender j := by
  cases on : (s.call l).trunk with
  | none => simp [State.grant, on]
  | some v =>
    rw [State.grant_attached on, State.nextCode_sender i l v apart, State.attachedTo, State.setSender_sender, if_neg apart]
    rfl

theorem State.grant_line : s.StandsOrSpoils (s.grant i l) l := by
  cases on : (s.call l).trunk with
  | none => simpa [State.grant, on] using .inl (sameLine.refl s l)
  | some v =>
    rw [State.grant_attached on]
    have call : (s.attachedTo i l v).call = s.call := rfl
    have ldt : (s.attachedTo i l v).ldt = s.ldt := rfl
    simpa only [State.StandsOrSpoils, sameLine, call, ldt] using
      State.nextCode_line (s := s.attachedTo i l v) i l v

/-- A sender not FREE is left alone (R174). -/
theorem State.settleSenders_sender (busy : (s.sender i).state ≠ .free) : s.settleSenders.sender i = s.sender i :=
  State.settleSenders_keeps (P := fun t => t.sender i = s.sender i) (fun _ h => h)
    (fun {u j _} h free _ => by
      have apart : i ≠ j := fun e => busy (by rw [← h, e, free])
      rw [State.grant_sender i apart, h]) rfl

/-- The grants leave a call and its dial tone alone, or spoil the call (R46, R174, R176). -/
theorem State.settleSenders_line (l : Line) : s.StandsOrSpoils s.settleSenders l := by
  refine State.settleSenders_keeps (P := fun t => s.StandsOrSpoils t l) (fun _ h => h) (fun {u i m} h _ wants => ?_)
    (.inl (.refl s l))
  by_cases hm : l = m
  · subst hm
    rcases h with same | ⟨-, spoilt⟩
    · rcases State.grant_line (s := u) (i := i) (l := l) with again | spoils
      · exact .inl (same.trans again)
      · rw [same.1] at spoils
        exact .inr spoils
    · have spoiled : (u.call l).spoiled = true := by rw [spoilt]; simp [CallRecord.spoilt]
      rw [State.unwanted (State.unsendable_of_spoiled spoiled)] at wants
      cases wants
  · have apart := sameLine_grant u i hm
    rcases h with same | ⟨spoils, spoilt⟩
    · exact .inl (same.trans apart)
    · exact .inr ⟨spoils, apart.1.trans spoilt⟩

/-- The line of an attached sender is left alone (R173). -/
theorem State.settleSenders_attached (busy : (s.sender i).state ≠ .free) (on : (s.sender i).trunk = (s.call l).trunk) :
    sameLine s s.settleSenders l := by
  have kept := State.settleSenders_keeps (P := fun t => t.sender i = s.sender i ∧ sameLine s t l) (fun _ h => h)
    (fun {u j m} h free wants => by
      obtain ⟨sender, same⟩ := h
      have apart : i ≠ j := fun e => busy (by rw [← sender, e, free])
      have other : l ≠ m := by
        rintro rfl
        rw [State.unwanted_of_attached (i := i) (by rw [sender, same.1, on])] at wants
        cases wants
      exact ⟨by rw [State.grant_sender i apart, sender], same.trans (sameLine_grant u j other)⟩) ⟨rfl, .refl s l⟩
  exact kept.2

/-- An attached sender's trunk keeps its session (R172, R173). -/
theorem State.settleSenders_session (busy : (s.sender i).state ≠ .free) (on : (s.sender i).trunk = some v) :
    s.settleSenders.session v = s.session v := by
  have kept := State.settleSenders_keeps (P := fun t => t.sender i = s.sender i ∧ t.session v = s.session v) (fun _ h => h)
    (fun {u j m} h free wants => by
      obtain ⟨sender, session⟩ := h
      have apart : i ≠ j := fun e => busy (by rw [← sender, e, free])
      obtain ⟨-, w, -, hw, unattached, -⟩ := State.wantsSender_iff.1 wants
      have other : v ≠ w := by
        rintro rfl
        exact State.attached_eq_false.1 unattached i (by rw [sender, on])
      refine ⟨by rw [State.grant_sender i apart, sender], ?_⟩
      rw [State.grant_attached hw, State.nextCode_session j m w other]
      exact session) ⟨rfl, rfl⟩
  exact kept.2

/-- A line with nothing to send is left alone, and no sender takes it up (R173, R174). -/
theorem State.settleSenders_idle (idle : s.sendable (s.call l) = false) (i : Fin 2) (free : (s.sender i).line ≠ some l) :
    sameLine s s.settleSenders l ∧ (s.settleSenders.sender i).line ≠ some l := by
  have kept := State.settleSenders_keeps
    (P := fun t => t.ctl = s.ctl ∧ sameLine s t l ∧ (t.sender i).line ≠ some l) (fun _ h => h)
    (fun {u j m} h _ wants => by
      obtain ⟨ctl, same, line⟩ := h
      have other : l ≠ m := by
        rintro rfl
        have silent : u.sendable (u.call l) = false := by
          rw [same.1]
          simpa [State.sendable, State.released, ctl] using idle
        rw [State.unwanted silent] at wants
        cases wants
      refine ⟨by simp [ctl], same.trans (sameLine_grant u j other), ?_⟩
      by_cases hij : i = j
      · subst hij
        obtain ⟨-, w, -, hw, -⟩ := State.wantsSender_iff.1 wants
        rw [State.grant_attached hw]
        rcases State.nextCode_senderLine (s := u.attachedTo i m w) i m w with same | none_
        · rw [same, State.attachedTo, State.setSender_sender, if_pos rfl]
          exact fun e => other (Option.some.inj e).symm
        · simp [none_]
      · rw [State.grant_sender i hij]
        exact line) ⟨rfl, .refl s l, free⟩
  exact kept.2

/-- From `s` to `t` trunk `v` rests: its session, its seize output and its pairs stand, and no sender joins it. -/
def State.TrunkRests (s t : State) (v : Trunk) : Prop :=
  t.session v = s.session v ∧ t.sup.seize[v] = s.sup.seize[v] ∧ (∀ m, t.closed m v = s.closed m v) ∧
    ∀ i, (t.sender i).trunk = some v → (s.sender i).trunk = some v

/-- The grants leave alone a trunk that has no ESTABLISHED session (R173). -/
theorem State.settleSenders_trunk (unestablished : ∀ ses, s.session v = some ses → ses.state ≠ .established) :
    s.TrunkRests s.settleSenders v := by
  refine State.settleSenders_keeps (P := fun t => s.TrunkRests t v) (fun _ h => h) (fun {u i l} h _ wants => ?_)
    ⟨rfl, rfl, fun _ => rfl, fun _ h => h⟩
  obtain ⟨session, seize, closed, senders⟩ := h
  obtain ⟨-, w, ses, on, -, opened, -, established⟩ := State.wantsSender_iff.1 wants
  have apart : v ≠ w := by
    rintro rfl
    exact unestablished ses (session ▸ opened) established
  rw [State.grant_attached on]
  refine ⟨(State.nextCode_session i l w apart).trans session, ?_, fun m => ?_, fun j hj => ?_⟩
  · exact (State.nextCode_trunks (s := u.attachedTo i l w) i l w apart on l).1.trans seize
  · exact (State.nextCode_trunks (s := u.attachedTo i l w) i l w apart on m).2.trans (closed m)
  · by_cases hji : j = i
    · subst hji
      rcases State.nextCode_trunk (s := u.attachedTo j l w) j l w j with same | ⟨-, none_⟩
      · rw [same, State.attachedTo, State.setSender_sender, if_pos rfl] at hj
        exact absurd (Option.some.inj hj).symm apart
      · rw [none_] at hj
        cases hj
    · rw [State.nextCode_sender i l w hji, State.attachedTo, State.setSender_sender, if_neg hji] at hj
      exact senders j hj

theorem State.settleSenders_joins {m : Line} (joined : s.closed m v = true) : s.settleSenders.closed m v = true :=
  State.settleSenders_keeps (P := fun t => t.closed m v = true) (fun _ h => h)
    (fun {u i l} h _ wants => by
      obtain ⟨-, w, -, on, -⟩ := State.wantsSender_iff.1 wants
      rw [State.grant_attached on]
      exact State.nextCode_joins i l w h) joined
end
end
end Sys2Proof.Machine
end

section
/-! Code boundaries: what a code boundary plays, connects, spoils and detaches (R56, R57, R59, R176, R177, R180). -/

namespace Sys2Proof.Machine
open Sys2Proof

section
variable {s : State} {i : Fin 2} {l : Line} {v : Trunk}

/-! ## The three steps of a code boundary -/

theorem State.codeBoundary_entry (line : (s.sender i).line = some l) (trunk : (s.sender i).trunk = some v)
    (source : (s.sender i).source = some .entry) : s.codeBoundary i = (s.removeHead l).nextCode i l v := by
  unfold State.codeBoundary
  simp [line, trunk, source]

theorem State.codeBoundary_blockEnd (line : (s.sender i).line = some l) (trunk : (s.sender i).trunk = some v)
    (source : (s.sender i).source = some (.identity 5)) : s.codeBoundary i = (s.identityEnded l).nextCode i l v := by
  unfold State.codeBoundary
  simp [line, trunk, source]

theorem State.codeBoundary_within (line : (s.sender i).line = some l) (trunk : (s.sender i).trunk = some v)
    (entry : (s.sender i).source ≠ some .entry) (ends : (s.sender i).source ≠ some (.identity 5)) :
    s.codeBoundary i = s.nextCode i l v := by
  unfold State.codeBoundary
  simp [line, trunk, entry, ends]

theorem State.nextCode_identity (unidentified : (s.call l).identitySent = false) {p : Nat}
    (source : (s.sender i).source = some (.identity p)) :
    s.nextCode i l v = s.play i (.identity (p + 1)) (s.identityCode l (p + 1)) := by
  unfold State.nextCode
  simp [unidentified, source]

section
variable (identified : (s.call l).identitySent = true)
include identified

theorem State.nextCode_digit (able : s.sendable (s.call l) = true) {e : Entry} {rest : List Entry}
    (queue : (s.call l).queue = e :: rest) {x : Fin 10} (digit : e.kind = .digit x) :
    s.nextCode i l v = s.play i .entry (.digit x) := by
  unfold State.nextCode
  simp [identified, able, queue, digit]

theorem State.nextCode_mutilated (able : s.sendable (s.call l) = true) {e : Entry} {rest : List Entry}
    (queue : (s.call l).queue = e :: rest) (mutilated : e.kind = .mutilated) :
    s.nextCode i l v = (s.spoil l).detach i := by
  unfold State.nextCode
  simp [identified, able, queue, mutilated]

theorem State.nextCode_unsendable (unable : s.sendable (s.call l) = false) : s.nextCode i l v = s.detach i := by
  unfold State.nextCode
  simp [identified, unable]
end

/-! ## The head removed -/

/-- The record of a call whose head entry was sent (R56). -/
def CallRecord.headRemoved (c : CallRecord) : CallRecord :=
  { c with queue := c.queue.tail, firstDigitSent := true, dialTimer := c.dialTimer.halted }

/-- With another entry behind the head the removal touches the record alone (R56, R57). -/
theorem State.removeHead_eq (more : (s.call l).queue.tail ≠ []) : s.removeHead l = s.setCall l (s.call l).headRemoved := by
  unfold State.removeHead
  simp [more, CallRecord.headRemoved]

/-- With the first digit sent, sending goes on (R53, R54). -/
theorem State.sendable_headRemoved {c : CallRecord} (dialling : c.state = .dialling) (unspoiled : c.spoiled = false)
    (identified : c.identitySent = true) (more : c.queue.tail ≠ []) : s.sendable c.headRemoved = true := by
  have released : s.released c.headRemoved = true := by
    unfold State.released
    split
    · rfl
    · simp [CallRecord.headRemoved]
  simp [State.sendable, CallRecord.headRemoved, dialling, unspoiled, identified, more] at released ⊢
  exact released

/-! ## A code played -/

/-- A sender that plays a code goes on with it through the grants, and its line and trunk stand (R174, R176). -/
theorem State.play_settles (on : (s.sender i).trunk = some v) (call : (s.call l).trunk = some v) (source : Source)
    (code : Code) : ((s.play i source code).settleSenders.call l = s.call l) ∧
      (s.play i source code).settleSenders.session v = s.session v ∧
      (s.play i source code).settleSenders.sender i = { s.sender i with
        state := .tone, source := some source, code := some code, lowPhase := 0, highPhase := 0, samples := 0,
        endsAt := s.moment (toneTime s.ctl.straps.profile), output := 512 } := by
  have played : (s.play i source code).sender i = { s.sender i with
      state := .tone, source := some source, code := some code, lowPhase := 0, highPhase := 0, samples := 0,
      endsAt := s.moment (toneTime s.ctl.straps.profile), output := 512 } := by
    rw [State.play, State.setSender_sender, if_pos rfl]
  have busy : ((s.play i source code).sender i).state ≠ .free := by simp [played]
  have trunk : ((s.play i source code).sender i).trunk = some v := by rw [played]; exact on
  obtain ⟨stands, -⟩ := State.settleSenders_attached (l := l) busy (trunk.trans call.symm)
  exact ⟨stands, State.settleSenders_session busy trunk, (State.settleSenders_sender busy).trans played⟩

/-! ## The audio connection -/

/-- From `s` to `t` the audio connection of line `l` is made, if it was not: its dial tone off, and its pair closed where
its trunk has an established session for it (R57, R167). -/
def State.Connects (s t : State) (l : Line) (v : Trunk) : Prop :=
  (t.call l).audio = true ∧ ((s.call l).audio = false → t.ldt[l] = false ∧
    ∀ ses, s.session v = some ses → ses.purpose = .line l → ses.state = .established ∨ ses.state = .recallBreak →
      t.closed l v = true)

theorem State.connects_connectAudio (dialling : (s.call l).state = .dialling) (on : (s.call l).trunk = some v) :
    s.Connects (s.connectAudio l) l v := by
  refine ⟨?_, fun silent => ⟨?_, fun ses opened purpose joined => ?_⟩⟩
  · rw [State.connectAudio_call, if_pos rfl, CallRecord.connected]
    cases audio : (s.call l).audio <;> simp [dialling, audio]
  · unfold State.connectAudio
    simp [dialling, silent, on, State.toneOff]
  · have connects : s.connectAudio l = ((s.setCall l { s.call l with audio := true }).toneOff l).closePair l v := by
      unfold State.connectAudio
      simp [dialling, silent, on]
    rw [connects]
    exact (State.closePair_closed _ l l v v).2 (.inr ⟨rfl, rfl, ses, opened, purpose, joined⟩)

section
variable {t u : State} (h : s.Connects t l v)
include h

/-- The connection stands while no dial tone is turned on and no pair opened. -/
theorem State.Connects.goesOn (audio : (t.call l).audio = true → (u.call l).audio = true)
    (ldt : u.ldt[l] = true → t.ldt[l] = true) (closed : t.closed l v = true → u.closed l v = true) : s.Connects u l v := by
  obtain ⟨connected, made⟩ := h
  refine ⟨audio connected, fun silent => ?_⟩
  obtain ⟨tone, joined⟩ := made silent
  refine ⟨?_, fun ses opened purpose state => closed (joined ses opened purpose state)⟩
  by_contra on
  rw [ldt (by simpa using on)] at tone
  cases tone

theorem State.Connects.stands (stands : t.StandsOrSpoils u l) (ldt : u.ldt[l] = true → t.ldt[l] = true)
    (closed : t.closed l v = true → u.closed l v = true) : s.Connects u l v := by
  refine h.goesOn (fun on => ?_) ldt closed
  rcases stands with same | ⟨-, spoilt⟩
  · rw [same.1, on]
  · rw [spoilt, CallRecord.spoilt, CallRecord.connected]
    split
    · rfl
    · exact on

theorem State.Connects.nextCode : s.Connects (t.nextCode i l v) l v :=
  h.stands (State.nextCode_line i l v) ((State.sendsOn_nextCode i l v).ldt l) (State.nextCode_joins i l v)

theorem State.Connects.settleSenders : s.Connects t.settleSenders l v :=
  h.stands (State.settleSenders_line l) (State.sendsOn_settleSenders.ldt l) State.settleSenders_joins
end

/-! ## A sender detached -/

/-- A sender that detaches from a line with nothing to send is not granted to it again (R173, R182). -/
theorem State.detach_settles (idle : s.sendable (s.call l) = false) :
    sameLine s (s.detach i).settleSenders l ∧ ((s.detach i).settleSenders.sender i).line ≠ some l := by
  have call : (s.detach i).call = s.call := by funext m; simp [State.call]
  have detached : sameLine s (s.detach i) l := sameLine_of_fields (by simp) (by simp)
  have unable : (s.detach i).sendable ((s.detach i).call l) = false := by
    rw [call]
    exact idle
  obtain ⟨same, line⟩ := State.settleSenders_idle unable i (by simp [State.detach, Sender.freed])
  exact ⟨detached.trans same, line⟩
end
end Sys2Proof.Machine
end

section
/-! Bursts and gaps: their samples, their ends, and what is played next (R56, R57, R59, R176 to R185). -/

namespace Sys2Proof.Machine
open Sys2Proof

/-! ## Samples -/

theorem quarterSine_bounds (k : Nat) : 0 ≤ quarterSine.getD k 0 ∧ quarterSine.getD k 0 ≤ 127 := by
  have entries : ∀ v ∈ quarterSine, 0 ≤ v ∧ v ≤ 127 := by decide
  rw [List.getD_eq_getElem?_getD]
  cases h : quarterSine[k]? with
  | none => simp
  | some v => exact entries v (List.mem_of_getElem? h)

theorem sine_bounds (k : Nat) : -127 ≤ sine k ∧ sine k ≤ 127 := by
  unfold sine
  dsimp only
  generalize (if k % 128 ≤ 64 then k % 128 else 128 - k % 128) = j
  obtain ⟨low, high⟩ := quarterSine_bounds j
  split <;> omega

/-- The output code does not wrap (R185). -/
theorem outputCode_toNat (low high : BitVec 16) : ((outputCode low high).toNat : Int) =
    (3 * sine (low.toNat / 256) + 4 * sine (high.toNat / 256)).fdiv 2 + 512 := by
  have lowSine := sine_bounds (low.toNat / 256)
  have highSine := sine_bounds (high.toNat / 256)
  rw [outputCode, BitVec.toNat_ofInt, Int.fdiv_eq_ediv_of_nonneg _ (by decide)]
  omega

/-- A phase raised by some increments, as a number (R184). -/
theorem raised_toNat (phase inc : BitVec 16) (k : Nat) :
    (phase + BitVec.ofNat 16 k * inc).toNat = (phase.toNat + k * inc.toNat) % 65536 := by
  simp [Nat.add_mod, Nat.mul_mod]

/-- A phase that the samples up to the last one formed have raised from 0 is, at sample `j`, `j` increments (R184). -/
theorem raised_of_begun {phase inc samples j : Nat} (formed : samples ≤ j) (begun : phase = (samples - 1) * inc % 65536) :
    (phase + (j - (samples - 1)) * inc) % 65536 = j * inc % 65536 := by
  have whole : (samples - 1) + (j - (samples - 1)) = j := by omega
  rw [begun, Nat.mod_add_mod, ← Nat.add_mul, whole]

theorem State.moment_advance (s : State) (w d : Nat) : (s.advance w).moment d = max s.now w + 64 * d := by
  rw [State.moment, milli, Nat.mul_comm]
  rfl

section
variable {s : State} {w : Nat} {i : Fin 2} (run : s.running = true)
include run

theorem exec_toneSample {code : Code} (tone : (s.sender i).state = .tone) (coded : (s.sender i).code = some code) :
    exec (.toneSample w i) s = .next
      (match (s.sender i).sampleAt s.ctl.straps.profile (max s.now w) with
      | some j => (s.advance w).setSender i ((s.sender i).form code j)
      | none => s.advance w) := by
  have acts : exec (.toneSample w i) s = execToneSample w i s := rfl
  rw [acts, execToneSample, State.act_running w _ run]
  refine congrArg _ ?_
  have sender : (s.advance w).sender i = s.sender i := rfl
  simp only [sender, tone, coded, State.advance_now, State.advance_ctl]
  cases (s.sender i).sampleAt s.ctl.straps.profile (max s.now w) <;> rfl

theorem exec_burstEnd (tone : (s.sender i).state = .tone) (due : (s.sender i).endsAt ≤ max s.now w) :
    exec (.burstEnd w i) s = .next ((s.advance w).setSender i { s.sender i with
      state := .gap, endsAt := (s.advance w).moment (toneTime s.ctl.straps.profile), output := 512 }) :=
  (State.act_running w _ run).trans (congrArg _ (if_pos ⟨tone, due⟩))

theorem exec_gapEnd (gap : (s.sender i).state = .gap) (due : (s.sender i).endsAt ≤ max s.now w) :
    exec (.gapEnd w i) s = .next (((s.advance w).codeBoundary i).settleSenders) :=
  (State.act_running w _ run).trans (congrArg _ (if_pos ⟨gap, due⟩))

theorem exec_recallSilenceEnd {l : Line} (silent : (s.sender i).state = .recallSilence)
    (due : (s.sender i).endsAt ≤ max s.now w) (line : (s.sender i).line = some l) :
    exec (.recallSilenceEnd w i) s = .next ((((s.advance w).removeHead l).codeBoundary i).settleSenders) := by
  have acts : exec (.recallSilenceEnd w i) s = execRecallSilenceEnd w i s := rfl
  rw [acts, execRecallSilenceEnd, State.act_running w _ run]
  refine congrArg _ ?_
  have sender : (s.advance w).sender i = s.sender i := rfl
  simp only [sender, silent, line, State.advance_now, due, and_self, if_true]

end

/-! ## The digit behind the head -/

/-- With the head removed and a DIGIT next, the sender plays it, and the grants leave it and its line alone (R56, R176). -/
theorem State.headRemoved_plays {s : State} {i : Fin 2} {l : Line} {v : Trunk} (on : (s.sender i).trunk = some v)
    (dialling : (s.call l).state = .dialling) (trunk : (s.call l).trunk = some v) (unspoiled : (s.call l).spoiled = false)
    (identified : (s.call l).identitySent = true) {e d : Entry} {rest : List Entry} (queue : (s.call l).queue = e :: d :: rest)
    {x : Fin 10} (digit : d.kind = .digit x) {t : State} (settled : ((s.removeHead l).nextCode i l v).settleSenders = t) :
    (t.call l).queue = d :: rest ∧ (t.call l).firstDigitSent = true ∧ (t.sender i).state = .tone ∧
      (t.sender i).source = some .entry ∧ (t.sender i).code = some (.digit x) ∧ (t.sender i).trunk = some v ∧
      t.session v = s.session v := by
  have more : (s.call l).queue.tail ≠ [] := by simp [queue]
  have call : (s.removeHead l).call l = (s.call l).headRemoved := by simp [State.removeHead_eq more]
  have able : (s.removeHead l).sendable ((s.removeHead l).call l) = true := by
    rw [call]
    exact State.sendable_headRemoved dialling unspoiled identified more
  have plays : (s.removeHead l).nextCode i l v = (s.removeHead l).play i .entry (.digit x) :=
    State.nextCode_digit (by rw [call]; exact identified) able (e := d) (rest := rest)
      (by rw [call, CallRecord.headRemoved, queue]; rfl) digit
  rw [plays] at settled
  have sender : (s.removeHead l).sender i = s.sender i := by simp [State.sender]
  obtain ⟨stands, session, played⟩ := State.play_settles (s := s.removeHead l) (i := i) (l := l) (v := v)
    (by rw [sender]; exact on) (by rw [call]; exact trunk) .entry (.digit x)
  rw [settled] at stands session played
  have opened : (s.removeHead l).session v = s.session v := by simp [State.removeHead_eq more]
  rw [stands, played, session, call, sender, opened, CallRecord.headRemoved, queue]
  exact ⟨rfl, rfl, rfl, rfl, rfl, on, rfl⟩

/-- Settles O24: the samples by their phases, the end of a burst, and the entry played after a recall silence. -/
theorem burstsSoundAndEnd : Obligations.BurstsSoundAndEnd := by
  unfold Obligations.BurstsSoundAndEnd
  refine ⟨fun s w i code run tone coded => ?_, fun s w i run due => ⟨fun tone => ?_, ?_⟩⟩
  · intro n x here
    have sampled := exec_toneSample (w := w) run tone coded
    have is_here (j : Nat) : x.sampleAt s.ctl.straps.profile (max s.now w) = some j ↔ here j := by
      rw [Sender.sampleAt_eq_some]
      have samples : burstSamples s.ctl.straps.profile = n := rfl
      rw [samples]
      simp only [here, cell]
      omega
    refine ⟨fun j hj => ?_, fun none_ => ?_⟩
    · intro raised low high
      have lowPhase : (x.phasesAt code j).1.toNat = low := raised_toNat _ _ _
      have highPhase : (x.phasesAt code j).2.toNat = high := raised_toNat _ _ _
      refine ⟨raised_of_begun hj.1, raised_of_begun hj.1, outputCode (x.phasesAt code j).1 (x.phasesAt code j).2, ?_, ?_⟩
      · rw [outputCode_toNat, lowPhase, highPhase]
      · rw [sampled, (is_here j).2 hj, ← lowPhase, ← highPhase]
        simp only [BitVec.ofNat_toNat, BitVec.setWidth_eq]
        rfl
    · have missing : x.sampleAt s.ctl.straps.profile (max s.now w) = none :=
        Option.eq_none_iff_forall_ne_some.2 fun j hj => none_ j ((is_here j).1 hj)
      rw [sampled, missing]
  · rw [exec_burstEnd run tone due, State.moment_advance]
    rfl
  · intro l u e d rest silent line on source dialling trunk unspoiled identified queue x digit
    have more : ((s.advance w).call l).queue.tail ≠ [] := by
      have call : (s.advance w).call l = s.call l := rfl
      simp [call, queue]
    have boundary : ((s.advance w).removeHead l).codeBoundary i = ((s.advance w).removeHead l).nextCode i l u := by
      have sender : ((s.advance w).removeHead l).sender i = s.sender i := by simp [State.sender]
      exact State.codeBoundary_within (by rw [sender, line]) (by rw [sender, on]) (by rw [sender, source]; simp)
        (by rw [sender, source]; simp)
    obtain ⟨queued, sent, plays⟩ := State.headRemoved_plays (s := s.advance w) on dialling trunk unspoiled identified queue
      digit rfl
    refine ⟨_, exec_recallSilenceEnd run silent due line, ?_⟩
    rw [boundary]
    obtain ⟨tone, entry, coded, attached, session⟩ := plays
    exact ⟨queued, sent, tone, entry, coded, attached, by simp, by simp, by simp, session⟩

end Sys2Proof.Machine
end

section
/-! Gaps: the identity block and its end, and the head that goes (R56, R57, R59, R176, R177, R181, R182). -/

namespace Sys2Proof.Machine
open Sys2Proof

section
variable {s t q : State} {i : Fin 2} {l : Line} {v : Trunk}

theorem State.StandsOrSpoils.identitySent (h : s.StandsOrSpoils t l) :
    (t.call l).identitySent = (s.call l).identitySent := by
  rcases h with same | ⟨-, spoilt⟩
  · rw [same.1]
  · rw [spoilt, CallRecord.spoilt]
    simp

/-- The connection counts from any state with the same audio flag and the same session. -/
theorem State.Connects.of_start (h : q.Connects t l v) (audio : (q.call l).audio = (s.call l).audio)
    (session : q.session v = s.session v) : s.Connects t l v := by
  obtain ⟨connected, made⟩ := h
  exact ⟨connected, fun silent => session ▸ made (audio.trans silent)⟩

/-- What the end of a call's own entry or identity block makes of it, before any audio connection. -/
theorem State.connects_rewritten {c : CallRecord} (dialling : (s.call l).state = .dialling) (on : (s.call l).trunk = some v)
    (state : c.state = (s.call l).state) (trunk : c.trunk = (s.call l).trunk) (audio : c.audio = (s.call l).audio) :
    s.Connects ((s.setCall l c).connectAudio l) l v :=
  (State.connects_connectAudio (s := s.setCall l c) (by simpa [state] using dialling) (by simpa [trunk] using on)).of_start
    (by simpa using audio) rfl

/-! ## The identity block at its end -/

theorem State.identityEnded_call : ((s.identityEnded l).call l).identitySent = true := by
  unfold State.identityEnded
  dsimp only
  split
  · rw [State.connectAudio_call, if_pos rfl]
    simp
  · simp

theorem State.identityEnded_connects (overlap : s.ctl.straps.mode = .overlap) (dialling : (s.call l).state = .dialling)
    (on : (s.call l).trunk = some v) : s.Connects (s.identityEnded l) l v := by
  unfold State.identityEnded
  dsimp only
  rw [if_pos (by exact overlap)]
  exact State.connects_rewritten dialling on rfl rfl rfl

/-! ## The head removed and the queue spoiled or empty -/

/-- A MUTILATED entry next to the head: the call is spoiled and connected, and its sender detached (R59, R181). -/
theorem State.headRemoved_spoils (dialling : (s.call l).state = .dialling) (trunk : (s.call l).trunk = some v)
    (unspoiled : (s.call l).spoiled = false) (identified : (s.call l).identitySent = true) {e d : Entry} {rest : List Entry}
    (queue : (s.call l).queue = e :: d :: rest) (mutilated : d.kind = .mutilated)
    (settled : ((s.removeHead l).nextCode i l v).settleSenders = t) :
    (t.call l).spoiled = true ∧ (t.call l).queue = [] ∧ (t.call l).dialTimer = (s.call l).dialTimer.halted.halted ∧
      s.Connects t l v ∧ (t.sender i).line ≠ some l := by
  have more : (s.call l).queue.tail ≠ [] := by simp [queue]
  have call : (s.removeHead l).call l = (s.call l).headRemoved := by simp [State.removeHead_eq more]
  have able : (s.removeHead l).sendable ((s.removeHead l).call l) = true := by
    rw [call]
    exact State.sendable_headRemoved dialling unspoiled identified more
  have spoils : (s.removeHead l).nextCode i l v = ((s.removeHead l).spoil l).detach i :=
    State.nextCode_mutilated (by rw [call]; exact identified) able (e := d) (rest := rest)
      (by rw [call, CallRecord.headRemoved, queue]; rfl) mutilated
  have spoilt : ((s.removeHead l).spoil l).call l = (s.call l).headRemoved.spoilt := by
    rw [State.spoil_call, if_pos rfl, call]
    rfl
  have idle : ((s.removeHead l).spoil l).sendable (((s.removeHead l).spoil l).call l) = false :=
    State.unsendable_of_spoiled (by rw [spoilt, CallRecord.spoilt]; simp)
  have connects : s.Connects ((s.removeHead l).spoil l) l v := by
    refine State.Connects.of_start (q := s.removeHead l) ?_ (by rw [call]; rfl) (by rw [State.removeHead_eq more]; rfl)
    exact State.connects_rewritten (by rw [call]; exact dialling) (by rw [call]; exact trunk) rfl rfl rfl
  obtain ⟨same, line⟩ := State.detach_settles (i := i) idle
  have detached : s.Connects (((s.removeHead l).spoil l).detach i) l v :=
    connects.stands (.inl (sameLine_of_fields (by simp) (by simp))) (fun on => by simpa using on) id
  rw [spoils] at settled
  rw [settled] at same line
  rw [same.1, spoilt]
  refine ⟨?_, ?_, ?_, settled ▸ detached.settleSenders, line⟩ <;> simp [CallRecord.spoilt, CallRecord.headRemoved]

/-- The removal that empties the queue: the audio connection in EN-BLOC, and the sender detached (R57, R182). -/
theorem State.headRemoved_empties (dialling : (s.call l).state = .dialling) (trunk : (s.call l).trunk = some v)
    (unspoiled : (s.call l).spoiled = false) (identified : (s.call l).identitySent = true) {e : Entry}
    (queue : (s.call l).queue = [e]) (settled : ((s.removeHead l).nextCode i l v).settleSenders = t) :
    (t.call l).queue = [] ∧ (t.call l).firstDigitSent = true ∧ (t.call l).spoiled = false ∧
      (s.ctl.straps.mode = .enBloc → s.Connects t l v) ∧
      (s.ctl.straps.mode = .overlap → (t.call l).audio = (s.call l).audio ∧ t.ldt[l] = s.ldt[l]) ∧
      (t.sender i).line ≠ some l := by
  have last : (s.call l).queue.tail = [] := by simp [queue]
  have enBloc (mode : s.ctl.straps.mode = .enBloc) :
      s.removeHead l = (s.setCall l (s.call l).headRemoved).connectAudio l := by
    unfold State.removeHead
    simp [last, mode, CallRecord.headRemoved]
  have overlap (mode : s.ctl.straps.mode = .overlap) : s.removeHead l = s.setCall l (s.call l).headRemoved := by
    unfold State.removeHead
    simp [mode, CallRecord.headRemoved]
  have reads : ((s.removeHead l).call l).queue = [] ∧ ((s.removeHead l).call l).firstDigitSent = true ∧
      ((s.removeHead l).call l).spoiled = false ∧ ((s.removeHead l).call l).identitySent = true := by
    cases mode : s.ctl.straps.mode with
    | enBloc =>
      rw [enBloc mode, State.connectAudio_call, if_pos rfl]
      simp [CallRecord.headRemoved, last, unspoiled, identified]
    | overlap =>
      rw [overlap mode]
      simp [CallRecord.headRemoved, last, unspoiled, identified]
  obtain ⟨empty, sent, clean, identity⟩ := reads
  have idle : (s.removeHead l).sendable ((s.removeHead l).call l) = false := by simp [State.sendable, empty, identity]
  obtain ⟨same, line⟩ := State.detach_settles (i := i) idle
  rw [State.nextCode_unsendable identity idle] at settled
  rw [settled] at same line
  refine ⟨by rw [same.1, empty], by rw [same.1, sent], by rw [same.1, clean], fun mode => ?_, fun mode => ?_, line⟩
  · have connects : s.Connects (s.removeHead l) l v := by
      rw [enBloc mode]
      exact State.connects_rewritten dialling trunk rfl rfl rfl
    have detached : s.Connects ((s.removeHead l).detach i) l v :=
      connects.stands (.inl (sameLine_of_fields (by simp) (by simp))) (fun on => by simpa using on) id
    exact settled ▸ detached.settleSenders
  · obtain ⟨call, ldt⟩ := same
    rw [call, ldt, overlap mode]
    simp [CallRecord.headRemoved]
end

/-- Settles O25: by what has ended, the identity block or an entry, and by what stands next in the queue. -/
theorem gapEndPlaysTheNextCode : Obligations.GapEndPlaysTheNextCode := by
  unfold Obligations.GapEndPlaysTheNextCode
  intro s w i l u run gap due line on dialling trunk unspoiled connected parted
  have ended : exec (.gapEnd w i) s = .next (((s.advance w).codeBoundary i).settleSenders) := exec_gapEnd run gap due
  have removed (source : (s.sender i).source = some .entry) :
      (s.advance w).codeBoundary i = ((s.advance w).removeHead l).nextCode i l u :=
    State.codeBoundary_entry line on source
  refine ⟨fun p one four source unidentified => ?_, fun source => ?_, fun e d rest x source identified queue digit => ?_,
    fun e d rest source identified queue mutilated => ?_, fun e source identified queue => ?_⟩
  · have within_ : (s.advance w).codeBoundary i = (s.advance w).play i (.identity (p + 1)) ((s.advance w).identityCode l (p + 1)) := by
      have five : (s.sender i).source ≠ some (.identity 5) := by
        rw [source]
        simp only [ne_eq, Option.some.injEq, Source.identity.injEq]
        omega
      have entry : (s.sender i).source ≠ some .entry := by simp [source]
      exact (State.codeBoundary_within (s := s.advance w) line on entry five).trans (State.nextCode_identity (s := s.advance w) unidentified source)
    obtain ⟨call, -, sender⟩ := State.play_settles (s := s.advance w) on trunk (.identity (p + 1))
      ((s.advance w).identityCode l (p + 1))
    have code : (s.advance w).identityCode l (p + 1) = if p = 4 then .b else .digit (Fin.ofNat 10
        (if p = 1 then s.ctl.straps.shelf.val else if p = 2 then s.slot.val else l.val)) := by
      interval_cases p <;> rfl
    refine ⟨_, ended, ?_, ?_⟩
    · rw [within_]
      exact call
    · rw [within_, sender, code, State.moment_advance]
      rfl
  · have boundary : (s.advance w).codeBoundary i = ((s.advance w).identityEnded l).nextCode i l u :=
      State.codeBoundary_blockEnd line on source
    refine ⟨_, ended, ?_, fun overlap => ?_, by simp, by simp, by simp⟩
    · rw [(State.settleSenders_line l).identitySent, boundary, (State.nextCode_line i l u).identitySent,
        State.identityEnded_call]
    · rw [boundary]
      exact (State.identityEnded_connects (s := s.advance w) overlap dialling trunk).nextCode.settleSenders
  · obtain ⟨queued, sent, tone, entry, coded, -⟩ := State.headRemoved_plays (s := s.advance w) on dialling trunk unspoiled
      identified queue digit rfl
    rw [removed source] at ended
    exact ⟨_, ended, queued, sent, tone, entry, coded, by simp, by simp, by simp⟩
  · obtain ⟨spoilt, empty, timer, connects, free⟩ := State.headRemoved_spoils (s := s.advance w) (i := i) dialling trunk
      unspoiled identified queue mutilated rfl
    rw [removed source] at ended
    refine ⟨_, ended, spoilt, empty, timer.trans ?_, connects, free, by simp, by simp, by simp⟩
    have call : (s.advance w).call l = s.call l := rfl
    rw [call]
    cases (s.call l).dialTimer <;> simp [DialTimer.halted]
  · obtain ⟨empty, sent, clean, enBloc, overlap, free⟩ := State.headRemoved_empties (s := s.advance w) (i := i) dialling trunk
      unspoiled identified queue rfl
    rw [removed source] at ended
    exact ⟨_, ended, empty, sent, clean, enBloc, overlap, free, by simp, by simp, by simp⟩

end Sys2Proof.Machine
end

section
/-! Settling: what the Hunt Unit's judgement and the grants leave of a line and of a trunk (R132, R134, R147, R173). -/

namespace Sys2Proof.Machine
open Sys2Proof

/-- The record of a HUNTING call that takes trunk `v` (R52, R153). -/
def CallRecord.takes (c : CallRecord) (v : Trunk) : CallRecord :=
  { c with state := .seizing, trunk := some v, huntTimer := none }

section
variable {s : State}

/-- A raised count changes no field of an entry but the counts (R125). -/
theorem State.raiseCount_entry (v u : Trunk) :
    (s.raiseCount v).entry u = { s.entry u with seizures := ((s.raiseCount v).entry u).seizures } := by
  have halved (w : Trunk) : { (halvedCounts s.view.entries)[w] with seizures := (s.entry w).seizures } = s.entry w := by
    simp [halvedCounts, State.entry]
  have kept (entries : Vector TrunkEntry 8) (same : ∀ w : Trunk, { entries[w] with seizures := (s.entry w).seizures } = s.entry w) :
      (entries.set v { entries[v] with seizures := (entries[v]).seizures + 1 })[u] = { s.entry u with
        seizures := ((entries.set v { entries[v] with seizures := (entries[v]).seizures + 1 })[u]).seizures } := by
    by_cases hu : u = v
    · subst hu
      rw [← same u]
      simp
    · have apart : v.val ≠ u.val := fun e => hu (Fin.ext e.symm)
      rw [← same u]
      simp [Vector.getElem_set_ne _ _ apart]
  unfold State.raiseCount
  dsimp only
  split
  · exact kept _ halved
  · exact kept _ fun _ => rfl

/-- The home trunk taken in ISOLATED for the head line, which is HUNTING (R147). -/
def State.TakesHome (s : State) (m : Line) : Prop :=
  s.ctl.station = .isolated ∧ s.hunt.queue.head? = some m ∧ (s.call m).state = .hunting ∧ s.homeOpen = true ∧
    s.judge = (((s.makeOwn s.slot (some m)).raiseCount s.slot).unqueue m).seizeForLine s.slot m

/-- The Hunt Unit's judgement takes the home trunk for the head line, or changes the transmit queue, the claim and the
probe intervals alone (R132, R134, R137, R147). -/
theorem State.judge_takesHome (s : State) : (∃ m, s.TakesHome m) ∨
    (s.judge.calls = s.calls ∧ s.judge.hunt.queue = s.hunt.queue ∧ s.judge.view = s.view ∧
      s.judge.sup.sessions = s.sup.sessions ∧ s.judge.sup.seize = s.sup.seize ∧ s.judge.sup.points = s.sup.points ∧
      s.judge.senders = s.senders) := by
  by_cases active : s.ctl.station = .active
  · have judged : s.judge = s.judgeActive := by simp [State.judge, active]
    exact .inr (by simp [judged])
  · by_cases isolated : s.ctl.station = .isolated
    · have judged : s.judge = s.judgeIsolated := by simp [State.judge, isolated]
      unfold State.judgeIsolated at judged
      split at judged
      · rename_i m rest queue
        split at judged
        · exact .inl ⟨m, isolated, by simp [queue], ‹_ ∧ _›.1, ‹_ ∧ _›.2, judged⟩
        · exact .inr (by simp [judged])
      · exact .inr (by simp [judged])
    · have judged : s.judge = s := by
        unfold State.judge
        split
        · exact absurd ‹_› active
        · exact absurd ‹_› isolated
        · rfl
      exact .inr (by simp [judged])

section
variable {m : Line} (h : s.TakesHome m)
include h

theorem State.TakesHome.call (l : Line) : s.judge.call l = if l = m then (s.call m).takes s.slot else s.call l := by
  obtain ⟨-, -, -, -, judged⟩ := h
  have call (n : Line) : (((s.makeOwn s.slot (some m)).raiseCount s.slot).unqueue m).call n = s.call n := by
    simp [State.call]
  rw [judged, State.seizeForLine_call, call, call]
  rfl

theorem State.TakesHome.queue : s.judge.hunt.queue = s.hunt.queue.filter (· ≠ m) := by
  obtain ⟨-, -, -, -, judged⟩ := h
  simp [judged, State.unqueue]

theorem State.TakesHome.session (u : Trunk) : s.judge.session u =
    if u = s.slot then some (s.newSession (.line m)) else s.session u := by
  obtain ⟨-, -, -, -, judged⟩ := h
  have taken : s.judge.session u = ((((s.makeOwn s.slot (some m)).raiseCount s.slot).unqueue m).seizeTrunk s.slot
      (.line m)).session u := by
    rw [judged]
    rfl
  have before : (((s.makeOwn s.slot (some m)).raiseCount s.slot).unqueue m).session u = s.session u := by
    simp [State.session]
  have fresh : (((s.makeOwn s.slot (some m)).raiseCount s.slot).unqueue m).newSession (.line m) = s.newSession (.line m) := by
    simp [State.newSession, State.after, State.scanTime]
  rw [taken, State.seizeTrunk_session, before, fresh]

theorem State.TakesHome.trunks (u : Trunk) : s.judge.sup.seize[u] = (if u = s.slot then true else s.sup.seize[u]) ∧
    (∀ l, s.judge.closed l u = s.closed l u) ∧ s.judge.senders = s.senders := by
  obtain ⟨-, -, -, -, judged⟩ := h
  refine ⟨?_, fun l => ?_, by simp⟩
  · simp [judged, State.seizeForLine, State.seizeTrunk]
  · simp [State.closed]

theorem State.TakesHome.entry (u : Trunk) : (s.judge.entry u).retiredBy = (s.entry u).retiredBy ∧
    (s.judge.entry u).failures = (s.entry u).failures ∧ (s.judge.entry u).freeSince = (s.entry u).freeSince ∧
    (s.judge.entry u).holding = (if u = s.slot then .own (some m) else (s.entry u).holding) := by
  obtain ⟨-, -, -, -, judged⟩ := h
  have taken : s.judge.entry u = ((s.makeOwn s.slot (some m)).raiseCount s.slot).entry u := by
    rw [judged]
    simp [State.entry]
  rw [taken, State.raiseCount_entry]
  by_cases hu : u = s.slot
  · subst hu; simp [State.makeOwn]
  · simp [State.makeOwn, hu]

theorem State.TakesHome.unretired : (s.entry s.slot).retiredBy ≠ some s.slot ∧ (s.entry s.slot).holding = .free := by
  obtain ⟨-, -, -, opens, -⟩ := h
  simp only [State.homeOpen, State.retiredBySelf, Bool.and_eq_true, decide_eq_true_eq, Bool.not_eq_true',
    decide_eq_false_iff_not] at opens
  exact ⟨opens.1.1.1.2, opens.1.1.1.1.2⟩
end

/-- Settling leaves a call that is not DIALLING as it is, in its place in the hunt queue, or takes the home trunk for it
in ISOLATED, where it was at the head (R134, R147, R148). -/
theorem State.settle_line (s : State) (l : Line) (undialled : (s.call l).state ≠ .dialling) : s.settle.ldt[l] = s.ldt[l] ∧
    ((s.settle.call l = s.call l ∧ (s.settle.hunt.queue = s.hunt.queue ∨
        ∃ m, m ≠ l ∧ s.hunt.queue.head? = some m ∧ s.settle.hunt.queue = s.hunt.queue.filter (· ≠ m))) ∨
      (s.TakesHome l ∧ s.settle.call l = (s.call l).takes s.slot ∧
        s.settle.hunt.queue = s.hunt.queue.filter (· ≠ l))) := by
  have judged : s.settle = s.judge.settleSenders := rfl
  have queue : s.settle.hunt.queue = s.judge.hunt.queue := by simp [judged]
  have settled (waits : (s.judge.call l).state ≠ .dialling) : s.settle.ldt[l] = s.ldt[l] ∧
      s.settle.call l = s.judge.call l := by
    obtain ⟨call, ldt⟩ := sameLine_settleSenders s.judge waits
    exact ⟨by rw [judged, ldt]; simp, by rw [judged, call]⟩
  rcases s.judge_takesHome with ⟨m, taken⟩ | ⟨calls, stands, -⟩
  · by_cases hm : l = m
    · subst hm
      have call : s.judge.call l = (s.call l).takes s.slot := by rw [taken.call, if_pos rfl]
      obtain ⟨ldt, same⟩ := settled (by rw [call]; simp [CallRecord.takes])
      exact ⟨ldt, .inr ⟨taken, same.trans call, queue.trans taken.queue⟩⟩
    · have call : s.judge.call l = s.call l := by rw [taken.call, if_neg hm]
      obtain ⟨ldt, same⟩ := settled (by rw [call]; exact undialled)
      exact ⟨ldt, .inl ⟨same.trans call, .inr ⟨m, Ne.symm hm, taken.2.1, queue.trans taken.queue⟩⟩⟩
  · have call : s.judge.call l = s.call l := by simp [State.call, calls]
    obtain ⟨ldt, same⟩ := settled (by rw [call]; exact undialled)
    exact ⟨ldt, .inl ⟨same.trans call, .inl (queue.trans stands)⟩⟩

end
end Sys2Proof.Machine
end

section
/-! Call records: calls that start, and their timers (R18, R44 to R54, R60, R138). -/

namespace Sys2Proof.Machine
open Sys2Proof

/-! ## The off-hook mark -/

/-- The off-hook mark of line `l` taken at its moment (R7). -/
def State.offHookMarked (s : State) (w : Nat) (l : Line) : State :=
  (s.advance w).setScan l { s.scanLine l with guard := .marked }

@[simp] theorem State.offHookMarked_frame (s : State) (w : Nat) (l : Line) : (s.offHookMarked w l).now = max s.now w ∧
    (s.offHookMarked w l).ctl = s.ctl ∧ (s.offHookMarked w l).lko = s.lko ∧ (s.offHookMarked w l).link = s.link ∧
    (s.offHookMarked w l).iso = s.iso := by
  simp [State.offHookMarked]

theorem State.offHookMarked_line (s : State) (w : Nat) (l m : Line) : (s.offHookMarked w l).decoder m = s.decoder m ∧
    ((s.offHookMarked w l).scanLine m).lastEdge = (s.scanLine m).lastEdge ∧
    (m ≠ l → (s.offHookMarked w l).scanLine m = s.scanLine m) := by
  by_cases hm : m = l
  · subst hm; simp [State.offHookMarked, State.decoder]
  · simp [State.offHookMarked, State.decoder, hm]

section
variable {s : State} {w start : Nat} {l : Line} (run : s.running = true) (idle : (s.call l).state = .idle)
  (closed : (s.scanLine l).loop = .closed) (guard : (s.scanLine l).guard = .running start) (due : start + 60 ≤ max s.now w / 64)
include run idle closed guard due

/-- The off-hook mark at its moment (R7, R44). -/
theorem exec_offHook : exec (.offHook w l) s = .next
    (if s.ctl.station.callsStart then ((s.offHookMarked w l).startCall l).settle else s.offHookMarked w l) := by
  have acts : exec (.offHook w l) s = execOffHook w l s := rfl
  have reads : (s.advance w).call l = s.call l ∧ (s.advance w).scanLine l = s.scanLine l := ⟨rfl, rfl⟩
  have reached : start + guardTime ≤ (s.advance w).scanTime := due
  rw [acts, execOffHook, State.act_running w _ run]
  simp only [State.offHookMark, reads, guard]
  rw [if_pos ⟨idle, closed, reached⟩]
  rfl
end

/-- The record that a call starts with, by the sending mode (R44, R47, R51). -/
theorem State.startedCall_reads (s : State) (l : Line) : (s.startedCall l).queue = [] ∧ (s.startedCall l).identitySent = false ∧
    (s.startedCall l).firstDigitSent = false ∧ (s.startedCall l).spoiled = false ∧ (s.startedCall l).overflow = false ∧
    (s.startedCall l).audio = false ∧ (s.startedCall l).pendingBlock = false ∧ (s.startedCall l).failures = 0 ∧
    (s.startedCall l).localTone = true ∧ (s.startedCall l).dialTimer = .stopped ∧ (s.startedCall l).trunk = none ∧
    (s.ctl.straps.mode = .enBloc → (s.startedCall l).state = .collecting ∧
      (s.startedCall l).firstTimer = some (s.scanTime + 20000)) ∧
    (s.ctl.straps.mode = .overlap → (s.startedCall l).state = .hunting ∧
      (s.startedCall l).huntTimer = some (s.scanTime + 10000)) := by
  unfold State.startedCall
  cases mode : s.ctl.straps.mode <;> simp [CallRecord.reset, State.after, huntTime, firstEntryTime]

/-- A call that starts is where it began when settled, or in ISOLATED and OVERLAP on the home trunk (R44, R147). -/
theorem State.startCall_settles (s : State) (l : Line) :
    ((s.startCall l).settle.call l = s.startedCall l ∨ (s.ctl.station = .isolated ∧ s.ctl.straps.mode = .overlap ∧
      (s.startCall l).settle.call l = (s.startedCall l).takes s.slot)) ∧
    (s.startCall l).settle.ldt[l] = true ∧
    (s.startCall l).settle.decoder l = (s.decoder l).takeOver (s.scanLine l).lastEdge ∧
    ∀ m, m ≠ l → (s.startCall l).settle.decoder m = s.decoder m ∧ (s.startCall l).settle.scanLine m = s.scanLine m := by
  obtain ⟨call, -, decoder, ldt⟩ := s.callStarts_startCall l
  obtain ⟨-, -, -, -, -, -, -, -, -, -, -, enBloc, overlap⟩ := s.startedCall_reads l
  have slot : (s.startCall l).slot = s.slot := by simp [State.slot]
  have undialled : ((s.startCall l).call l).state ≠ .dialling := by
    rw [call]
    cases mode : s.ctl.straps.mode with
    | enBloc => simp [enBloc mode]
    | overlap => simp [overlap mode]
  obtain ⟨tone, settled⟩ := (s.startCall l).settle_line l undialled
  have decoders (m : Line) : (s.startCall l).settle.decoder m = (s.startCall l).decoder m := by simp [State.decoder]
  refine ⟨?_, tone.trans ldt, (decoders l).trans decoder, fun m hm => ?_⟩
  · rcases settled with ⟨stands, -⟩ | ⟨⟨isolated, -, hunting, -⟩, takes, -⟩
    · exact .inl (stands.trans call)
    · refine .inr ⟨by simpa using isolated, ?_, by rw [takes, call, slot]⟩
      cases mode : s.ctl.straps.mode with
      | overlap => rfl
      | enBloc =>
        rw [call, (enBloc mode).1] at hunting
        cases hunting
  · obtain ⟨-, scan, dec, -⟩ := s.lineStands_startCall l hm
    have scanLine : (s.startCall l).settle.scanLine m = (s.startCall l).scanLine m := by simp [State.scanLine]
    exact ⟨(decoders m).trans dec, scanLine.trans scan⟩

/-- Settles O10: the call as it starts, and what settling makes of it. -/
theorem offHookStartsTheCallWhereCallsStart : Obligations.OffHookStartsTheCallWhereCallsStart := by
  unfold Obligations.OffHookStartsTheCallWhereCallsStart
  refine ⟨fun s w start l run station idle closed guard due => ?_, fun s w start l run active isolated idle closed guard due => ?_⟩
  · have starts : s.ctl.station.callsStart = true := by rcases station with e | e <;> rw [e] <;> rfl
    have begun := exec_offHook run idle closed guard due
    rw [if_pos starts] at begun
    obtain ⟨call, ldt, decoder, others⟩ := (s.offHookMarked w l).startCall_settles l
    obtain ⟨queue, identity, sent, spoiled, overflow, audio, block, failures, tone, timer, trunk, enBloc, overlap⟩ :=
      (s.offHookMarked w l).startedCall_reads l
    obtain ⟨same, lastEdge, -⟩ := s.offHookMarked_line w l l
    obtain ⟨now, ctl, -⟩ := s.offHookMarked_frame w l
    have scanTime : (s.offHookMarked w l).scanTime = max s.now w / 64 := by rw [State.scanTime, now]; rfl
    rw [same, lastEdge] at decoder
    rw [ctl, scanTime] at enBloc overlap
    have rest : (∀ m, m ≠ l → ((s.offHookMarked w l).startCall l).settle.decoder m = s.decoder m ∧
        ((s.offHookMarked w l).startCall l).settle.scanLine m = s.scanLine m) ∧
        ((s.offHookMarked w l).startCall l).settle.lko = s.lko ∧ ((s.offHookMarked w l).startCall l).settle.link = s.link ∧
        ((s.offHookMarked w l).startCall l).settle.ctl = s.ctl ∧ ((s.offHookMarked w l).startCall l).settle.iso = s.iso := by
      refine ⟨fun m hm => ?_, by simp, by simp, by simp, by simp⟩
      obtain ⟨dec, scan⟩ := others m hm
      obtain ⟨decs, -, scans⟩ := s.offHookMarked_line w l m
      exact ⟨dec.trans decs, scan.trans (scans hm)⟩
    refine ⟨_, begun, ?_⟩
    rcases call with stands | ⟨isolated, mode, takes⟩
    · rw [stands]
      exact ⟨queue, identity, sent, spoiled, overflow, audio, block, failures, tone, ldt, timer, decoder,
        fun mode => ⟨(enBloc mode).1, (enBloc mode).2, trunk⟩, fun mode => .inl ⟨(overlap mode).1, (overlap mode).2, trunk⟩, rest⟩
    · have other : s.ctl.straps.mode ≠ .enBloc := fun e => by
        have overlap : s.ctl.straps.mode = .overlap := mode
        rw [overlap] at e
        cases e
      rw [takes]
      exact ⟨queue, identity, sent, spoiled, overflow, audio, block, failures, tone, ldt, timer, decoder,
        fun mode => absurd mode other, fun _ => .inr ⟨isolated, rfl, rfl⟩, rest⟩
  · have stays : ¬ s.ctl.station.callsStart = true := by
      cases station : s.ctl.station <;> simp_all [StationState.callsStart]
    rw [exec_offHook run idle closed guard due, if_neg stays]
    rfl

end Sys2Proof.Machine
end

section
/-! Call records: entries by call state, and the timers of a call (R46 to R54, R59, R60, R138). -/

namespace Sys2Proof.Machine
open Sys2Proof

/-- The record of a COLLECTING call with a DIGIT joined (R48). -/
def State.collected (s : State) (l : Line) (e : Entry) : State :=
  s.setCall l { s.call l with
    queue := (s.call l).queue ++ [e], firstTimer := none, dialTimer := .running (s.scanTime + dialTime) }

@[simp] theorem CallRecord.spoilt_reads (c : CallRecord) : c.spoilt.state = c.state ∧ c.spoilt.spoiled = true ∧
    c.spoilt.queue = [] ∧ c.spoilt.dialTimer = c.dialTimer.halted := by
  simp [CallRecord.spoilt]

section
variable {s : State} {l : Line} {e : Entry}

/-! ## Entries -/

/-- An entry that joins the queue of a DIALLING call stays there, or spoils the call where a sender finds it at the head
(R46, R59). -/
theorem State.joinQueue_settles (dialling : (s.call l).state = .dialling) :
    ((s.joinQueue l e).settleSenders.call l).state = .dialling ∧
      ((s.joinQueue l e).settleSenders.call l = (s.joinQueue l e).call l ∨
        (((s.joinQueue l e).settleSenders.call l).spoiled = true ∧ ((s.joinQueue l e).settleSenders.call l).queue = [] ∧
          (s.call l).identitySent = true ∧ ∃ x, ((s.call l).queue ++ [e]).head? = some x ∧ x.kind = .mutilated)) := by
  have joined : ((s.joinQueue l e).call l).state = .dialling ∧ ((s.joinQueue l e).call l).queue = (s.call l).queue ++ [e] ∧
      ((s.joinQueue l e).call l).identitySent = (s.call l).identitySent := by
    simp [State.joinQueue, dialling]
  obtain ⟨state, queue, identity⟩ := joined
  rcases State.settleSenders_line (s := s.joinQueue l e) l with ⟨call, -⟩ | ⟨⟨-, -, identified, next⟩, spoilt⟩
  · exact ⟨by rw [call, state], .inl call⟩
  · rw [spoilt]
    refine ⟨by simp [state], .inr ⟨by simp, by simp, by rw [← identity, identified], ?_⟩⟩
    rw [← queue]
    exact next

section
variable (collecting : (s.call l).state = .collecting)
include collecting

theorem State.handEntry_recall (kind : e.kind = .recall) : s.handEntry l e = s := by
  unfold State.handEntry
  simp [collecting, kind]

theorem State.handEntry_mutilated (kind : e.kind = .mutilated) : s.handEntry l e = s.lockout l := by
  unfold State.handEntry
  simp [collecting, kind]

theorem State.handEntry_digit {d : Fin 10} (kind : e.kind = .digit d) : s.handEntry l e =
    if (s.call l).queue.length + 1 = 16 then ((s.collected l e).enterHunting l).settle else s.collected l e := by
  unfold State.handEntry State.collected
  simp [collecting, kind]

end

/-- A call that leaves COLLECTING is HUNTING in the hunt queue, or on the home trunk at once (R48, R50, R147). -/
theorem State.enterHunting_settles (s : State) (l : Line) : ((s.enterHunting l).settle.call l).queue = (s.call l).queue ∧
    ((s.enterHunting l).settle.call l).dialTimer = .stopped ∧ ((s.enterHunting l).settle.call l).firstTimer = none ∧
    ((((s.enterHunting l).settle.call l).state = .hunting ∧
        ((s.enterHunting l).settle.call l).huntTimer = some (s.scanTime + huntTime) ∧ l ∈ (s.enterHunting l).settle.hunt.queue) ∨
      (s.ctl.station = .isolated ∧ ((s.enterHunting l).settle.call l).state = .seizing ∧
        ((s.enterHunting l).settle.call l).trunk = some s.slot)) := by
  have call := s.enterHunting_call l l
  rw [if_pos rfl] at call
  have queue : (s.enterHunting l).hunt.queue = s.hunt.queue ++ [l] := by simp [State.enterHunting, State.queueTail]
  have undialled : ((s.enterHunting l).call l).state ≠ .dialling := by simp [call]
  rcases (s.enterHunting l).settle_line l undialled with ⟨-, ⟨stands, place⟩ | ⟨⟨isolated, -⟩, takes, -⟩⟩
  · rw [stands, call]
    refine ⟨rfl, rfl, rfl, .inl ⟨rfl, rfl, ?_⟩⟩
    rcases place with same | ⟨m, apart, -, left⟩
    · simp [same, queue]
    · simp [left, queue, apart.symm]
  · have slot : (s.enterHunting l).slot = s.slot := by simp [State.slot]
    rw [takes, call, slot]
    exact ⟨rfl, rfl, rfl, .inr ⟨by simpa using isolated, rfl, rfl⟩⟩
end

/-- Settles O14: by the call's state, and in COLLECTING by the entry's kind. -/
theorem entriesJoinTheQueueAsTheCallStateSays : Obligations.EntriesJoinTheQueueAsTheCallStateSays := by
  unfold Obligations.EntriesJoinTheQueueAsTheCallStateSays
  refine ⟨fun s l e calling => ?_, fun s l e collecting => ?_⟩
  · have handed := State.handEntry_calling (e := e) calling
    refine ⟨fun unspoiled full => ?_, fun spoiled => ?_, fun unspoiled room => ?_⟩
    · simp [handed, unspoiled, full, counted_eq]
    · simp [handed, spoiled]
    · have joins : s.handEntry l e = (s.joinQueue l e).settleSenders := by simp [handed, unspoiled, room]
      have call (timer : DialTimer) (same : timer = if s.ctl.straps.mode = .overlap ∧ (s.call l).firstDigitSent = false ∧
            (s.call l).dialTimer ≠ .expired then .running (s.now / 64 + 4000) else (s.call l).dialTimer) :
          (s.joinQueue l e).call l = { s.call l with queue := (s.call l).queue ++ [e], dialTimer := timer } := by
        subst same
        simp [State.joinQueue, State.scanTime, milli, dialTime]
      intro t timer
      have settled : t = (s.joinQueue l e).settleSenders := joins
      have joined := call timer rfl
      refine ⟨fun undialled => ?_, fun dialling => ?_, ?_⟩
      · obtain ⟨stands, -⟩ := sameLine_settleSenders (s.joinQueue l e) (m := l) (by rw [joined]; exact undialled)
        rw [settled, stands, joined]
      · obtain ⟨state, stands | spoils⟩ := State.joinQueue_settles (e := e) dialling
        · rw [settled]
          refine ⟨state, .inl ?_⟩
          rw [stands, joined]
          exact ⟨unspoiled, rfl, rfl⟩
        · rw [settled]
          exact ⟨state, .inr spoils⟩
      · rw [settled]
        simp [State.joinQueue]
  · refine ⟨State.handEntry_recall collecting, fun mutilated => ?_, fun d digit few => ?_, fun d digit last => ?_⟩
    · rw [State.handEntry_mutilated collecting mutilated, State.lockout_call, if_pos rfl]
      exact ⟨rfl, rfl, (s.lockout_lko l l).trans (if_pos rfl), (s.lockout_ldt l l).trans (if_pos rfl)⟩
    · rw [State.handEntry_digit collecting digit, if_neg few]
      rfl
    · rw [State.handEntry_digit collecting digit, if_pos last]
      obtain ⟨queue, timer, first, hunts | ⟨isolated, seizing, -⟩⟩ := (s.collected l e).enterHunting_settles l
      · exact ⟨queue.trans (by simp [State.collected]), timer, first, .inl ⟨hunts.1, hunts.2.1⟩⟩
      · exact ⟨queue.trans (by simp [State.collected]), timer, first, .inr ⟨isolated, seizing⟩⟩

end Sys2Proof.Machine
end

section
/-! Call records: calls that end in LOCKOUT at a timer, and calls that a timer sends hunting or releases (R47, R48, R51,
R53, R60, R138). -/

namespace Sys2Proof.Machine
open Sys2Proof

/-- From `s` to `t` the call of line `l` ends in LOCKOUT: its record, its outputs, its hunt entry with its claim and its
digit record (R37, R60, R131, R138); other lines, the link and Station Control stand. -/
structure State.LocksOut (s t : State) (l : Line) : Prop where
  call : t.call l = (s.call l).lockedOut
  ldt : t.ldt[l] = false
  lko : t.lko[l] = true
  queue : l ∉ t.hunt.queue
  decoder : t.decoder l = (s.decoder l).emptied
  lapses : ∀ k, s.hunt.claim = some k → k.owner = .line l → k.stage = .inFlight →
    t.hunt.claim = some { k with owner := .lapsed }
  withdrawn : ∀ k, s.hunt.claim = some k → k.owner = .line l → k.stage = .queued →
    ∀ k', t.hunt.claim = some k' → k'.owner ≠ .line l
  others : ∀ m, m ≠ l → t.decoder m = s.decoder m ∧ t.lko[m] = s.lko[m]
  frame : t.scan = s.scan ∧ t.link = s.link ∧ t.ctl = s.ctl ∧ t.iso = s.iso ∧
    t.view.presence = s.view.presence ∧ t.sup.inputs = s.sup.inputs

section
variable {s t : State} {l : Line}

theorem State.locksOut_lockout (s : State) (l : Line) : s.LocksOut (s.lockout l) l where
  call := (s.lockout_call l l).trans (if_pos rfl)
  ldt := (s.lockout_ldt l l).trans (if_pos rfl)
  lko := (s.lockout_lko l l).trans (if_pos rfl)
  queue := by
    obtain ⟨-, -, queue⟩ := s.huntDrop_disown l
    rw [(s.lockout_hunt l).1, queue]
    simp
  decoder := by
    have dropped (u : State) : (u.huntDrop l).decoder l = u.decoder l := by simp [State.decoder]
    simp [State.lockout, State.stopDecoder, dropped]
  lapses k hk owner stage := by
    obtain ⟨-, claim, -⟩ := s.huntDrop_disown l
    rw [(s.lockout_hunt l).1, claim]
    simp [State.disown, hk, owner, stage]
  withdrawn k hk owner stage k' hk' := by
    obtain ⟨-, claim, -⟩ := s.huntDrop_disown l
    rw [(s.lockout_hunt l).1, claim] at hk'
    exact State.disown_owner hk'
  others m hm := by
    obtain ⟨-, decoder, lko⟩ := (s.othersStand_lockout l).1 m hm
    exact ⟨decoder, lko⟩
  frame := by simp

/-! ## What settling makes of the claim -/

theorem State.settle_claim (s : State) : s.settle.hunt.claim = s.judge.hunt.claim := by
  have settled : s.settle.hunt = s.judge.hunt := by simp [State.settle]
  rw [settled]

theorem State.judgeIsolated_claim (s : State) : s.judgeIsolated.hunt.claim = s.hunt.claim := by
  unfold State.judgeIsolated
  split
  · split
    · simp [State.unqueue]
    · rfl
  · rfl

/-- A claim in flight stays pending as it is until its EOF (R138, R139). -/
theorem State.settle_claim_inFlight {k : Claim} (pending : s.hunt.claim = some k) (stage : k.stage = .inFlight) :
    s.settle.hunt.claim = some k := by
  rw [State.settle_claim]
  unfold State.judge
  split
  · simp [State.judgeActive, pending, stage]
  · rw [State.judgeIsolated_claim, pending]
  · exact pending

/-- A claim pending after settling is the one that was, or is made for the head line (R134, R136). -/
theorem State.settle_claim_owner {k : Claim} (pending : s.settle.hunt.claim = some k) :
    s.hunt.claim = some k ∨ ∃ m ∈ s.hunt.queue, k.owner = .line m := by
  have chosen (u : State) (same : u.hunt.queue = s.hunt.queue) (hu : u.makeChoice.hunt.claim = some k) :
      u.hunt.claim = some k ∨ ∃ m ∈ s.hunt.queue, k.owner = .line m := by
    unfold State.makeChoice at hu
    split at hu
    · rename_i m rest free queue
      split at hu
      · cases hu
        exact .inr ⟨m, by simp [← same, queue], rfl⟩
      · exact .inl hu
    · exact .inl hu
  rw [State.settle_claim] at pending
  unfold State.judge at pending
  split at pending
  · unfold State.judgeActive at pending
    split at pending
    · exact chosen s rfl pending
    · split at pending
      · exact .inl pending
      · split at pending
        · exact .inl pending
        · rcases chosen _ (by simp) pending with none_ | made
          · rw [State.withdrawClaim_claim] at none_
            cases none_
          · exact .inr made
  · rw [State.judgeIsolated_claim] at pending
    exact .inl pending
  · exact .inl pending

/-- Settling leaves a call in LOCKOUT there (R134, R148). -/
theorem State.LocksOut.settle (h : s.LocksOut t l) : s.LocksOut t.settle l := by
  have rests : (t.call l).state = .lockout := by rw [h.call]; rfl
  obtain ⟨call, ldt⟩ := sameLine_settle t (m := l) (.inl (by simp [rests])) (by simp [rests])
  have decoder (m : Line) : t.settle.decoder m = t.decoder m := by simp [State.decoder]
  have lko : t.settle.lko = t.lko := by simp
  obtain ⟨scan, link, ctl, iso, presence, inputs⟩ := h.frame
  refine ⟨call.trans h.call, ldt.trans h.ldt, ?_, fun queued => ?_, (decoder l).trans h.decoder, fun k hk owner stage => ?_,
    fun k hk owner stage k' hk' same => ?_, fun m hm => ?_, by simp [scan, link, ctl, iso, presence, inputs]⟩
  · rw [lko]; exact h.lko
  · obtain ⟨-, ⟨-, queue | ⟨m, -, -, queue⟩⟩ | ⟨-, -, queue⟩⟩ := t.settle_line l (by simp [rests])
    · exact h.queue (queue ▸ queued)
    · exact h.queue (List.mem_filter.1 (queue ▸ queued)).1
    · exact h.queue (List.mem_filter.1 (queue ▸ queued)).1
  · exact State.settle_claim_inFlight (h.lapses k hk owner stage) stage
  · rcases State.settle_claim_owner hk' with before | ⟨m, queued, owns⟩
    · exact h.withdrawn k hk owner stage k' before same
    · rw [owns] at same
      cases same
      exact h.queue queued
  · rw [decoder, lko]
    exact h.others m hm

end

/-! ## The timers at their expiry -/

/-- An expired end-of-dialling timer stays expired through the grants (R53, R59). -/
theorem State.settleSenders_expired {s : State} {l : Line} (expired : (s.call l).dialTimer = .expired) :
    (s.settleSenders.call l).state = (s.call l).state ∧ (s.settleSenders.call l).dialTimer = .expired := by
  rcases State.settleSenders_line (s := s) l with ⟨stands, -⟩ | ⟨-, spoilt⟩
  · rw [stands]
    exact ⟨rfl, expired⟩
  · rw [spoilt]
    simp [expired, DialTimer.halted]

section
variable {s : State} {w e : Nat} {l : Line} (run : s.running = true) (expired : e ≤ max s.now w / 64)
include run expired

theorem exec_firstEntryTimer (collecting : (s.call l).state = .collecting) (empty : (s.call l).queue = [])
    (timer : (s.call l).firstTimer = some e) : exec (.firstEntryTimer w l) s = .next ((s.advance w).lockout l) :=
  (State.act_running w _ run).trans (congrArg _ (if_pos ⟨collecting, empty, by
    simpa [timer, State.scanTime, milli] using due_some expired⟩))

theorem exec_huntTimer (hunting : (s.call l).state = .hunting) (timer : (s.call l).huntTimer = some e) :
    exec (.huntTimer w l) s = .next (((s.advance w).lockout l).settle) :=
  (State.act_running w _ run).trans (congrArg _ (if_pos ⟨hunting, by
    simpa [timer, State.scanTime, milli] using due_some expired⟩))

section
variable (timer : (s.call l).dialTimer = .running e)
include timer

/-- The end-of-dialling timer at its expiry, before its effect is told by the call's state (R48, R53). -/
theorem exec_endOfDialling_due : ∃ t, exec (.endOfDiallingTimer w l) s = .next t ∧
    ((s.call l).state = .collecting → t = ((s.advance w).enterHunting l).settle) ∧
    ((s.call l).state = .hunting ∨ (s.call l).state = .seizing ∨ (s.call l).state = .dialling →
      t = ((s.advance w).setCall l { s.call l with dialTimer := .expired }).settleSenders) ∧
    ((s.call l).state ≠ .collecting ∧ (s.call l).state ≠ .hunting ∧ (s.call l).state ≠ .seizing ∧
      (s.call l).state ≠ .dialling → t = s.advance w) := by
  have acts : exec (.endOfDiallingTimer w l) s = execEndOfDiallingTimer w l s := rfl
  have call : (s.advance w).call l = s.call l := rfl
  have due : (s.call l).dialTimer.due (s.advance w).scanTime = true := by
    rw [timer]
    exact decide_eq_true expired
  rw [acts, execEndOfDiallingTimer, State.act_running w _ run]
  refine ⟨_, rfl, ?_⟩
  simp only [call, due, if_true]
  cases state : (s.call l).state <;> simp
end
end

/-- Settles O16: by the timer that expires, and for the end-of-dialling timer by the call's state. -/
theorem callTimersEndOrReleaseTheCall : Obligations.CallTimersEndOrReleaseTheCall := by
  unfold Obligations.CallTimersEndOrReleaseTheCall
  refine ⟨fun s w e l run expired c which => ?_, fun s w e l run timer expired => ?_⟩
  · have locked := (s.advance w).locksOut_lockout l
    have locks : ∃ t, exec c s = .next t ∧ (s.advance w).LocksOut t l := by
      rcases which with ⟨rfl, collecting, empty, timer⟩ | ⟨rfl, hunting, timer⟩
      · exact ⟨_, exec_firstEntryTimer run expired collecting empty timer, locked⟩
      · exact ⟨_, exec_huntTimer run expired hunting timer, locked.settle⟩
    obtain ⟨t, e, call, ldt, lko, queue, decoder, lapses, withdrawn, others, frame⟩ := locks
    refine ⟨t, e, ?_, ldt, lko, queue, decoder, fun k hk owner => ⟨lapses k hk owner, withdrawn k hk owner⟩, others, frame⟩
    rw [call, CallRecord.lockedOut, counted_eq]
    rfl
  · obtain ⟨t, e, collects, calls, rests⟩ := exec_endOfDialling_due run expired timer
    have ends : (((s.advance w).setCall l { s.call l with dialTimer := .expired }).settleSenders.call l).state =
        (s.call l).state ∧
        (((s.advance w).setCall l { s.call l with dialTimer := .expired }).settleSenders.call l).dialTimer = .expired := by
      obtain ⟨state, spent⟩ := State.settleSenders_expired (l := l)
        (s := (s.advance w).setCall l { s.call l with dialTimer := .expired }) (by simp)
      exact ⟨state.trans (by simp), spent⟩
    refine ⟨t, e, fun collecting => ?_, fun waits => ?_, fun dialling => ?_, fun calling => ?_, ?_⟩
    · rw [collects collecting]
      exact (s.advance w).enterHunting_settles l
    · have undialled : (((s.advance w).setCall l { s.call l with dialTimer := .expired }).call l).state ≠ .dialling := by
        rcases waits with state | state <;> simp [state]
      rw [calls (waits.imp_right .inl), (sameLine_settleSenders _ undialled).1]
      simp
    · obtain ⟨state, spent⟩ := ends
      rw [calls (.inr (.inr dialling))]
      exact ⟨state.trans dialling, spent, by simp, by simp⟩
    · have spent : (t.call l).dialTimer = .expired := calls calling ▸ ends.2
      unfold State.released
      split
      · rfl
      · simp [spent]
    · by_cases collecting : (s.call l).state = .collecting
      · simp [collects collecting]
      · by_cases calling : (s.call l).state = .hunting ∨ (s.call l).state = .seizing ∨ (s.call l).state = .dialling
        · simp [calls calling]
        · simp only [not_or] at calling
          simp [rests ⟨collecting, calling⟩]

end Sys2Proof.Machine
end

section
/-! Trunks let go: the frame that tells of it, the entry that is left, and what settling makes of the trunk (R103, R104,
R147, R156, R160, R163). -/

namespace Sys2Proof.Machine
open Sys2Proof

/-! ## The frame to send -/

/-- The frame is queued, or waits beside the one of its key in flight (R104). -/
def TxQueue.Carries (q : TxQueue) (f : TxFrame) : Prop :=
  (∃ x ∈ q.frames, x.frame = f) ∨ (q.inFlight f.key = true ∧ ∃ x, q.waiting = some x ∧ x.frame = f)

section
variable {q : TxQueue} {f : TxFrame}

theorem TxQueue.Carries.holds (h : q.Carries f) : q.Holds f := h.imp id fun ⟨_, waits⟩ => waits

/-- A frame placed, but a CLAIM, is carried. -/
theorem TxQueue.carries_place {n : QFrame} (other : n.frame.key ≠ .claim) : (q.place n).Carries n.frame := by
  cases flies : q.inFlight n.frame.key with
  | false => exact .inl (TxQueue.place_mem flies other)
  | true =>
    have placed : q.place n = { q with waiting := some (q.waiting.elim n fun w => combine w n) } := by
      unfold TxQueue.place
      rw [if_pos flies]
      cases hf : n.frame <;> simp_all [TxFrame.key]
    rw [placed]
    refine .inr ⟨flies, _, rfl, ?_⟩
    cases q.waiting with
    | none => rfl
    | some w => exact combine_frame w other

/-- A frame of another key placed leaves it carried (R104). -/
theorem TxQueue.Carries.place (h : q.Carries f) {n : QFrame} (other : f.key ≠ n.frame.key) : (q.place n).Carries f := by
  rcases h with ⟨x, hx, rfl⟩ | ⟨flies, x, waits, rfl⟩
  · exact .inl ⟨x, TxQueue.mem_place hx other, rfl⟩
  · have grounded : ¬ q.inFlight n.frame.key = true := fun both => by
      obtain ⟨g, hg, key⟩ := TxQueue.inFlight_iff.1 flies
      obtain ⟨g', hg', key'⟩ := TxQueue.inFlight_iff.1 both
      rw [hg] at hg'
      cases hg'
      exact other (key.symm.trans key')
    refine .inr ⟨by simpa [TxQueue.inFlight] using flies, x, ?_, rfl⟩
    unfold TxQueue.place
    rw [if_neg grounded]
    split <;> exact waits

theorem TxQueue.Carries.withdraw (h : q.Carries f) {k : TxKey} (other : f.key ≠ k) : (q.withdraw k).Carries f := by
  rcases h with ⟨x, hx, rfl⟩ | ⟨flies, waits⟩
  · exact .inl ⟨x, TxQueue.mem_withdraw hx other, rfl⟩
  · refine .inr ⟨by simpa [TxQueue.inFlight] using flies, ?_⟩
    unfold TxQueue.withdraw
    split <;> exact waits
end

section
variable {s : State} {f : TxFrame} (h : s.tx.Carries f) (other : f.key ≠ .claim)
include h other

theorem State.carries_withdrawClaim : s.withdrawClaim.tx.Carries f := by
  unfold State.withdrawClaim
  split
  · exact h
  · dsimp only
    split <;> simpa using h.withdraw other

theorem State.carries_makeChoice : s.makeChoice.tx.Carries f := by
  unfold State.makeChoice
  split
  · split
    · exact h.place other
    · exact h
  · exact h

/-- The Hunt Unit and the arbiter touch no frame but the CLAIM (R136, R137). -/
theorem State.carries_settle : s.settle.tx.Carries f := by
  have judged : s.judge.tx.Carries f := by
    unfold State.judge
    split
    · unfold State.judgeActive
      split
      · exact State.carries_makeChoice h other
      · split
        · exact h
        · split
          · exact h
          · exact State.carries_makeChoice (State.carries_withdrawClaim h other) other
    · have same : s.judgeIsolated.tx = s.tx := by simp
      rw [same]
      exact h
    · exact h
  have settled : s.settle.tx = s.judge.tx := by simp [State.settle]
  rw [settled]
  exact judged

theorem State.carries_huntDrop (l : Line) : (s.huntDrop l).tx.Carries f := by
  obtain ⟨tx, -, -⟩ := s.huntDrop_disown l
  rw [tx]
  unfold State.disown
  split
  · split
    · split
      · exact State.carries_withdrawClaim h other
      · exact h
    · exact h
  · exact h
end

/-! ## The entry of a trunk let go -/

section
variable (s : State) (v u : Trunk) (cause : Cause)

theorem State.carries_place {f : TxFrame} (other : f.key ≠ .claim) : (s.place f).tx.Carries f :=
  TxQueue.carries_place (n := { frame := f, age := s.now }) other

theorem State.carries_releaseTrunk : (s.releaseTrunk v cause).tx.Carries (.release v cause) := by
  unfold State.releaseTrunk
  exact State.carries_place _ (by simp [TxFrame.key])

theorem State.carries_retireSelf : (s.retireSelf v cause).tx.Carries (.retire v cause) :=
  State.carries_place (s.setRetiredBy v (some s.slot)) (by simp [TxFrame.key])

theorem State.Carries.retireSelf {s : State} {f : TxFrame} (h : s.tx.Carries f) (other : f.key ≠ .retirement v) :
    (s.retireSelf v cause).tx.Carries f :=
  TxQueue.Carries.place h other

/-- A retirement by self makes the station's slot the retirer and starts the probe interval (R156, R163, R164). -/
theorem State.retireSelf_entry : ((s.retireSelf v cause).entry u).retiredBy = (if u = v then some s.slot else (s.entry u).retiredBy) ∧
    ((s.retireSelf v cause).entry u).failures = (s.entry u).failures ∧
    (s.retireSelf v cause).sup.probeIntervals[u] = (if u = v then s.after probeTime else s.sup.probeIntervals[u]) := by
  by_cases hu : u = v
  · subst hu; simp [State.retireSelf, State.setRetiredBy, State.after, State.scanTime]
  · simp [State.retireSelf, State.setRetiredBy, hu]

theorem State.releaseTrunk_entry : ((s.releaseTrunk v cause).entry u).retiredBy = (s.entry u).retiredBy ∧
    ((s.releaseTrunk v cause).entry u).failures = (s.entry u).failures := by
  have before (w : Trunk) : ((((s.setSeize v false).openTrunk v).abortSenders v).setSession v none).entry w = s.entry w := by
    simp [State.entry]
  rw [State.releaseTrunk, (State.place_reads _ _).1, State.freeOwn_entry, before, before]
  split
  · rename_i own
    obtain ⟨rfl, -⟩ := own
    exact ⟨rfl, rfl⟩
  · exact ⟨rfl, rfl⟩

/-- The end of a session retires its trunk where a retirement waits, and counts no failure (R160, R163). -/
theorem State.endSession_entry : ((s.endSession v cause).entry v).retiredBy =
      (if s.retireWaits v then some s.slot else (s.entry v).retiredBy) ∧
    ((s.endSession v cause).entry v).failures = (s.entry v).failures ∧
    (s.endSession v cause).tx.Carries (.release v cause) ∧
    (s.retireWaits v = true → (s.endSession v cause).tx.Carries (.retire v .maintenance)) := by
  obtain ⟨retired, failures⟩ := s.releaseTrunk_entry v v cause
  have released := s.carries_releaseTrunk v cause
  unfold State.endSession
  cases waits : s.retireWaits v with
  | false => exact ⟨by simpa using retired, by simpa using failures, by simpa using released, nofun⟩
  | true =>
    obtain ⟨by_, kept, -⟩ := (s.releaseTrunk v cause).retireSelf_entry v v .maintenance
    refine ⟨?_, ?_, ?_, fun _ => ?_⟩
    · simpa [State.slot] using by_
    · simpa using kept.trans failures
    · simpa using State.Carries.retireSelf v .maintenance released (by simp [TxFrame.key])
    · simpa using (s.releaseTrunk v cause).carries_retireSelf v .maintenance
end

/-! ## A trunk with no session, when settled -/

/-- From `s` to `t` the entry of trunk `u` keeps its holder, its retirement, its failures and its free-since. -/
def State.EntryStands (s t : State) (u : Trunk) : Prop :=
  (t.entry u).holding = (s.entry u).holding ∧ (t.entry u).retiredBy = (s.entry u).retiredBy ∧
    (t.entry u).failures = (s.entry u).failures ∧ (t.entry u).freeSince = (s.entry u).freeSince

theorem State.TrunkRests.trans {s t r : State} {u : Trunk} (h : s.TrunkRests t u) (g : t.TrunkRests r u) :
    s.TrunkRests r u := by
  obtain ⟨session, seize, closed, senders⟩ := h
  obtain ⟨session', seize', closed', senders'⟩ := g
  exact ⟨session'.trans session, seize'.trans seize, fun m => (closed' m).trans (closed m),
    fun i hi => senders i (senders' i hi)⟩

/-- A trunk with no session rests when the rest is settled, unless it is the home trunk, taken for a line (R134, R147). -/
theorem State.settle_trunk (s : State) (u : Trunk) (shut : s.session u = none) :
    (s.TrunkRests s.settle u ∧ s.EntryStands s.settle u) ∨ (u = s.slot ∧ ∃ m, s.TakesHome m) := by
  have judged : s.settle = s.judge.settleSenders := rfl
  have entry : s.settle.entry u = s.judge.entry u := by simp [judged, State.entry]
  have rests (before : s.TrunkRests s.judge u) : s.TrunkRests s.settle u := by
    refine before.trans (State.settleSenders_trunk fun ses opened => ?_)
    rw [before.1, shut] at opened
    cases opened
  have stands (before : s.EntryStands s.judge u) : s.EntryStands s.settle u := by
    rw [State.EntryStands, entry]
    exact before
  rcases s.judge_takesHome with ⟨m, taken⟩ | ⟨-, -, view, sessions, seize, -, senders⟩
  · by_cases home : u = s.slot
    · exact .inr ⟨home, m, taken⟩
    · obtain ⟨seized, closed, senders⟩ := taken.trunks u
      obtain ⟨retired, failures, since, holding⟩ := taken.entry u
      refine .inl ⟨rests ⟨?_, ?_, closed, fun i hi => ?_⟩, stands ⟨?_, retired, failures, since⟩⟩
      · rw [taken.session, if_neg home]
      · rw [seized, if_neg home]
      · simpa [State.sender, senders] using hi
      · rw [holding, if_neg home]
  · refine .inl ⟨rests ⟨?_, ?_, fun m => ?_, fun i hi => ?_⟩, stands ?_⟩
    · simp [State.session, sessions]
    · rw [seize]
    · simp [State.closed]
    · simpa [State.sender, senders] using hi
    · simp [State.EntryStands, State.entry, view]

/-- The home trunk `v` that settling takes for line `m`: seized for it, OWN, its session just opened (R147, R153). -/
theorem State.TakesHome.settled {s : State} {m : Line} {v : Trunk} (h : s.TakesHome m) (home : v = s.slot) :
    s.settle.sup.seize[v] = true ∧ s.settle.session v = some (s.newSession (.line m)) ∧
      s.settle.call m = (s.call m).takes v ∧ (s.settle.entry v).holding = .own (some m) ∧
      (s.settle.entry v).failures = (s.entry v).failures ∧ (s.settle.entry v).retiredBy = (s.entry v).retiredBy := by
  have judged : s.settle = s.judge.settleSenders := rfl
  have opened := h.session v
  rw [if_pos home] at opened
  obtain ⟨seized, -, -⟩ := h.trunks v
  obtain ⟨retired, failures, -, holding⟩ := h.entry v
  have call := h.call m
  rw [if_pos rfl, ← home] at call
  rw [if_pos home] at seized holding
  have entry : s.settle.entry v = s.judge.entry v := by simp [judged, State.entry]
  obtain ⟨session, seize, -, -⟩ := State.settleSenders_trunk (s := s.judge) (v := v) fun ses here => by
    rw [opened] at here
    cases here
    simp [State.newSession, Purpose.opensIn]
  obtain ⟨stands, -⟩ := sameLine_settleSenders s.judge (m := m) (by rw [call]; simp [CallRecord.takes])
  rw [entry, judged]
  exact ⟨seize.trans seized, session.trans opened, stands.trans call, holding, failures, retired⟩

/-- A trunk that a release has let go, and that rests after it, is let go (R160). -/
theorem State.letsGo_of_rests {s r t : State} {u : Trunk} {cause : Cause} (released : s.Releases r u) (rests : r.TrunkRests t u)
    (stands : r.EntryStands t u) (carried : t.tx.Carries (.release u cause)) (now : t.now = s.now) : s.LetsGo t u cause := by
  obtain ⟨session, seize, closed, senders⟩ := rests
  obtain ⟨holding, -, -, since⟩ := stands
  refine ⟨?_, ?_, fun l => ?_, fun i on => ?_, carried.holds, ?_, fun own => ?_⟩
  · rw [session, released.session, if_pos rfl]
  · rw [seize, released.seize, if_pos rfl]
  · rw [closed, released.closed]
    simp
  · have before := senders i on
    rw [released.sender] at before
    split at before
    · cases before
    · contradiction
  · rw [holding, released.holding]
    simp
  · rw [since, released.freeSince, if_pos ⟨rfl, own⟩, State.scanTime, State.scanTime, now]

end Sys2Proof.Machine
end

section
/-! Call records: the clear of a call (R37, R61, R160, R163). -/

namespace Sys2Proof.Machine
open Sys2Proof

section
variable {s : State} {l : Line}

theorem exec_clear {w : Nat} (run : s.running = true) (busy : (s.call l).state.inCall = true)
    (opened : (s.scanLine l).loop = .opened) (due : (s.scanLine l).lastEdge + 900 ≤ max s.now w / 64) :
    exec (.clear w l) s = .next (((s.advance w).clearCall l).settle) :=
  (State.act_running w _ run).trans (congrArg _ (if_pos ⟨busy, opened, due⟩))

theorem CallRecord.atRest_state (c : CallRecord) : c.atRest.state ≠ .hunting ∧ c.atRest.state ≠ .dialling := by
  unfold CallRecord.atRest
  cases c.pendingBlock <;> simp

/-- What a clear leaves of the line itself: its filter, its digit record and its hunt entry (R37, R61). -/
theorem State.clearCall_line (s : State) (l : Line) : (s.clearCall l).scanLine l = { s.scanLine l with guard := .off } ∧
    (s.clearCall l).decoder l = (s.decoder l).emptied ∧ l ∉ (s.clearCall l).hunt.queue ∧
    (s.clearCall l).tx = ((s.dropTrunk l).huntDrop l).tx := by
  have scanLine : ((s.dropTrunk l).huntDrop l).scanLine l = s.scanLine l := by simp [State.scanLine]
  have decoder : ((s.dropTrunk l).huntDrop l).decoder l = s.decoder l := by simp [State.decoder]
  obtain ⟨-, -, queue⟩ := (s.dropTrunk l).huntDrop_disown l
  refine ⟨?_, ?_, ?_, ?_⟩
  · simp [State.clearCall_eq, State.endGuard, State.stopDecoder, scanLine]
  · simp [State.clearCall_eq, State.endGuard, State.stopDecoder, decoder]
  · have same : (s.clearCall l).hunt.queue = ((s.dropTrunk l).huntDrop l).hunt.queue := by
      simp [State.clearCall_eq, State.endGuard, State.stopDecoder]
    rw [same, queue]
    simp
  · simp [State.clearCall_eq, State.endGuard, State.stopDecoder]

@[simp] theorem State.clearCall_inputs (s : State) (l : Line) : (s.clearCall l).sup.inputs = s.sup.inputs := by
  have dropped : (s.dropTrunk l).sup.inputs = s.sup.inputs := by
    unfold State.dropTrunk
    split <;> simp
  simp [State.clearCall_eq, dropped]

section
variable {v : Trunk} (trunk : (s.call l).trunk = some v)
include trunk

theorem State.dropTrunk_eq : s.dropTrunk l = s.endSession v .lineClear := by simp [State.dropTrunk, trunk]

theorem State.clearCall_entry : (s.clearCall l).entry v = (s.endSession v .lineClear).entry v := by
  simp [State.clearCall_eq, State.dropTrunk_eq trunk, State.entry]

/-- The trunk of a call that clears is let go (R61, R160). -/
theorem State.releases_clearCall : s.Releases (s.clearCall l) v := by
  refine (s.releases_endSession v .lineClear).of_same ?_ fun w => ?_
  · simp [State.clearCall_eq, State.dropTrunk_eq trunk]
  · simp [State.clearCall_eq, State.dropTrunk_eq trunk, State.entry]

theorem State.carries_clearCall {f : TxFrame} (other : f.key ≠ .claim) (h : (s.endSession v .lineClear).tx.Carries f) :
    (s.clearCall l).settle.tx.Carries f := by
  obtain ⟨-, -, -, tx⟩ := s.clearCall_line l
  refine State.carries_settle ?_ other
  rw [tx, State.dropTrunk_eq trunk]
  exact State.carries_huntDrop h other l

/-- A trunk that a clear lets go stays so when the rest is settled, unless it is the home trunk of an ISOLATED station
(R61, R148, R163). -/
theorem State.clearCall_letsGo (away : s.ctl.station ≠ .isolated ∨ v ≠ s.slot) :
    s.LetsGo (s.clearCall l).settle v .lineClear ∧
      ((s.clearCall l).settle.entry v).retiredBy = (if s.retireWaits v then some s.slot else (s.entry v).retiredBy) ∧
      (s.retireWaits v = true → (s.clearCall l).settle.tx.Holds (.retire v .maintenance)) ∧
      ((s.clearCall l).settle.entry v).failures = (s.entry v).failures := by
  have released := State.releases_clearCall trunk
  have slot : (s.clearCall l).slot = s.slot := by simp [State.slot]
  obtain ⟨retired, failures, release, retire⟩ := s.endSession_entry v .lineClear
  rw [← State.clearCall_entry trunk] at retired failures
  rcases (s.clearCall l).settle_trunk v (by rw [released.session, if_pos rfl]) with ⟨rests, stands⟩ | ⟨home, m, isolated, -⟩
  · obtain ⟨-, by_, failed, -⟩ := id stands
    refine ⟨State.letsGo_of_rests released rests stands ?_ (by simp), by_.trans retired, fun waits => ?_, failed.trans failures⟩
    · exact State.carries_clearCall trunk (by simp [TxFrame.key]) release
    · exact (State.carries_clearCall trunk (by simp [TxFrame.key]) (retire waits)).holds
  · rw [slot] at home
    rcases away with station | apart
    · exact absurd (by simpa using isolated) station
    · exact absurd home apart
end
end

/-- Settles O15: the line's own records, its trunk, and what stands of the rest. -/
theorem clearEndsTheCall : Obligations.ClearEndsTheCall := by
  unfold Obligations.ClearEndsTheCall
  intro s w l run busy opened due
  obtain ⟨scanLine, decoder, queue, -⟩ := (s.advance w).clearCall_line l
  have call : ((s.advance w).clearCall l).call l = (s.call l).atRest := ((s.advance w).clearCall_call l l).trans (if_pos rfl)
  obtain ⟨hunting, dialling⟩ := (s.call l).atRest_state
  obtain ⟨stands, ldt⟩ := sameLine_settle ((s.advance w).clearCall l) (m := l) (.inl (by rw [call]; exact hunting))
    (by rw [call]; exact dialling)
  have decoders : ((s.advance w).clearCall l).settle.decoder l = ((s.advance w).clearCall l).decoder l := by
    simp [State.decoder]
  have scanLines : ((s.advance w).clearCall l).settle.scanLine l = ((s.advance w).clearCall l).scanLine l := by
    simp [State.scanLine]
  have lko : ((s.advance w).clearCall l).settle.lko = ((s.advance w).clearCall l).lko := by simp
  have others := ((s.advance w).othersStand_clearCall l).trans (State.othersStand_settle _ l)
  refine ⟨_, exec_clear run busy opened due, stands.trans call, ?_, ?_, scanLines.trans scanLine, fun queued => ?_,
    decoders.trans decoder, fun u trunk away => ?_, others.1, by simp, by simp, by simp, others.2, by simp⟩
  · rw [ldt]
    exact ((s.advance w).clearCall_ldt l l).trans (if_pos rfl)
  · rw [lko]
    exact ((s.advance w).clearCall_lko l l).trans (if_pos rfl)
  · obtain ⟨-, ⟨-, same | ⟨m, -, -, left⟩⟩ | ⟨⟨-, -, waits, -⟩, -⟩⟩ :=
      ((s.advance w).clearCall l).settle_line l (by rw [call]; exact dialling)
    · exact queue (same ▸ queued)
    · exact queue (List.mem_filter.1 (left ▸ queued)).1
    · exact hunting (call ▸ waits)
  · exact State.clearCall_letsGo (s := s.advance w) trunk away

end Sys2Proof.Machine
end

section
/-! Call records: seizures that fail, counted for trunk and call (R52, R147, R156, R163). -/

namespace Sys2Proof.Machine
open Sys2Proof

/-! ## Probe intervals -/

/-- The probe interval of trunk `u` starts now (R164). -/
def State.ProbeStarts (s : State) (u : Trunk) : Prop := s.sup.probeIntervals[u] = s.after probeTime

section
variable {s : State} {u : Trunk} (h : s.ProbeStarts u)
include h

theorem State.ProbeStarts.withdrawClaim : s.withdrawClaim.ProbeStarts u := by
  unfold State.withdrawClaim
  split
  · exact h
  · rename_i c _
    dsimp only
    split
    · unfold State.probeNotMade State.probeAgain
      split
      · by_cases hu : u = c.trunk
        · simp [State.ProbeStarts, hu, State.after, State.scanTime]
        · simpa [State.ProbeStarts, hu, State.after, State.scanTime] using h
      · exact h
    · exact h

theorem State.ProbeStarts.of_same {t : State} (intervals : t.sup.probeIntervals = s.sup.probeIntervals) (now : t.now = s.now) :
    t.ProbeStarts u := by
  rw [State.ProbeStarts, intervals, State.after, State.scanTime, now]
  exact h

theorem State.ProbeStarts.huntDrop (l : Line) : (s.huntDrop l).ProbeStarts u := by
  have left : (s.setHunt { s.hunt with queue := s.hunt.queue.filter (· ≠ l) }).ProbeStarts u := h
  unfold State.huntDrop
  dsimp only
  split
  · split
    · split
      · exact left.withdrawClaim
      · exact h
    · exact h
  · exact h

theorem State.ProbeStarts.settle : s.settle.ProbeStarts u := by
  have chosen {t : State} (ht : t.ProbeStarts u) : t.makeChoice.ProbeStarts u := ht.of_same (by simp) (by simp)
  have judged : s.judge.ProbeStarts u := by
    unfold State.judge
    split
    · unfold State.judgeActive
      split
      · exact chosen h
      · split
        · exact h
        · split
          · exact h
          · exact chosen h.withdrawClaim
    · exact h.of_same (by simp) (by simp)
    · exact h
  exact judged.of_same (by simp [State.settle]) (by simp [State.settle])
end

/-! ## The trunk that fails -/

section
variable (s : State) (v : Trunk)

/-- A proceed-to-send failure counted for its trunk: the third retires it by self (R156). -/
theorem State.countFailure_entry :
    ((s.countFailure v).entry v).failures = (if 2 ≤ (s.entry v).failures then 0 else (s.entry v).failures + 1) ∧
    ((s.countFailure v).entry v).retiredBy = (if 2 ≤ (s.entry v).failures then some s.slot else (s.entry v).retiredBy) ∧
    (2 ≤ (s.entry v).failures → (s.countFailure v).ProbeStarts v ∧ (s.countFailure v).tx.Carries (.retire v .ptsFail)) := by
  unfold State.countFailure
  dsimp only
  by_cases third : 2 ≤ (s.entry v).failures
  · have not_less : ¬ (s.entry v).failures + 1 < 3 := by omega
    rw [if_neg not_less, if_pos third, if_pos third]
    obtain ⟨retired, failures, interval⟩ :=
      (s.setEntry v { s.entry v with failures := 0 }).retireSelf_entry v v .ptsFail
    rw [if_pos rfl] at retired interval
    refine ⟨failures.trans (by simp), retired, fun _ => ⟨?_, State.carries_retireSelf _ v .ptsFail⟩⟩
    rw [State.ProbeStarts, interval]
    simp [State.after, State.scanTime]
  · have less : (s.entry v).failures + 1 < 3 := by omega
    rw [if_pos less, if_neg third, if_neg third]
    exact ⟨by simp, by simp, fun e => absurd e third⟩

theorem State.carries_countFailure {f : TxFrame} (h : s.tx.Carries f) (other : f.key ≠ .retirement v) :
    (s.countFailure v).tx.Carries f := by
  unfold State.countFailure
  dsimp only
  split
  · exact h
  · exact State.Carries.retireSelf v .ptsFail (s := s.setEntry v { s.entry v with failures := 0 }) h other

/-- The trunk whose seizure fails: its failures counted, and its retirement at the third failure or where one waits
(R156, R163). -/
theorem State.trunkFails_entry {ses : Session} (opened : s.session v = some ses) :
    ((s.trunkFails v).entry v).failures = (if 2 ≤ (s.entry v).failures then 0 else (s.entry v).failures + 1) ∧
    (¬ (ses.retireAtRelease = true ∨ 2 ≤ (s.entry v).failures) →
      ((s.trunkFails v).entry v).retiredBy = (s.entry v).retiredBy) ∧
    (ses.retireAtRelease = true ∨ 2 ≤ (s.entry v).failures → ((s.trunkFails v).entry v).retiredBy = some s.slot ∧
      (s.trunkFails v).ProbeStarts v ∧
      (s.trunkFails v).tx.Carries (.retire v (if ses.retireAtRelease then .maintenance else .ptsFail))) ∧
    (s.trunkFails v).tx.Carries (.release v .ptsFail) := by
  obtain ⟨before, failures⟩ := s.releaseTrunk_entry v v .ptsFail
  obtain ⟨counted, retired, third⟩ := (s.releaseTrunk v .ptsFail).countFailure_entry v
  have slot : (s.releaseTrunk v .ptsFail).slot = s.slot := by simp [State.slot]
  rw [failures] at counted retired third
  rw [before, slot] at retired
  have release := (s.releaseTrunk v .ptsFail).carries_countFailure v (s.carries_releaseTrunk v .ptsFail)
    (by simp [TxFrame.key])
  have waits : s.retireWaits v = ses.retireAtRelease := by simp [State.retireWaits, opened]
  unfold State.trunkFails
  rw [waits]
  cases waiting : ses.retireAtRelease with
  | false =>
    simp only [Bool.false_eq_true, if_false, false_or]
    refine ⟨counted, fun few => by rw [retired, if_neg few], fun many => ⟨by rw [retired, if_pos many], third many⟩, release⟩
  | true =>
    simp only [if_true, true_or, not_true_eq_false, false_imp_iff, true_imp_iff, true_and]
    obtain ⟨by_, kept, interval⟩ := ((s.releaseTrunk v .ptsFail).countFailure v).retireSelf_entry v v .maintenance
    rw [if_pos rfl] at by_ interval
    refine ⟨kept.trans counted, ⟨by_.trans (by simp [State.slot]), ?_, State.carries_retireSelf _ v .maintenance⟩,
      State.Carries.retireSelf v .maintenance release (by simp [TxFrame.key])⟩
    rw [State.ProbeStarts, interval]
    simp [State.after, State.scanTime]
end

/-! ## The call that fails -/

section
variable (s : State) {l : Line} (seizing : (s.call l).state = .seizing)
include seizing

/-- Below the third failure the call is HUNTING again at the head of the hunt queue (R50, R52, R156). -/
theorem State.callFailed_again (few : (s.call l).failures < 2) : s.callFailed l = (s.setCall l { s.call l with
    state := .hunting, trunk := none, failures := (s.call l).failures + 1, huntTimer := s.after huntTime }).queueHead l := by
  unfold State.callFailed
  dsimp only
  rw [if_pos seizing, if_pos few]

theorem State.callFailed_lockout (many : 2 ≤ (s.call l).failures) : s.callFailed l = s.lockout l := by
  unfold State.callFailed
  dsimp only
  rw [if_pos seizing, if_neg (by omega)]

theorem State.ProbeStarts.callFailed {u : Trunk} (h : s.ProbeStarts u) : (s.callFailed l).ProbeStarts u := by
  by_cases few : (s.call l).failures < 2
  · rw [s.callFailed_again seizing few]
    exact h.of_same (by simp [State.queueHead]) (by simp [State.queueHead])
  · rw [s.callFailed_lockout seizing (by omega), State.lockout]
    exact State.ProbeStarts.huntDrop (h.of_same (by simp) (by simp)) l

theorem State.carries_callFailed {f : TxFrame} (h : s.tx.Carries f) (other : f.key ≠ .claim) :
    (s.callFailed l).tx.Carries f := by
  by_cases few : (s.call l).failures < 2
  · rw [s.callFailed_again seizing few]
    exact h
  · rw [s.callFailed_lockout seizing (by omega), (s.lockout_hunt l).2]
    exact State.carries_huntDrop h other l

/-- The line at the head of the hunt queue after the failure is the one that failed, or was in the queue. -/
theorem State.callFailed_head {m : Line} (head : (s.callFailed l).hunt.queue.head? = some m) : m = l ∨ m ∈ s.hunt.queue := by
  by_cases few : (s.call l).failures < 2
  · rw [s.callFailed_again seizing few] at head
    simp only [State.queueHead, State.setHunt_hunt, List.head?_cons, Option.some.injEq] at head
    exact .inl head.symm
  · obtain ⟨-, -, queue⟩ := s.huntDrop_disown l
    have disowned : (s.disown l).hunt.queue = s.hunt.queue := by
      unfold State.disown
      split
      · split
        · split
          · simp
          · rfl
        · rfl
      · rfl
    rw [s.callFailed_lockout seizing (by omega), (s.lockout_hunt l).1, queue, disowned] at head
    exact .inr (List.mem_filter.1 (List.mem_of_mem_head? head)).1
end
end Sys2Proof.Machine
end

section
/-! Call records: the PTS timer and a switch-clear run in WAIT PTS (R52, R147, R156, R163). -/

namespace Sys2Proof.Machine
open Sys2Proof

section
variable {s : State} {w e : Nat} {u : Trunk} {l : Line} {ses : Session} (run : s.running = true)
  (opened : s.session u = some ses) (waits : ses.state = .waitPts) (purpose : ses.purpose = .line l)
include run opened waits purpose

theorem exec_ptsTimer (answer : ses.answer = some e) (expired : e ≤ max s.now w / 64) :
    exec (.ptsTimer w u) s = .next ((s.advance w).seizureFails u l) := by
  have acts : exec (.ptsTimer w u) s = execPtsTimer w u s := rfl
  have session : (s.advance w).session u = some ses := opened
  have reached : due ses.answer (s.advance w).scanTime = true := by
    rw [answer]
    exact due_some expired
  rw [acts, execPtsTimer, State.act_running w _ run]
  simp only [session, waits, purpose, reached, if_true]

theorem exec_switchClear_waiting {first : Nat} (clears : (s.input u).clrRun = some first)
    (reached : max first ses.opened + 20 ≤ (s.input u).lastSample) :
    exec (.switchClear w u) s = .next ((s.advance w).seizureFails u l) := by
  have acts : exec (.switchClear w u) s = execSwitchClear w u s := rfl
  have session : (s.advance w).session u = some ses := opened
  have input : (s.advance w).input u = s.input u := rfl
  have ran : runReached (some first) ses.opened (s.input u).lastSample = true := decide_eq_true reached
  rw [acts, execSwitchClear, State.act_running w _ run]
  simp only [session, input, clears, ran, waits, purpose, if_true]
end

/-! ## The failure before and after settling -/

/-- The seizure that failed, with nothing settled yet: trunk and call (R156). -/
def State.failedSeizure (s : State) (u : Trunk) (l : Line) : State := (s.trunkFails u).callFailed l

@[simp] theorem State.callFailed_inputs (s : State) (l : Line) : (s.callFailed l).sup.inputs = s.sup.inputs := by
  unfold State.callFailed
  dsimp only
  split
  · split <;> simp [State.queueHead]
  · rfl

theorem State.failedSeizure_frame (s : State) (u : Trunk) (l : Line) : (s.failedSeizure u l).now = s.now ∧
    (s.failedSeizure u l).ctl = s.ctl ∧ (s.failedSeizure u l).scan = s.scan ∧ (s.failedSeizure u l).link = s.link ∧
    (s.failedSeizure u l).iso = s.iso ∧ (s.failedSeizure u l).sup.inputs = s.sup.inputs ∧
    (∀ m, (s.trunkFails u).call m = s.call m) ∧ (s.failedSeizure u l).entry = (s.trunkFails u).entry := by
  have inputs : (s.trunkFails u).sup.inputs = s.sup.inputs := by
    unfold State.trunkFails
    split <;> simp
  exact ⟨by simp [State.failedSeizure], by simp [State.failedSeizure], by simp [State.failedSeizure],
    by simp [State.failedSeizure], by simp [State.failedSeizure], by simp [State.failedSeizure, inputs],
    fun m => by simp [State.call], funext fun v => by simp [State.failedSeizure, State.entry]⟩

theorem State.releases_failedSeizure (s : State) (u : Trunk) (l : Line) : s.Releases (s.failedSeizure u l) u :=
  (s.releases_trunkFails u).of_same (by simp [State.failedSeizure]) fun w => by simp [State.failedSeizure, State.entry]

section
variable {s : State} {u : Trunk} {l : Line} {ses : Session} (opened : s.session u = some ses)
  (seizing : (s.call l).state = .seizing)
include opened seizing

/-- The trunk of a failed seizure when the rest is settled: let go, or the home trunk that is not retired, taken again
(R147, R156, R160). -/
theorem State.failedSeizure_trunk (purpose : ses.purpose = .line l)
    (retired : ses.retireAtRelease = true ∨ 2 ≤ (s.entry u).failures → ((s.trunkFails u).entry u).retiredBy = some s.slot) :
    (s.LetsGo (s.failedSeizure u l).settle u .ptsFail ∨ (s.ctl.station = .isolated ∧ u = s.slot ∧
      ¬ (ses.retireAtRelease = true ∨ 2 ≤ (s.entry u).failures) ∧
      s.Retakes (s.failedSeizure u l).settle .ptsFail s.scanTime)) ∧
    ((s.failedSeizure u l).settle.entry u).failures = ((s.trunkFails u).entry u).failures ∧
    ((s.failedSeizure u l).settle.entry u).retiredBy = ((s.trunkFails u).entry u).retiredBy := by
  obtain ⟨now, ctl, -, -, -, -, call, entry⟩ := s.failedSeizure_frame u l
  obtain ⟨-, -, -, release⟩ := s.trunkFails_entry u opened
  have carried : (s.failedSeizure u l).settle.tx.Carries (.release u .ptsFail) :=
    State.carries_settle (State.carries_callFailed (s.trunkFails u) (by rw [call]; exact seizing) release (by simp [TxFrame.key]))
      (by simp [TxFrame.key])
  have released := s.releases_failedSeizure u l
  have slot : (s.failedSeizure u l).slot = s.slot := by rw [State.slot, ctl]; rfl
  rcases (s.failedSeizure u l).settle_trunk u (by rw [released.session, if_pos rfl]) with ⟨rests, stands⟩ | ⟨home, m, taken⟩
  · refine ⟨.inl (State.letsGo_of_rests released rests stands carried (by simp [now])), ?_, ?_⟩
    · rw [stands.2.2.1, entry]
    · rw [stands.2.1, entry]
  · obtain ⟨seize, session, taker, holding, failures, by_⟩ := taken.settled home
    have unretired := taken.unretired.1
    have isolated : s.ctl.station = .isolated := ctl ▸ taken.1
    rw [slot] at home unretired
    subst home
    rw [entry] at failures by_ unretired
    refine ⟨.inr ⟨isolated, rfl, fun e => unretired (retired e), carried.holds, seize, m, _, ?_, ?_, ?_, holding, session, rfl, rfl, ?_⟩,
      failures, by_⟩
    · rcases State.callFailed_head (s.trunkFails s.slot) (by rw [call]; exact seizing) taken.2.1 with rfl | queued
      · exact .inr ⟨ses, opened, purpose⟩
      · exact .inl (by simpa using queued)
    · rw [taker]; rfl
    · rw [taker]; rfl
    · simp [State.newSession, State.scanTime, now]

omit opened in
/-- The call of a failed seizure when the rest is settled (R50, R52, R147, R156). -/
theorem State.failedSeizure_again (few : (s.call l).failures < 2) {t : State} (settled : (s.failedSeizure u l).settle = t)
    {back : CallRecord} (again : back = { s.call l with
      state := .hunting, trunk := none, failures := (s.call l).failures + 1, huntTimer := s.after huntTime }) :
    (t.hunt.queue = l :: s.hunt.queue ∧ t.call l = back) ∨
      (s.ctl.station = .isolated ∧ t.hunt.queue = s.hunt.queue.filter (· ≠ l) ∧
        t.call l = { back with state := .seizing, trunk := some s.slot, huntTimer := none } ∧
        (t.entry s.slot).holding = .own (some l)) := by
  obtain ⟨now, ctl, -, -, -, -, call, -⟩ := s.failedSeizure_frame u l
  have slot : (s.failedSeizure u l).slot = s.slot := by rw [State.slot, ctl]; rfl
  have failed : s.failedSeizure u l = ((s.trunkFails u).setCall l back).queueHead l := by
    rw [State.failedSeizure, (s.trunkFails u).callFailed_again (by rw [call]; exact seizing) (by rw [call]; exact few), call, again]
    simp [State.after, State.scanTime]
  have record : (s.failedSeizure u l).call l = back := by rw [failed]; simp [State.queueHead]
  have queue : (s.failedSeizure u l).hunt.queue = l :: s.hunt.queue := by rw [failed]; simp [State.queueHead]
  subst settled
  rcases (s.failedSeizure u l).settle_line l (by rw [record, again]; simp) with ⟨-, ⟨stands, place⟩ | ⟨taken, takes, left⟩⟩
  · refine .inl ⟨?_, stands.trans record⟩
    rcases place with same | ⟨m, apart, head, -⟩
    · exact same.trans queue
    · rw [queue] at head
      exact absurd (Option.some.inj head).symm apart
  · obtain ⟨-, -, -, holding, -⟩ := taken.settled slot.symm
    rw [slot] at takes
    refine .inr ⟨ctl ▸ taken.1, ?_, ?_, holding⟩
    · rw [left, queue]
      simp
    · rw [takes, record]
      rfl

omit opened in
theorem State.failedSeizure_lockout (many : 2 ≤ (s.call l).failures) :
    (s.trunkFails u).LocksOut (s.failedSeizure u l).settle l := by
  obtain ⟨-, -, -, -, -, -, call, -⟩ := s.failedSeizure_frame u l
  rw [State.failedSeizure, (s.trunkFails u).callFailed_lockout (by rw [call]; exact seizing) (by rw [call]; exact many)]
  exact ((s.trunkFails u).locksOut_lockout l).settle
end

/-- Settles O20: the trunk by what its failure makes of it, the call by its failure count. -/
theorem seizureFailureCountsForTrunkAndCall : Obligations.SeizureFailureCountsForTrunkAndCall := by
  unfold Obligations.SeizureFailureCountsForTrunkAndCall
  intro s w u l ses run opened waits purpose seizing c which retired
  have fails : exec c s = .next (((s.advance w).failedSeizure u l).settle) := by
    rcases which with ⟨rfl, e, answer, expired⟩ | ⟨rfl, first, clears, reached⟩
    · exact exec_ptsTimer run opened waits purpose answer expired
    · exact exec_switchClear_waiting run opened waits purpose clears reached
  obtain ⟨failures, kept, retires, -⟩ := (s.advance w).trunkFails_entry u opened
  obtain ⟨trunk, counted, by_⟩ := State.failedSeizure_trunk (s := s.advance w) opened seizing purpose fun e => (retires e).1
  obtain ⟨-, ctl, scan, link, iso, inputs, call, -⟩ := (s.advance w).failedSeizure_frame u l
  refine ⟨_, fails, trunk, counted.trans failures, fun not_ => by_.trans (kept not_), fun e => ?_, fun few => ?_, fun many => ?_,
    by simp [scan], by simp [link], by simp [ctl], by simp [iso], by simp [inputs]⟩
  · obtain ⟨self, starts, retire⟩ := retires e
    have seizing_ : (((s.advance w).trunkFails u).call l).state = .seizing := by rw [call]; exact seizing
    refine ⟨by_.trans self, ?_, ?_⟩
    · have carried := State.carries_callFailed _ seizing_ retire (by split <;> simp [TxFrame.key])
      exact (State.carries_settle carried (by split <;> simp [TxFrame.key])).holds
    · have started : ((s.advance w).failedSeizure u l).settle.ProbeStarts u :=
        (State.ProbeStarts.callFailed _ seizing_ starts).settle
      rw [started, State.after, State.scanTime]
      simp [milli, probeTime, ((s.advance w).failedSeizure_frame u l).1]
  · intro back
    exact State.failedSeizure_again (s := s.advance w) seizing few rfl rfl
  · have locked := State.failedSeizure_lockout (s := s.advance w) (u := u) seizing many
    rw [locked.call, CallRecord.lockedOut]
    exact ⟨rfl, rfl, locked.lko, locked.ldt, locked.queue⟩

end Sys2Proof.Machine
end

section
/-! The link's frames: valid frames and the byte strings that are read as frames are the same (R81, R92 to R94, R213). -/

namespace Sys2Proof.Machine
open Sys2Proof

/-! ## The check byte -/

/-- Bytes sent with their check pass it (R81). -/
theorem checkGood_withCheck (bytes : List Byte) : checkGood (withCheck bytes) = true := by
  simp [checkGood, withCheck, checkByte, byteSum, List.foldl_append]

/-! ## Fields -/

theorem octal_octalByte (x : Fin 8) : octal (octalByte x) = some x := by
  have low : (octalByte x).toNat = x.val := by
    rw [octalByte, BitVec.toNat_ofNat]
    omega
  simp only [octal, low, x.isLt, dif_pos]

theorem octal_eq_none {b : Byte} : octal b = none ↔ 8 ≤ b.toNat := by
  unfold octal
  split <;> simp <;> omega

theorem octal_eq_some {b : Byte} {x : Fin 8} : octal b = some x ↔ b = octalByte x :=
  ⟨fun h => (octalByte_of_octal h).symm, fun h => h ▸ octal_octalByte x⟩

theorem releaseCause_eq_some {b : Byte} {c : Cause} : releaseCause b = some c ↔ c ≠ .maintenance ∧ b = c.code := by
  constructor
  · intro h
    unfold releaseCause at h
    split_ifs at h <;> cases h <;> exact ⟨by decide, ‹_›⟩
  · rintro ⟨other, rfl⟩
    cases c
    case maintenance => exact absurd rfl other
    all_goals rfl

theorem retireCause_eq_some {b : Byte} {c : Cause} :
    retireCause b = some c ↔ (c = .ptsFail ∨ c = .maintenance) ∧ b = c.code := by
  constructor
  · intro h
    unfold retireCause at h
    split_ifs at h <;> cases h <;> exact ⟨by decide, ‹_›⟩
  · rintro ⟨rfl | rfl, rfl⟩ <;> rfl

theorem claimLine_eq_some {b : Byte} {l : Option Line} : claimLine b = some l ↔ b = l.elim 8 octalByte := by
  refine ⟨fun h => (elim_octalByte_of_claimLine h).symm, ?_⟩
  rintro rfl
  cases l with
  | none => rfl
  | some x =>
    have line : octalByte x ≠ 8 := fun e => by
      have no : octal 8 = none := rfl
      rw [← e, octal_octalByte] at no
      cases no
    rw [Option.elim_some, claimLine, if_neg line, octal_octalByte]
    rfl

/-! ## Headers -/

theorem low_four_bits (h : Byte) : (h &&& 15).toNat = h.toNat % 16 := by
  have mask : (15 : Byte).toNat = 2 ^ 4 - 1 := rfl
  rw [BitVec.toNat_and, mask, Nat.and_two_pow_sub_one_eq_mod]

theorem header_toNat {kind : Nat} (few : kind < 16) (slot : HeaderSlot) :
    (header kind slot).toNat = kind * 16 + slot.toNat := by
  have := slot.isLt
  rw [header, BitVec.toNat_ofNat, Nat.mod_eq_of_lt (by omega)]

theorem header_low {kind : Nat} (few : kind < 16) (slot : HeaderSlot) :
    (header kind slot &&& 15).toNat = slot.toNat := by
  have := slot.isLt
  rw [low_four_bits, header_toNat few]
  omega

theorem truncate_header {kind : Nat} (few : kind < 16) (k : HeaderSlot) : (header kind k).truncate 4 = k := by
  apply BitVec.eq_of_toNat_eq
  have := k.isLt
  rw [BitVec.truncate_eq_setWidth, BitVec.toNat_setWidth, header_toNat few]
  omega

/-- A station's header names its slot (R92). -/
theorem octal_header {kind : Nat} (few : kind < 16) (s : Slot) :
    octal (header kind (headerSlot s) &&& 15) = some s := by
  refine octal_eq_some.2 (BitVec.eq_of_toNat_eq ?_)
  rw [header_low few, headerSlot, octalByte, BitVec.toNat_ofNat, BitVec.toNat_ofNat]
  omega

/-- A header of the maintenance equipment names no station (R92). -/
theorem octal_header_maintenance {kind : Nat} (few : kind < 16) {k : HeaderSlot} (h : 8 ≤ k.toNat) :
    octal (header kind k &&& 15) = none := by
  rw [octal_eq_none, header_low few]
  exact h

/-- A header is its kind and the slot of its low four bits (R92). -/
theorem eq_header (h : Byte) : h = header (h.toNat / 16) (h.truncate 4) := by
  apply BitVec.eq_of_toNat_eq
  have := h.isLt
  rw [header, BitVec.truncate_eq_setWidth, BitVec.toNat_setWidth, BitVec.toNat_ofNat]
  omega

theorem truncate_of_octal {h : Byte} {s : Slot} (low : octal (h &&& 15) = some s) : h.truncate 4 = headerSlot s := by
  apply BitVec.eq_of_toNat_eq
  have bits := congrArg BitVec.toNat (octal_eq_some.1 low)
  rw [low_four_bits, octalByte, BitVec.toNat_ofNat] at bits
  rw [BitVec.truncate_eq_setWidth, BitVec.toNat_setWidth, headerSlot, BitVec.toNat_ofNat]
  omega

theorem le_of_octal_none {h : Byte} (low : octal (h &&& 15) = none) : 8 ≤ (h.truncate 4 : HeaderSlot).toNat := by
  rw [octal_eq_none, low_four_bits] at low
  rw [BitVec.truncate_eq_setWidth, BitVec.toNat_setWidth]
  exact low

/-! ## The flags of a REPORT -/

/-- The flags byte of a REPORT (R213). -/
def flagsByte (probe mismatch : Bool) : Byte := BitVec.ofNat 8 (bit probe + 2 * bit mismatch)

theorem flagsByte_reads (probe mismatch : Bool) : (flagsByte probe mismatch).toNat < 4 ∧
    (flagsByte probe mismatch).getLsbD 0 = probe ∧ (flagsByte probe mismatch).getLsbD 1 = mismatch := by
  revert probe mismatch
  decide

/-- Two flags tell a byte less than 4. -/
theorem flagsByte_of_lt {f : Byte} (few : f.toNat < 4) : flagsByte (f.getLsbD 0) (f.getLsbD 1) = f := by
  apply BitVec.eq_of_toNat_eq
  have one (b : Bool) : bit b = b.toNat := by cases b <;> rfl
  rw [flagsByte, BitVec.toNat_ofNat, one, one, BitVec.getLsbD, BitVec.getLsbD, Nat.toNat_testBit, Nat.toNat_testBit]
  omega

/-! ## Frames written and read -/

/-- A frame's bytes before its check byte (TABLE 12-1). -/
def LinkFrame.fields : LinkFrame → List Byte
  | .release s t c => [header 1 (headerSlot s), octalByte t, c.code]
  | .claim s t l => [header 2 (headerSlot s), octalByte t, l.elim 8 octalByte]
  | .retire s t c => [header 3 (headerSlot s), octalByte t, c.code]
  | .restore s t => [header 4 (headerSlot s), octalByte t]
  | .report s n held retired probe mismatch =>
    [header 5 (headerSlot s), BitVec.ofNat 8 n, held, retired, flagsByte probe mismatch]
  | .statusRequest s g p => [header 6 s, octalByte g, p]
  | .command s g c a => [header 7 s, octalByte g, c, a]

theorem encodeFrame_eq (f : LinkFrame) : encodeFrame f = withCheck f.fields := by cases f <;> rfl

/-- A valid frame's fields, whatever check byte follows them, are read as that frame (R92, R93). -/
theorem parseFrame_fields {f : LinkFrame} (valid : f.valid = true) (check : Byte) :
    parseFrame (f.fields ++ [check]) = some f := by
  cases f with
  | release s t c =>
    have cause : releaseCause c.code = some c := releaseCause_eq_some.2 ⟨by simpa [LinkFrame.valid] using valid, rfl⟩
    simp only [LinkFrame.fields, List.cons_append, List.nil_append, parseFrame, octal_header (kind := 1) (by omega),
      header_kind (kind := 1) (by omega), octal_octalByte, cause]
    rfl
  | claim s t l =>
    have line : claimLine (l.elim 8 octalByte) = some l := claimLine_eq_some.2 rfl
    simp only [LinkFrame.fields, List.cons_append, List.nil_append, parseFrame, octal_header (kind := 2) (by omega),
      header_kind (kind := 2) (by omega), octal_octalByte, line]
    rfl
  | retire s t c =>
    have cause : retireCause c.code = some c := retireCause_eq_some.2 ⟨by simpa [LinkFrame.valid] using valid, rfl⟩
    simp only [LinkFrame.fields, List.cons_append, List.nil_append, parseFrame, octal_header (kind := 3) (by omega),
      header_kind (kind := 3) (by omega), octal_octalByte, cause]
    rfl
  | restore s t =>
    simp only [LinkFrame.fields, List.cons_append, List.nil_append, parseFrame, octal_header (kind := 4) (by omega),
      header_kind (kind := 4) (by omega), octal_octalByte]
    rfl
  | report s n held retired probe mismatch =>
    obtain ⟨low, high⟩ : 1 ≤ n ∧ n ≤ 8 := by simpa [LinkFrame.valid] using valid
    have count : (BitVec.ofNat 8 n).toNat = n := by rw [BitVec.toNat_ofNat]; omega
    obtain ⟨few, first, second⟩ := flagsByte_reads probe mismatch
    simp only [LinkFrame.fields, List.cons_append, List.nil_append, parseFrame, octal_header (kind := 5) (by omega),
      header_kind (kind := 5) (by omega), count, first, second]
    exact if_pos ⟨low, high, few⟩
  | statusRequest k g p =>
    have outside : 8 ≤ k.toNat := by simpa [LinkFrame.valid] using valid
    simp only [LinkFrame.fields, List.cons_append, List.nil_append, parseFrame, header_kind (kind := 6) (by omega),
      octal_header_maintenance (kind := 6) (by omega) outside, truncate_header (kind := 6) (by omega), octal_octalByte]
    rfl
  | command k g c a =>
    have outside : 8 ≤ k.toNat := by simpa [LinkFrame.valid] using valid
    simp only [LinkFrame.fields, List.cons_append, List.nil_append, parseFrame, header_kind (kind := 7) (by omega),
      octal_header_maintenance (kind := 7) (by omega) outside, truncate_header (kind := 7) (by omega), octal_octalByte]
    rfl

/-- A station's header is its kind and the slot that its low bits name (R92). -/
theorem station_header {h : Byte} {s : Slot} {kind : Nat} (low : octal (h &&& 15) = some s) (k : h.toNat / 16 = kind) :
    h = header kind (headerSlot s) := by
  rw [← k, ← truncate_of_octal low]
  exact eq_header h

/-- Bytes read as a frame are a valid frame's fields and a check byte (R92 to R94). -/
theorem fields_of_parseFrame {bytes : List Byte} {f : LinkFrame} (parsed : parseFrame bytes = some f) :
    f.valid = true ∧ ∃ check, bytes = f.fields ++ [check] := by
  unfold parseFrame at parsed
  split at parsed
  · cases parsed
  rename_i h rest
  dsimp only at parsed
  split at parsed
  all_goals simp only [Option.bind_eq_bind, Option.pure_def, Option.bind_eq_some_iff, Option.some.injEq, reduceCtorEq,
    octal_eq_some, releaseCause_eq_some, retireCause_eq_some, claimLine_eq_some,
    Option.ite_none_right_eq_some] at parsed
  case h_1 low kind =>
    obtain ⟨u, rfl, x, ⟨cause, rfl⟩, rfl⟩ := parsed
    exact ⟨by simpa [LinkFrame.valid] using cause, _, by rw [station_header low kind]; rfl⟩
  case h_2 low kind =>
    obtain ⟨u, rfl, x, rfl, rfl⟩ := parsed
    exact ⟨rfl, _, by rw [station_header low kind]; rfl⟩
  case h_3 low kind =>
    obtain ⟨u, rfl, x, ⟨cause, rfl⟩, rfl⟩ := parsed
    exact ⟨by simpa [LinkFrame.valid] using cause, _, by rw [station_header low kind]; rfl⟩
  case h_4 low kind =>
    obtain ⟨u, rfl, rfl⟩ := parsed
    exact ⟨rfl, _, by rw [station_header low kind]; rfl⟩
  case h_5 n _ _ f check low kind =>
    obtain ⟨⟨least, most, few⟩, rfl⟩ := parsed
    refine ⟨by simp [LinkFrame.valid, least, most], check, ?_⟩
    rw [station_header low kind, LinkFrame.fields, flagsByte_of_lt few, BitVec.ofNat_toNat, BitVec.setWidth_eq]
    rfl
  case h_6 low kind =>
    obtain ⟨u, rfl, rfl⟩ := parsed
    exact ⟨by simpa [LinkFrame.valid] using le_of_octal_none low, _,
      by rw [LinkFrame.fields, ← kind, ← eq_header h]; rfl⟩
  case h_7 low kind =>
    obtain ⟨u, rfl, rfl⟩ := parsed
    exact ⟨by simpa [LinkFrame.valid] using le_of_octal_none low, _,
      by rw [LinkFrame.fields, ← kind, ← eq_header h]; rfl⟩

/-- Settles O40: a valid frame is written and read field by field, and the check byte is the one the sender sets. -/
theorem framesAndBytesAgree : Obligations.FramesAndBytesAgree := by
  unfold Obligations.FramesAndBytesAgree
  refine ⟨fun f valid => ?_, fun bytes f good parsed => ?_⟩
  · rw [encodeFrame_eq]
    exact ⟨checkGood_withCheck _, parseFrame_fields valid _⟩
  · obtain ⟨valid, check, rfl⟩ := fields_of_parseFrame parsed
    exact ⟨valid, by rw [encodeFrame_eq, withCheck_of_checkGood good]⟩

end Sys2Proof.Machine
end

section
/-! The link's start marks: the offered frame, or the test frame, goes on the wire after the recessive time (R72, R88,
R104, R136, R202). -/

namespace Sys2Proof.Machine
open Sys2Proof

theorem Link.betweenFrames_iff (k : Link) :
    k.betweenFrames = true ↔ k.rx = .idle ∨ k.rx = .waitEof ∨ (k.rx = .afterData ∧ k.mayReply = false) := by
  unfold Link.betweenFrames
  cases k.rx <;> simp

/-- A start mark may begin after 5 cells of recessive time, or be joined after 4 7/8, from the edge seen (R72). -/
theorem Link.startsFrame_iff (k : Link) (joining : Bool) (now : Nat) :
    k.startsFrame joining now = true ↔ k.recessiveFrom + (if joining then 39 else 40) ≤ now ∧
      ((k.dominant = false ∧ k.betweenFrames = true) ∨ (joining = true ∧ k.startSeen now = true)) := by
  unfold Link.startsFrame
  cases joining <;> simp [startNeed, nextStartCells, cell, and_comm]

theorem Link.startSeen_iff (k : Link) (now : Nat) :
    k.startSeen now = true ↔ k.dominant = true ∧ k.rx = .startMark ∧ k.own = none ∧ k.fallAt = now := by
  simp [Link.startSeen, and_assoc]

theorem HuntUnit.claim_none {h : HuntUnit} (none_ : h.claim = none) : { h with claim := none } = h := by
  rw [← none_]

/-- The station with this frame on the wire, filled as it stands (R72, R104, R136). -/
def State.departed (s : State) (f : TxFrame) : State :=
  { s with
    tx := { s.tx with flight := some { frame := f, bytes := encodeFrame (s.onWire f), start := s.now } }
    link := s.link.beginFrame (some (encodeFrame (s.onWire f))) s.now
    hunt := if f.key = .claim then
        { s.hunt with claim := s.hunt.claim.map fun c => { c with stage := .inFlight } }
      else s.hunt }

section
variable {s : State} {joining : Bool} (starts : s.link.startsFrame joining s.now = true) (silent : s.sending = false)
include starts silent

theorem State.startFrame_none (offer : s.offered = none) : s.startFrame joining = s := by
  simp [State.startFrame, starts, silent, offer]

theorem State.startFrame_some {f : TxFrame} (offer : s.offered = some f) : s.startFrame joining = s.departed f := by
  unfold State.startFrame
  rw [if_pos ⟨starts, by simp [silent]⟩, offer]
  cases f with
  | claim t l =>
    cases pending : s.hunt.claim with
    | none => simp [State.departed, State.setTx, State.setLink, TxFrame.key, pending, HuntUnit.claim_none pending]
    | some c => simp [State.departed, State.setTx, State.setLink, State.setHunt, TxFrame.key, pending]
  | release t c => rfl
  | retire t c => rfl
  | restore t => rfl
  | report p => rfl
end

/-- In LOOPBACK the test frame in hand begins (R88, R202). -/
theorem State.startTestFrame_due {s : State} (station : s.ctl.station = .selfTest) (fresh : s.ctl.testStart = none)
    (between : s.link.betweenFrames = true) (quiet : s.link.quiet nextStartCells s.now = true) :
    s.startTestFrame =
      { s with ctl := { s.ctl with testStart := some s.now }, link := s.link.beginFrame none s.now } :=
  if_pos ⟨station, fresh, between, quiet⟩

theorem exec_frameStart_loopback {s : State} {w : Nat} {joining : Bool} (run : s.running = true)
    (mode : s.link.mode = .loopback) : exec (.frameStart w joining) s = .next (s.advance w).startTestFrame := by
  rw [exec, execFrameStart, State.act_running _ _ run, State.advance_link, mode]

theorem exec_frameStart_wire {s : State} {w : Nat} {joining : Bool} (run : s.running = true)
    (mode : s.link.mode = .wire) : exec (.frameStart w joining) s = .next ((s.advance w).startFrame joining) := by
  rw [exec, execFrameStart, State.act_running _ _ run, State.advance_link, mode]

/-- Settles O29: the start mark is due, in LOOPBACK and on the wire, and its effect is the frame's departure. -/
theorem frameStartPutsTheOfferedFrameOnTheWire : Obligations.FrameStartPutsTheOfferedFrameOnTheWire := by
  unfold Obligations.FrameStartPutsTheOfferedFrameOnTheWire
  intro s w joining run begun between
  refine ⟨fun mode station fresh ⟨recessive, rx⟩ reached => ?_, fun mode flight reply place reached => ?_⟩
  · rw [exec_frameStart_loopback run mode, State.startTestFrame_due (s := s.advance w) station fresh
      ((Link.betweenFrames_iff _).2 rx) ((Link.quiet_iff _ _ _).2 ⟨recessive, reached⟩)]
    rfl
  · have silent : (s.advance w).sending = false := by simp [State.sending, flight, reply]
    have starts : (s.advance w).link.startsFrame joining (s.advance w).now = true := by
      refine (Link.startsFrame_iff _ _ _).2 ⟨reached, ?_⟩
      rcases place with ⟨recessive, rx⟩ | ⟨join, seen⟩
      · exact .inl ⟨recessive, (Link.betweenFrames_iff _).2 rx⟩
      · exact .inr ⟨join, (Link.startSeen_iff _ _).2 seen⟩
    rw [exec_frameStart_wire run mode]
    refine ⟨fun offer => ?_, fun f offer => ?_⟩
    · rw [State.startFrame_none starts silent offer]
    · rw [State.startFrame_some starts silent offer]
      rfl

end Sys2Proof.Machine
end

section
/-! The link pin: the start mark and the cells of a frame or reply, by the cell timer (R68, R69, R72, R88). -/

namespace Sys2Proof.Machine
open Sys2Proof

/-- The transmitter's cell and its eighth, by the edge the cell timer runs from (R69). -/
theorem Link.cellNow_of_timer {k : Link} {now c e : Nat} (eighth : e < 8) (first : k.fallCell ≤ c)
    (time : now = k.fallAt + (c - k.fallCell) * 8 + e) : k.cellNow now = (c, e) := by
  simp only [Link.cellNow, cell, Prod.mk.injEq]
  omega

/-- A cell is dominant for its first quarter if its bit is 1, for three quarters if it is 0, and never past the last
byte (R69). -/
theorem cellDominant_eq (bytes : List Byte) (k e : Nat) : cellDominant bytes k e =
    decide (k / 8 < bytes.length ∧ e < if (bytes.getD (k / 8) 0).getLsbD (7 - k % 8) then 2 else 6) := by
  unfold cellDominant cellBit
  by_cases inside : k / 8 < bytes.length
  · rw [List.getD_eq_getElem _ _ inside, List.getElem?_eq_getElem inside, Option.map_some]
    cases (bytes[k / 8]).getLsbD (7 - k % 8) <;> simp [inside]
  · simp [inside]

/-- A frame's wave: the start mark, the gap and the data cells (R72). -/
theorem frameDominant_eq (bytes : List Byte) (c e : Nat) :
    frameDominant bytes c e = (decide (c < 3) || (decide (4 ≤ c) && cellDominant bytes (c - 4) e)) := rfl

section
variable {s : State}

/-- The pin is released in a reset, in any mode but WIRE, and with nothing to send (R68, R207). -/
theorem State.linkPin_released
    (h : s.inReset = true ∨ s.link.mode ≠ .wire ∨ (s.tx.flight = none ∧ s.link.reply = none)) : s.linkPin = false := by
  rcases h with reset | mode | ⟨flight, reply⟩
  · simp [State.linkPin, reset]
  · simp [State.linkPin, mode]
  · unfold State.linkPin State.transmits
    cases s.link.mode <;> simp [flight, reply]

variable {c e : Nat} (timer : s.link.cellNow s.now = (c, e))
include timer

section
variable (running : s.inReset = false) (mode : s.link.mode = .wire)
include running mode

theorem State.linkPin_frame {f : Flight} (flight : s.tx.flight = some f) :
    s.linkPin = frameDominant f.bytes c e := by
  simp [State.linkPin, State.transmits, running, mode, flight, timer]

theorem State.linkPin_reply {r : Reply} (flight : s.tx.flight = none) (reply : s.link.reply = some r) :
    s.linkPin = (decide (r.start ≤ s.now) && cellDominant r.bytes c e) := by
  simp [State.linkPin, State.transmits, running, mode, flight, reply, timer]
end

/-- In LOOPBACK the receiver reads the test frame, whatever is sampled (R88, R202). -/
theorem State.levelSeen_test (mode : s.link.mode = .loopback) (station : s.ctl.station = .selfTest)
    (begun : s.ctl.testStart.isSome = true) (pin : Bool) :
    s.levelSeen pin = frameDominant (testBytes s.ctl.testFrame) c e := by
  simp [State.levelSeen, State.transmits, mode, station, begun, timer]
end

/-- Settles O30: each cell's level by the cell that the timer tells, and a falling edge in time begins the next. -/
theorem linkPinCarriesTheCells : Obligations.LinkPinCarriesTheCells := by
  unfold Obligations.LinkPinCarriesTheCells
  constructor
  · intro s c e eighth first time wave
    have timer := Link.cellNow_of_timer eighth first time
    have cells (bytes : List Byte) (k : Nat) : cellDominant bytes k e = wave bytes k := cellDominant_eq bytes k e
    refine ⟨State.linkPin_released, fun running mode => ⟨fun f flight => ?_, fun r flight reply started => ?_,
      fun r flight reply early => ?_⟩, fun mode station begun pin => ?_⟩
    · rw [State.linkPin_frame timer running mode flight, frameDominant_eq, cells]
    · rw [State.linkPin_reply timer running mode flight reply, cells, decide_eq_true started, Bool.true_and]
    · rw [State.linkPin_reply timer running mode flight reply, decide_eq_false (Nat.not_le.2 early), Bool.false_and]
    · rw [State.levelSeen_test timer mode station begun, frameDominant_eq, cells]
      rfl
  · intro k now least most
    have next : (now - k.fallAt + 1) / 8 = 1 := by omega
    exact ⟨rfl, congrArg (k.fallCell + ·) next⟩

end Sys2Proof.Machine
end

section
/-! The link's losses: a frame that loses arbitration stays queued, a reply that loses is dropped (R78, R104, R106, R138,
R139). -/

namespace Sys2Proof.Machine
open Sys2Proof

/-! ## What a flight that ends without its frame sent leaves of the queue -/

/-- A frame other than a CLAIM combines with the queued one of its key as TABLE 5-4 states (R104). -/
theorem combine_eq (x : QFrame) {n : QFrame} (other : n.frame.key ≠ .claim) :
    combine x n = { frame := n.frame, age := match n.frame with | .release _ _ => x.age | _ => n.age } := by
  unfold combine
  split
  · rename_i release
    simp [release]
  · rename_i claim
    exact absurd (by rw [claim]; rfl) other
  · rename_i neither _
    split
    · rename_i release
      exact absurd release (neither _ _)
    · rfl

section
variable {q : TxQueue} {frames : List QFrame}

@[simp] theorem TxQueue.unsent_waiting (q : TxQueue) : q.unsent.waiting = none := by
  unfold TxQueue.unsent
  split <;> simp [*]

/-- With nothing waiting a loss leaves the queue as it was (R106). -/
theorem TxQueue.unsent_of_alone (alone : q.waiting = none) : q.unsent = { q with flight := none } := by
  simp [TxQueue.unsent, alone]

theorem TxQueue.rejoins_unsent (q : TxQueue) : q.Rejoins q.unsent.frames := by
  intro x queued other
  cases waits : q.waiting with
  | none => simpa [TxQueue.unsent, waits] using queued
  | some w =>
    have frames : q.unsent.frames = combineIn q.frames w := by simp [TxQueue.unsent, waits]
    rw [frames]
    dsimp only
    split
    · rename_i same
      have joined : combine x w ∈ combineIn q.frames w := List.mem_map.2 ⟨x, queued, if_pos same.symm⟩
      rw [combine_eq x (same.trans_ne other)] at joined
      exact joined
    · rename_i differs
      exact mem_combineIn queued (Ne.symm differs)

/-- What keeps every frame but a CLAIM keeps the frames as they rejoined. -/
theorem TxQueue.Rejoins.mono (h : q.Rejoins frames) {more : List QFrame}
    (keeps : ∀ x ∈ frames, x.frame.key ≠ .claim → x ∈ more) : q.Rejoins more := by
  intro x queued other
  have joined := h x queued other
  cases waits : q.waiting with
  | none => rw [waits] at joined; exact keeps x joined other
  | some w =>
    rw [waits] at joined
    dsimp only at joined ⊢
    split
    · rename_i same
      rw [if_pos same] at joined
      exact keeps _ joined (same.trans_ne other)
    · rename_i differs
      rw [if_neg differs] at joined
      exact keeps x joined other
end

/-! ## What a withdrawal and a settling leave of it -/

@[simp] theorem TxQueue.withdraw_waiting (q : TxQueue) (k : TxKey) : (q.withdraw k).waiting = q.waiting := by
  unfold TxQueue.withdraw
  split <;> rfl

/-- A placing beside no flight leaves nothing waiting that did not wait (R104). -/
theorem TxQueue.place_waiting_of_grounded {q : TxQueue} (grounded : q.flight = none) (n : QFrame) :
    (q.place n).waiting = q.waiting := by
  have none_ : q.inFlight n.frame.key = false := by simp [TxQueue.inFlight, grounded]
  unfold TxQueue.place
  rw [if_neg (by simp [none_])]
  split <;> rfl

section
variable {s : State}

theorem State.withdrawClaim_tx (s : State) :
    s.withdrawClaim.tx = if s.hunt.claim = none then s.tx else s.tx.withdraw .claim := by
  unfold State.withdrawClaim
  split
  · rename_i claim
    simp [claim]
  · rename_i claim
    dsimp only
    split <;> simp [claim]

@[simp] theorem State.withdrawClaim_waiting (s : State) : s.withdrawClaim.tx.waiting = s.tx.waiting := by
  rw [State.withdrawClaim_tx]
  split <;> simp

theorem State.mem_withdrawClaim {f : QFrame} (queued : f ∈ s.tx.frames) (other : f.frame.key ≠ .claim) :
    f ∈ s.withdrawClaim.tx.frames := by
  rw [State.withdrawClaim_tx]
  split
  · exact queued
  · exact TxQueue.mem_withdraw queued other

theorem State.makeChoice_waiting (grounded : s.tx.flight = none) : s.makeChoice.tx.waiting = s.tx.waiting := by
  unfold State.makeChoice
  split
  · split
    · exact TxQueue.place_waiting_of_grounded grounded _
    · rfl
  · rfl

theorem State.settle_tx (s : State) : s.settle.tx = s.judge.tx := by simp [State.settle]

/-- With nothing in flight the Hunt Unit has nothing wait (R104). -/
theorem State.settle_waiting (grounded : s.tx.flight = none) : s.settle.tx.waiting = s.tx.waiting := by
  rw [State.settle_tx]
  unfold State.judge
  split
  · unfold State.judgeActive
    split
    · exact State.makeChoice_waiting grounded
    · split
      · rfl
      · split
        · rfl
        · rw [State.makeChoice_waiting (by simp [grounded]), State.withdrawClaim_waiting]
  · simp
  · rfl

/-- Outside ACTIVE no claim is judged (R132). -/
theorem State.settle_of_inactive (inactive : s.ctl.station ≠ .active) :
    s.settle.hunt.claim = s.hunt.claim ∧ s.settle.tx = s.tx := by
  rw [State.settle_claim, State.settle_tx]
  unfold State.judge
  split
  · exact absurd ‹_› inactive
  · simp
  · exact ⟨rfl, rfl⟩

/-- A claim that stands is left as it is (R137). -/
theorem State.settle_of_stands {c : Claim} (pending : s.hunt.claim = some c) (active : s.ctl.station = .active)
    (stands : s.claimStands c = true) : s.settle.hunt.claim = s.hunt.claim ∧ s.settle.tx = s.tx := by
  have judged : s.judge = s := by
    simp only [State.judge, active, State.judgeActive, pending]
    split
    · rfl
    · rw [if_pos stands]
  rw [State.settle_claim, State.settle_tx, judged]
  exact ⟨rfl, rfl⟩
end

/-! ## The end of a flight lost or failed -/

section
variable {s : State}

/-- A flight of another frame, or of a CLAIM with no claim pending, leaves the Hunt Unit alone (R106). -/
theorem State.flightEnds_cases (s : State) : (∃ h, s.flightEnds = (s.setTx s.tx.unsent).setHunt h) ∨
    s.flightEnds = (s.setTx s.tx.unsent).withdrawClaim := by
  unfold State.flightEnds
  dsimp only
  split
  · split
    · split
      · exact .inr rfl
      · exact .inl ⟨_, rfl⟩
    · exact .inl ⟨s.hunt, rfl⟩
  · exact .inl ⟨s.hunt, rfl⟩

@[simp] theorem State.flightEnds_waiting (s : State) : s.flightEnds.tx.waiting = none := by
  rcases s.flightEnds_cases with ⟨h, ends⟩ | ends <;> simp [ends]

@[simp] theorem State.flightEnds_sup (s : State) : s.flightEnds.sup.sessions = s.sup.sessions ∧
    s.flightEnds.sup.seize = s.sup.seize ∧ s.flightEnds.sup.points = s.sup.points := by
  rcases s.flightEnds_cases with ⟨h, ends⟩ | ends <;> simp [ends]

/-- The frames are those of the loss, with the one that waited combined, whatever becomes of the CLAIM (R104, R106). -/
theorem State.rejoins_flightEnds (s : State) : s.tx.Rejoins s.flightEnds.tx.frames := by
  have lost := s.tx.rejoins_unsent
  rcases s.flightEnds_cases with ⟨h, ends⟩ | ends
  · rw [ends]
    exact lost
  · rw [ends]
    exact lost.mono fun _ queued other => State.mem_withdrawClaim queued other

section
variable {c : Claim} (flies : s.tx.inFlight .claim = true) (pending : s.hunt.claim = some c)
include flies pending

/-- A LAPSED claim goes with the loss of its CLAIM (R138, R139). -/
theorem State.flightEnds_lapsed (lapsed : c.owner = .lapsed) :
    s.flightEnds = (s.setTx s.tx.unsent).withdrawClaim := by
  simp [State.flightEnds, flies, pending, lapsed]

/-- Any other is QUEUED again (R138). -/
theorem State.flightEnds_pending (owned : c.owner ≠ .lapsed) :
    s.flightEnds = (s.setTx s.tx.unsent).setHunt { s.hunt with claim := some { c with stage := .queued } } := by
  simp [State.flightEnds, flies, pending, owned]
end
end

end Sys2Proof.Machine
end

section
/-! The link's losses: arbitration is lost at the 1/2 of a cell where this station sent a 1 (R78, R80). -/

namespace Sys2Proof.Machine
open Sys2Proof

/-! ## The transmitter's samples -/

/-- Cell `c` of what this station sends is at its 1/2 at `now`, by the cell timer (R69). -/
def Link.AtHalf (k : Link) (c now : Nat) : Prop :=
  k.fallCell + (now - k.fallAt) / 8 = c ∧ (now - k.fallAt) % 8 = 4

section
variable {s : State} {k : Nat} {level : Bool}

theorem State.samplesCell_flight_iff (flight : s.tx.flight.isSome = true) : s.samplesCell k level = true ↔
    s.link.AtHalf (4 + k) s.now ∧ ((s.link.rx = .startMark ∧ s.link.dominant = false) ∨
      ((s.link.rx = .gap ∨ s.link.rx = .data) ∧ s.link.dominant = level)) := by
  obtain ⟨f, flight⟩ := Option.isSome_iff_exists.mp flight
  simp [State.samplesCell, flight, Link.cellNow, Link.AtHalf, cell]

theorem State.samplesCell_reply_iff (flight : s.tx.flight = none) : s.samplesCell k level = true ↔
    s.link.AtHalf k s.now ∧ s.link.rx = .reply ∧
      ((s.link.replyUnread = true ∧ s.link.dominant = false) ∨ s.link.dominant = level) := by
  simp [State.samplesCell, flight, Link.cellNow, Link.AtHalf, cell, and_assoc]

theorem Link.replyUnread_iff (k : Link) : k.replyUnread = true ↔ k.bits = [] ∧ k.replyBuf = [] := by
  simp [Link.replyUnread, and_comm]

/-- A cell is sampled at its own 1/2 alone, and, where its edges are seen, at the level the receiver sees (R78, R79). -/
theorem State.samplesCell_false (h : ¬ s.link.AtHalf (if s.tx.flight.isSome then 4 + k else k) s.now ∨
    (s.link.rx = .data ∧ s.link.dominant ≠ level)) : ¬ s.samplesCell k level = true := by
  intro sampled
  cases flight : s.tx.flight with
  | none =>
    obtain ⟨half, rx, -⟩ := (State.samplesCell_reply_iff flight).1 sampled
    rcases h with h | ⟨data, -⟩
    · exact h (by simpa [flight] using half)
    · rw [rx] at data; cases data
  | some f =>
    obtain ⟨half, seen⟩ := (State.samplesCell_flight_iff (by simp [flight])).1 sampled
    rcases h with h | ⟨data, other⟩
    · exact h (by simpa [flight] using half)
    · rcases seen with ⟨start, -⟩ | ⟨-, same⟩
      · rw [start] at data; cases data
      · exact other same
end

/-! ## The loss -/

/-- A loss is counted; the marker is clear, and a reply is dropped (R78, R80). -/
def State.lost (s : State) : State :=
  s.setLink { s.link with own := none, reply := none, arbLosses := counted s.link.arbLosses }

section
variable {s : State} {w k : Nat} (run : s.running = true)
include run

theorem exec_arbitrationLost_none (h : ¬ (s.advance w).samplesCell k true = true) :
    exec (.arbitrationLost w k) s = .next (s.advance w) :=
  (State.act_running w _ run).trans (congrArg _ (if_neg fun due => h due.2.2))

variable (one : cellBit s.sentBytes k = some true) (sampled : (s.advance w).samplesCell k true = true)
include one sampled

theorem exec_arbitrationLost_frame (flight : s.tx.flight.isSome = true) :
    exec (.arbitrationLost w k) s = .next (s.advance w).lost.flightEnds.settle := by
  have sending : (s.advance w).sending = true := by simp [State.sending, flight]
  refine (State.act_running w _ run).trans (congrArg _ ((if_pos ⟨sending, one, sampled⟩).trans (if_pos flight)))

theorem exec_arbitrationLost_reply (flight : s.tx.flight = none) (reply : s.link.reply.isSome = true) :
    exec (.arbitrationLost w k) s = .next (s.advance w).lost := by
  have sending : (s.advance w).sending = true := by simp [State.sending, reply]
  refine (State.act_running w _ run).trans
    (congrArg _ ((if_pos ⟨sending, one, sampled⟩).trans (if_neg (by simp [flight]))))
end

section
variable {s : State} {fl : Flight} (flight : s.tx.flight = some fl) {c : Claim} (pending : s.hunt.claim = some c)
  (claim : fl.frame.key = .claim)
include flight pending claim

/-- The claim that a line had given up goes with the loss of its CLAIM; one pending afterwards is the head line's (R134,
R138, R139). -/
theorem State.lostClaim_lapsed (lapsed : c.owner = .lapsed) {c' : Claim}
    (after : s.flightEnds.settle.hunt.claim = some c') : c'.owner ≠ .lapsed := by
  have flies : s.tx.inFlight .claim = true := TxQueue.inFlight_iff.2 ⟨fl, flight, claim⟩
  rcases State.settle_claim_owner after with left | ⟨m, -, owner⟩
  · rw [State.flightEnds_lapsed flies pending lapsed, State.withdrawClaim_claim] at left
    cases left
  · simp [owner]

/-- Any other claim is QUEUED again, and stands where it is not judged, or is found to stand (R137, R138). -/
theorem State.lostClaim_queued (alone : s.tx.waiting = none) (owned : c.owner ≠ .lapsed)
    (stands : s.ctl.station = .active → s.claimStands c = true) :
    s.flightEnds.settle.hunt.claim = some { c with stage := .queued } ∧
      s.flightEnds.settle.tx.frames = s.tx.frames := by
  have flies : s.tx.inFlight .claim = true := TxQueue.inFlight_iff.2 ⟨fl, flight, claim⟩
  have ends := State.flightEnds_pending flies pending owned
  have queued : s.flightEnds.hunt.claim = some { c with stage := .queued } := by rw [ends]; rfl
  have frames : s.flightEnds.tx.frames = s.tx.frames := by rw [ends, TxQueue.unsent_of_alone alone]; rfl
  by_cases active : s.ctl.station = .active
  · have still : s.flightEnds.claimStands { c with stage := .queued } = true := by
      rw [ends]; exact stands active
    obtain ⟨same, tx⟩ := State.settle_of_stands queued (by simp [active]) still
    exact ⟨same.trans queued, by rw [tx, frames]⟩
  · obtain ⟨same, tx⟩ := State.settle_of_inactive (s := s.flightEnds) (by simpa using active)
    exact ⟨same.trans queued, by rw [tx, frames]⟩
end

/-- Settles O31: the cell is sampled at its 1/2, and the loss ends the flight, or drops the reply. -/
theorem arbitrationLossKeepsTheFrameAndDropsTheReply : Obligations.ArbitrationLossKeepsTheFrameAndDropsTheReply := by
  unfold Obligations.ArbitrationLossKeepsTheFrameAndDropsTheReply
  intro s w k run one half
  refine ⟨fun fl flight at_half seen => ?_, fun r flight reply at_half rx seen => ?_, fun none_ => ?_⟩
  · have flies : (s.advance w).tx.flight.isSome = true := by simp [flight]
    have sampled : (s.advance w).samplesCell k true = true :=
      (State.samplesCell_flight_iff flies).2 ⟨at_half, seen.imp id fun ⟨data, dom⟩ => ⟨.inr data, dom⟩⟩
    have lost : (s.advance w).lost.tx.flight = some fl := flight
    refine ⟨_, exec_arbitrationLost_frame run one sampled flies, by simp; rfl, by simp, ?_, ?_,
      fun c claim pending lapsed c' => ?_,
      fun c claim alone pending owned inactive => ?_, fun c l claim alone pending owner active stands => ?_,
      by simp [State.lost], by simp [State.lost], by simp [State.lost], by simp [State.lost], by simp [State.lost]⟩
    · rw [State.settle_waiting (by simp), State.flightEnds_waiting]
    · exact (State.rejoins_flightEnds (s.advance w).lost).mono fun _ queued other => State.mem_settle queued other
    · exact State.lostClaim_lapsed lost pending claim lapsed
    · exact State.lostClaim_queued lost pending claim alone owned fun active => absurd active inactive
    · refine State.lostClaim_queued lost pending claim alone (by simp [owner]) fun _ => ?_
      rw [State.claimStands, owner]
      exact stands
  · have sampled : (s.advance w).samplesCell k true = true := by
      refine (State.samplesCell_reply_iff (s := s.advance w) flight).2 ⟨at_half, rx, ?_⟩
      by_cases dominant : s.link.dominant = true
      · exact .inr dominant
      · exact .inl ⟨(Link.replyUnread_iff _).2 (seen.resolve_left dominant), by simpa using dominant⟩
    exact exec_arbitrationLost_reply run one sampled flight (by simp [reply])
  · refine exec_arbitrationLost_none run (State.samplesCell_false (none_.imp id fun ⟨data, recessive⟩ => ⟨data, ?_⟩))
    simp [recessive]

end Sys2Proof.Machine
end

section
/-! The link's transmit errors: each is counted, and the eighth in a row isolates the station (R79, R83, R84, R104, R189). -/

namespace Sys2Proof.Machine
open Sys2Proof

/-! ## The integrators -/

theorem startCalls_integ (lines : List Line) (s : State) (l : Line) :
    ((lines.foldl State.startCall s).scanLine l).integ = (s.scanLine l).integ := by
  induction lines generalizing s with
  | nil => rfl
  | cons m rest ih =>
    rw [List.foldl_cons, ih, State.startCall_scanLine]
    split
    · rename_i same
      rw [same]
    · rfl

theorem scan_integ_eq {s t : State} (h : ∀ l, (t.scanLine l).integ = (s.scanLine l).integ) :
    t.scan.map ScanLine.integ = s.scan.map ScanLine.integ := by
  ext i hi
  simpa [State.scanLine] using congrArg Fin.val (h ⟨i, hi⟩)

/-- The entry to ISOLATED moves no integrator (R2). -/
theorem State.enterIsolated_integ (s : State) :
    s.enterIsolated.scan.map ScanLine.integ = s.scan.map ScanLine.integ := by
  rw [State.enterIsolated_eq]
  have isolating : s.isolating.scan = s.scan := by simp [State.isolating]
  split
  · refine scan_integ_eq fun l => ?_
    have reoffered : (s.isolating.reoffer.scanLine l).integ = (s.isolating.scanLine l).integ :=
      startCalls_integ s.isolating.reoffers s.isolating l
    rw [reoffered, State.scanLine, isolating, State.scanLine]
  · rw [isolating]

/-! ## The error -/

/-- The error counted and the error run raised, the receiver waiting for EOF (R77, R83). -/
def State.failing (s : State) (m : Nat) : State :=
  s.setLink { (s.link.recessive m).waitEof with
    reply := none, txErrors := counted s.link.txErrors, errorRun := s.link.errorRun + 1 }

theorem State.transmitFails_eq (s : State) (m : Nat) : s.transmitFails m =
    if 8 ≤ s.link.errorRun + 1 then (s.failing m).flightEnds.enterIsolated else (s.failing m).flightEnds.settle := by
  have failed : s.setLink { (s.link.recessive m).waitEof with
      reply := none, txErrors := counted (s.link.recessive m).waitEof.txErrors,
      errorRun := (s.link.recessive m).waitEof.errorRun + 1 } = s.failing m := by
    simp [State.failing, Link.waitEof]
  have link : (s.failing m).flightEnds.link = (s.failing m).link := by simp
  unfold State.transmitFails
  dsimp only
  rw [failed, link]
  rfl

section
variable {s : State} {m : Nat}

theorem State.transmitFails_few (few : s.link.errorRun < 7) : s.transmitFails m = (s.failing m).flightEnds.settle := by
  rw [State.transmitFails_eq, if_neg (by omega)]

theorem State.transmitFails_many (many : 7 ≤ s.link.errorRun) :
    s.transmitFails m = (s.failing m).flightEnds.enterIsolated := by
  rw [State.transmitFails_eq, if_pos (by omega)]

/-- What an error of the transmitter leaves of the link (R83). -/
theorem State.transmitFails_link (s : State) (m : Nat) : ∃ run, (s.transmitFails m).link =
    { (s.link.recessive m).waitEof with reply := none, txErrors := counted s.link.txErrors, errorRun := run } := by
  rw [State.transmitFails_eq]
  split
  · obtain ⟨link, -⟩ := State.enterIsolated_sets (s.failing m).flightEnds
    exact ⟨0, by rw [link]; simp [State.failing, Link.waitEof]⟩
  · exact ⟨s.link.errorRun + 1, by simp [State.failing]⟩

theorem State.transmitFails_integ (s : State) (m : Nat) :
    (s.transmitFails m).scan.map ScanLine.integ = s.scan.map ScanLine.integ := by
  rw [State.transmitFails_eq]
  split
  · rw [State.enterIsolated_integ]
    simp [State.failing]
  · simp [State.failing]

end

/-- An error where the edges were not given, or were, leaves the mode, the health and the other counters (R89). -/
theorem Link.recessive_keeps (k : Link) (m : Nat) : (k.recessive m).mode = k.mode ∧ (k.recessive m).health = k.health ∧
    (k.recessive m).arbLosses = k.arbLosses ∧ (k.recessive m).rxErrors = k.rxErrors := by
  rw [Link.recessive_eq]
  exact ⟨rfl, rfl, rfl, rfl⟩

/-! ## When a transmitter's 0 is an error -/

section
variable {s : State} {w k : Nat} (run : s.running = true)
include run

theorem exec_transmitError_none (h : ¬ (s.advance w).samplesCell k false = true) :
    exec (.transmitError w (.echo k)) s = .next (s.advance w) := by
  have fine : ¬ sendFaultIsError (.echo k) (s.advance w) = true := fun error => by
    simp only [sendFaultIsError, Bool.and_eq_true] at error
    exact h error.2
  exact (State.act_running w _ run).trans (congrArg _ (if_neg fun due => fine due.2))

theorem exec_transmitError_echo (sending : s.sending = true) (zero : cellBit s.sentBytes k = some false)
    (sampled : (s.advance w).samplesCell k false = true) : exec (.transmitError w (.echo k)) s =
      .next ((s.advance w).transmitFails (sendFaultRecessive (.echo k) (s.advance w))) := by
  have error : sendFaultIsError (.echo k) (s.advance w) = true := by
    have bit : cellBit (s.advance w).sentBytes k = some false := zero
    simp [sendFaultIsError, bit, sampled]
  exact (State.act_running w _ run).trans (congrArg _ (if_pos ⟨sending, error⟩))
end

section
variable {s : State} {k : Nat}

/-- A 0 on a wire seen dominant has no echo error (R79). -/
theorem State.samplesCell_zero_dominant (dominant : s.link.dominant = true) : ¬ s.samplesCell k false = true := by
  intro sampled
  cases flight : s.tx.flight with
  | none =>
    obtain ⟨-, -, ⟨-, recessive⟩ | recessive⟩ := (State.samplesCell_reply_iff flight).1 sampled
    all_goals simp [dominant] at recessive
  | some f =>
    obtain ⟨-, ⟨-, recessive⟩ | ⟨-, recessive⟩⟩ := (State.samplesCell_flight_iff (by simp [flight])).1 sampled
    all_goals simp [dominant] at recessive

theorem State.samplesCell_zero (recessive : s.link.dominant = false)
    (half : s.link.AtHalf (if s.tx.flight.isSome then 4 + k else k) s.now)
    (rx : if s.tx.flight.isSome then s.link.rx = .startMark ∨ s.link.rx = .gap ∨ s.link.rx = .data
      else s.link.rx = .reply) : s.samplesCell k false = true := by
  cases flight : s.tx.flight with
  | none =>
    simp only [flight, Option.isSome_none, Bool.false_eq_true, if_false] at half rx
    exact (State.samplesCell_reply_iff flight).2 ⟨half, rx, .inr recessive⟩
  | some f =>
    simp only [flight, Option.isSome_some, if_true] at half rx
    exact (State.samplesCell_flight_iff (by simp [flight])).2
      ⟨half, rx.imp (fun start => ⟨start, recessive⟩) fun reads => ⟨reads, recessive⟩⟩
end

/-- Settles O32: the echo error at the 1/2 of its cell ends what is sent, and the run tells whether it isolates. -/
theorem transmitErrorsRunToIsolation : Obligations.TransmitErrorsRunToIsolation := by
  unfold Obligations.TransmitErrorsRunToIsolation
  intro s w k run sends zero half
  refine ⟨fun none_ => ?_, fun recessive at_half rx => ?_⟩
  · rcases none_ with dominant | apart
    · exact exec_transmitError_none run (State.samplesCell_zero_dominant dominant)
    · exact exec_transmitError_none run (State.samplesCell_false (.inl apart))
  · have sending : s.sending = true := by simpa [State.sending] using sends
    have sampled := State.samplesCell_zero (s := s.advance w) recessive at_half rx
    refine ⟨_, exec_transmitError_echo run sending zero sampled, ?_⟩
    generalize sendFaultRecessive (.echo k) (s.advance w) = m
    obtain ⟨errors, link⟩ := (s.advance w).transmitFails_link m
    obtain ⟨mode, health, losses, rxErrors⟩ := s.link.recessive_keeps m
    obtain ⟨-, -, -, flight, -⟩ := (s.advance w).transmitFails_sets m
    refine ⟨by rw [link]; rfl, by rw [link]; rfl, by rw [link], by rw [link]; rfl, by rw [link]; exact mode,
      by rw [link]; exact health, by rw [link]; exact rxErrors, by rw [link]; exact losses, flight,
      State.transmitFails_integ _ m, by simp, fun few => ?_, fun many => ?_⟩
    · rw [State.transmitFails_few (s := s.advance w) few]
      refine ⟨by simp [State.failing], by simp [State.failing], by simp [State.failing], fun fl _ => ?_⟩
      exact (State.rejoins_flightEnds ((s.advance w).failing m)).mono fun _ queued other => State.mem_settle queued other
    · rw [State.transmitFails_many (s := s.advance w) many]
      obtain ⟨link, ctl, iso, tx, claim, probe, view, sessions, seize, points⟩ :=
        State.enterIsolated_sets ((s.advance w).failing m).flightEnds
      obtain ⟨sessions', seize', points'⟩ := State.flightEnds_sup ((s.advance w).failing m)
      refine ⟨by rw [link], by rw [ctl]; simp [State.failing], ?_, tx, claim, probe, by rw [view],
        sessions.trans sessions', seize.trans seize', points.trans points'⟩
      rw [iso]
      simp [State.scanTime, State.failing, milli]

end Sys2Proof.Machine
end

section
/-! The link's frames sent: the outcome of a frame at its EOD or EOF, and the isolated probe that leads to REJOIN (R83,
R104, R106, R194). -/

namespace Sys2Proof.Machine
open Sys2Proof

/-! ## A peer's reply judged at its EOD -/

/-- The station with its receiver in this state, and nothing else changed. -/
def State.receiverIn (s : State) (x : RxState) : State := s.setLink { s.link with rx := x }

section
variable {s : State}

/-- Outside REPLY there is no reply to judge (R76). -/
theorem State.replyEod_of_other (rx : s.link.rx ≠ .reply) : s.replyEod = s := if_neg fun due => rx due.1

/-- A whole reply whose check is good leads to AFTER REPLY at its EOD (R76, R81). -/
theorem State.replyEod_of_whole (rx : s.link.rx = .reply) (reply : s.link.reply = none) (bits : s.link.bits = [])
    (good : checkGood s.link.replyBuf = true) (quiet : s.link.quiet eodCells s.now = true) :
    s.replyEod = s.receiverIn .afterReply := by
  have held : s.link.replyBuf ≠ [] := by
    intro empty
    simp [checkGood, empty] at good
  have due : s.link.rx = .reply ∧ s.link.reply = none ∧ s.link.replyUnread = false ∧ s.link.quiet eodCells s.now :=
    ⟨rx, reply, by simp [Link.replyUnread, held], quiet⟩
  have whole : (8 * s.link.replyBuf.length + ([] : List Bool).length) % 8 = 0 := by simp
  have count : s.link.replyBuf.length ≠ 0 := by simpa using held
  refine (if_pos due).trans ?_
  simp [State.receiverIn, State.judgeWire, List.find?, faultIsError, bits, good, count]
end

/-! ## The outcome sent -/

/-- The receiver's place at the outcome sent: EOF for a CLAIM, EOD for any other frame (R83). -/
theorem Link.afterSent_eq (k : Link) (f : Flight) (now : Nat) : k.afterSent f now =
    { k.recessive (now - (if f.frame.key = .claim then eofCells else eodCells) * cell) with
      rx := if f.frame.key = .claim then .idle else .afterData
      mayReply := if f.frame.key = .claim then k.mayReply else false
      frameBuf := f.bytes, bits := [], errorRun := 0 } := by
  cases frame : f.frame <;> simp [Link.afterSent, frame, TxFrame.key, Link.recessive_eq]

/-- A frame's mark is reached once the wire has been recessive for it and the cells have run, or the frame was handed at
that mark already (R83). -/
theorem Link.sentNow_mark_iff (k : Link) (f : Flight) (now : Nat) : k.sentNow f now = true ↔
    (k.dominant = false ∧ k.recessiveFrom + (if f.frame.key = .claim then 4 else 2) * 8 ≤ now) ∧
      ((k.rx = .startMark ∧ f.start + (4 + 8 * f.bytes.length + if f.frame.key = .claim then 4 else 2) * 8 ≤ now) ∨
        (k.rx = .data ∧ k.frameBuf = f.bytes ∧ k.bits = []) ∨
        if f.frame.key = .claim then k.rx = .afterData ∨ k.rx = .afterReply ∨ k.rx = .idle
        else k.rx = .afterData ∧ k.frameBuf = f.bytes) := by
  rw [Link.sentNow_iff]
  split
  · rw [Link.runsTo_iff, Link.quiet_iff]
    simp only [eofCells, cell, frameCells]
    tauto
  · rw [Link.runsTo_iff, Link.quiet_iff]
    simp only [eodCells, cell, frameCells]
    tauto

theorem TxQueue.sent_eq {q : TxQueue} {f : Flight} (flight : q.flight = some f) : q.sent =
    { frames := q.frames.filter (fun x => x.frame.key ≠ f.frame.key) ++ q.waiting.toList
      flight := none, waiting := none } := by
  simp [TxQueue.sent, flight]

/-- A withdrawal with nothing in flight leaves no frame of its key (R106). -/
theorem TxQueue.key_of_withdrawn {q : TxQueue} (grounded : q.flight = none) {k : TxKey} {x : QFrame}
    (left : x ∈ (q.withdraw k).frames) : x.frame.key ≠ k := by
  have none_ : q.inFlight k = false := by simp [TxQueue.inFlight, grounded]
  rw [TxQueue.withdraw, if_neg (by simp [none_])] at left
  simpa using (List.mem_filter.1 left).2

/-- An isolated probe sent in good health (R194). -/
def State.Rejoins (s : State) (f : Flight) : Prop :=
  s.ctl.station = .isolated ∧ f.frame = .report true ∧ s.link.health = .good

/-- The frame in flight has left the queue, and the receiver stands at its mark (R83, R106). -/
def State.frameLeft (s : State) (f : Flight) : State :=
  (s.setTx s.tx.sent).setLink (s.link.afterSent f s.now)

section
variable {s : State} {w : Nat} {f : Flight} (run : s.running = true)
include run

theorem exec_frameSent_early (rx : s.link.rx ≠ .reply) (flight : s.tx.flight = some f)
    (early : ¬ s.link.sentNow f (max s.now w) = true) : exec (.frameSent w) s = .next (s.advance w) := by
  rw [exec, execFrameSent, State.act_running _ _ run]
  dsimp only
  rw [State.replyEod_of_other (s := s.advance w) rx, State.advance_tx, flight]
  exact congrArg _ (if_neg early)

variable {b : State} (judged : (s.advance w).replyEod = b) (flight : b.tx.flight = some f)
  (sent : b.link.sentNow f b.now = true)
include judged flight sent

theorem exec_frameSent_rejoins (probe : b.Rejoins f) : exec (.frameSent w) s = .next (b.frameLeft f).enterRejoin := by
  obtain ⟨isolated, frame, health⟩ := probe
  have recessive (m : Nat) : (b.link.recessive m).health = .good := (Link.recessive_keeps _ m).2.1.trans health
  rw [exec, execFrameSent, State.act_running _ _ run]
  dsimp only
  rw [judged, flight]
  refine congrArg _ ((if_pos sent).trans (if_pos ⟨frame, isolated, ?_⟩))
  rw [State.setLink_link, Link.afterSent_eq]
  exact recessive _

theorem exec_frameSent_left (stays : ¬ b.Rejoins f) : exec (.frameSent w) s = .next (b.frameLeft f) := by
  rw [exec, execFrameSent, State.act_running _ _ run]
  dsimp only
  rw [judged, flight]
  refine congrArg _ ((if_pos sent).trans (if_neg fun ⟨frame, isolated, health⟩ => stays ⟨isolated, frame, ?_⟩))
  rw [State.setLink_link, Link.afterSent_eq] at health
  exact (Link.recessive_keeps _ _).2.1.symm.trans health
end

section
variable {b : State} {f : Flight} (flight : b.tx.flight = some f)
include flight

omit flight in
/-- A frame sent changes the receiver's place and the error run, and no other counter (R83). -/
theorem State.frameLeft_link : ∃ mayReply since edge, (b.frameLeft f).link = { b.link with
    rx := if f.frame.key = .claim then .idle else .afterData, mayReply := mayReply, frameBuf := f.bytes, bits := []
    errorRun := 0, recessiveFrom := since, edgeAt := edge } := by
  rw [State.frameLeft, State.setLink_link, Link.afterSent_eq, Link.recessive_eq]
  exact ⟨_, _, _, rfl⟩

/-- A frame that left the queue left it with nothing in flight and nothing waiting (R104, R106). -/
theorem State.frameLeft_tx : (b.frameLeft f).tx =
    { frames := b.tx.frames.filter (fun x => x.frame.key ≠ f.frame.key) ++ b.tx.waiting.toList, flight := none,
      waiting := none } := by
  rw [State.frameLeft, State.setLink_tx, State.setTx_tx, TxQueue.sent_eq flight]

/-- An isolated probe sent leads to REJOIN with no REPORT left to send (R194). -/
theorem State.enterRejoin_left : (b.frameLeft f).enterRejoin.tx.flight = none ∧
    (b.frameLeft f).enterRejoin.tx.waiting = none ∧
    ∀ x ∈ (b.frameLeft f).enterRejoin.tx.frames, x.frame.key ≠ .report := by
  have tx : (b.frameLeft f).enterRejoin.tx = (b.frameLeft f).tx.withdraw .report := rfl
  have grounded : (b.frameLeft f).tx.flight = none := by rw [State.frameLeft_tx flight]
  rw [tx]
  exact ⟨by simp [grounded], by simp [State.frameLeft_tx flight], fun x left => TxQueue.key_of_withdrawn grounded left⟩
end

/-- At its mark a frame is sent, once a whole reply, which a CLAIM alone can have, has been judged (R76, R83). -/
theorem State.replyEod_at_mark {s : State} {f : Flight}
    (reached : s.link.dominant = false ∧ s.link.recessiveFrom + (if f.frame.key = .claim then 4 else 2) * 8 ≤ s.now)
    (place : ((s.link.rx = .startMark ∧
          f.start + (4 + 8 * f.bytes.length + if f.frame.key = .claim then 4 else 2) * 8 ≤ s.now) ∨
        (s.link.rx = .data ∧ s.link.frameBuf = f.bytes ∧ s.link.bits = [])) ∨
      if f.frame.key = .claim then
        s.link.rx = .afterData ∨ s.link.rx = .afterReply ∨ s.link.rx = .idle ∨
          (s.link.rx = .reply ∧ s.link.reply = none ∧ s.link.bits = [] ∧ checkGood s.link.replyBuf = true)
      else s.link.rx = .afterData ∧ s.link.frameBuf = f.bytes) :
    ∃ x, s.replyEod = s.receiverIn x ∧ (s.receiverIn x).link.sentNow f s.now = true := by
  by_cases rx : s.link.rx = .reply
  · simp only [rx, reduceCtorEq, false_and, false_or] at place
    split at place
    · rename_i claim
      obtain ⟨-, reply, bits, good⟩ := place
      rw [if_pos claim] at reached
      have quiet : s.link.quiet eodCells s.now = true :=
        (Link.quiet_iff _ _ _).2 ⟨reached.1, by simp only [eodCells, cell]; omega⟩
      exact ⟨.afterReply, State.replyEod_of_whole rx reply bits good quiet,
        (Link.sentNow_mark_iff _ _ _).2 ⟨by rw [if_pos claim]; exact reached, by simp [claim, State.receiverIn]⟩⟩
    · exact place.elim
  · refine ⟨s.link.rx, State.replyEod_of_other rx, (Link.sentNow_mark_iff _ _ _).2 ⟨reached, ?_⟩⟩
    rcases place with (timed | read) | handed
    · exact .inl timed
    · exact .inr (.inl read)
    · refine .inr (.inr ?_)
      split at handed
      · rw [if_pos ‹_›]
        simpa [State.receiverIn, rx] using handed
      · rw [if_neg ‹_›]
        exact handed

/-- Settles O33: the mark is told by what the receiver has read, and a probe sent in good health leads on to REJOIN. -/
theorem frameSentLeavesTheQueue : Obligations.FrameSentLeavesTheQueue := by
  unfold Obligations.FrameSentLeavesTheQueue
  intro s w fl run flight quiet ran mark
  refine ⟨fun early => ?_, fun reached at_mark => ?_⟩
  · have other : s.link.rx ≠ .reply := by
      rcases early with rx | ⟨rx, -⟩ | ⟨rx, -⟩ <;> simp [rx]
    refine exec_frameSent_early run other flight fun sent => ?_
    obtain ⟨due, place⟩ := (Link.sentNow_mark_iff _ _ _).1 sent
    rcases early with rx | ⟨-, soon⟩ | ⟨rx, short⟩
    · simp [rx] at place
    · exact soon due
    · rcases place with whole | ⟨data, -⟩ | handed
      · exact short (.inl whole)
      · simp [rx] at data
      · simp [rx] at handed
  · obtain ⟨x, judged, sent⟩ := State.replyEod_at_mark (s := s.advance w) reached at_mark
    have flies : ((s.advance w).receiverIn x).tx.flight = some fl := flight
    obtain ⟨mayReply, since, edge, link⟩ := State.frameLeft_link (b := (s.advance w).receiverIn x) (f := fl)
    by_cases probe : ((s.advance w).receiverIn x).Rejoins fl
    · obtain ⟨grounded, alone, withdrawn⟩ := State.enterRejoin_left flies
      obtain ⟨-, -, scan, dec, calls, -, lko, left, view, hunt, sup, -⟩ :=
        (((s.advance w).receiverIn x).frameLeft fl).enterRejoin_frame
      refine ⟨_, exec_frameSent_rejoins run judged flies sent probe, ?_⟩
      rw [left, link, scan, dec, calls, lko, view, hunt, sup]
      exact ⟨rfl, grounded, alone, rfl, rfl, rfl, rfl, rfl, rfl, rfl, rfl, rfl, rfl, rfl, rfl,
        fun _ => ⟨rfl, rfl, withdrawn⟩, fun stays => absurd probe stays⟩
    · refine ⟨_, exec_frameSent_left run judged flies sent probe, ?_⟩
      rw [link, State.frameLeft_tx flies]
      exact ⟨rfl, rfl, rfl, rfl, rfl, rfl, rfl, rfl, rfl, rfl, rfl, rfl, rfl, rfl, rfl,
        fun rejoins => absurd rejoins probe, fun _ => ⟨rfl, rfl, rfl⟩⟩

end Sys2Proof.Machine
end

section
/-! The link's replies sent: what an acknowledged line command, a clearing of counts or a restart carries out (R83, R101,
R209, R211, R212). -/

namespace Sys2Proof.Machine
open Sys2Proof

/-! ## A reply sent -/

theorem Link.replySentNow_iff (k : Link) (r : Reply) (now : Nat) : k.replySentNow r now = true ↔
    k.rx = .reply ∧ k.dominant = false ∧ k.recessiveFrom + 2 * 8 ≤ now ∧ k.bits = [] ∧
      (k.replyBuf = r.bytes ∨ (k.replyBuf = [] ∧ r.start + (8 * r.bytes.length + 2) * 8 ≤ now)) := by
  simp only [Link.replySentNow, Link.quiet, Bool.and_eq_true, Bool.or_eq_true, Bool.not_eq_true', decide_eq_true_eq,
    and_assoc]
  rfl

/-- The reply is off the wire, the error run 0 and the receiver in AFTER REPLY (R76, R83). -/
def State.replied (s : State) (r : Reply) : State :=
  { s with link := { s.link.recessive (s.now - 2 * 8) with
      rx := .afterReply, reply := none, replyBuf := r.bytes, bits := [], replyDriven := true, errorRun := 0 } }

section
variable {s : State} {r : Reply}

/-- An objection, a status reply and a REFUSED command have no further effect (R101). -/
theorem State.replyWasSent_plain
    (plain : r.kind = .objection ∨ r.kind = .status ∨ ∃ c a, r.kind = .command c a .refused) :
    s.replyWasSent r = s.replied r := by
  unfold State.replyWasSent
  rcases plain with kind | kind | ⟨c, a, kind⟩ <;> simp only [kind, if_true] <;> rfl

/-- Any other command is carried out (R101). -/
theorem State.replyWasSent_command {code arg : Byte} {ack : Ack} (kind : r.kind = .command code arg ack)
    (accepted : ack ≠ .refused) : s.replyWasSent r = (s.replied r).carryOut code arg := by
  unfold State.replyWasSent
  simp only [kind, if_neg accepted]
  rfl
end

section
variable {s : State} {w : Nat} {r : Reply} (run : s.running = true) (reply : s.link.reply = some r)
include run reply

theorem exec_replySent_early (early : ¬ s.link.replySentNow r (max s.now w) = true) :
    exec (.replySent w) s = .next (s.advance w) := by
  rw [exec, execReplySent, State.act_running _ _ run, State.advance_link, reply]
  exact congrArg _ (if_neg early)

theorem exec_replySent_due (due : s.link.replySentNow r (max s.now w) = true) :
    exec (.replySent w) s = .next ((s.advance w).replyWasSent r) := by
  rw [exec, execReplySent, State.act_running _ _ run, State.advance_link, reply]
  exact congrArg _ (if_pos due)
end

/-! ## What a command carries out -/

section
variable (s : State) (l : Line)

theorem State.carryOut_blockLine : s.carryOut 1 (octalByte l) = s.blockLine l := by
  simp only [State.carryOut, octal_octalByte]; rfl

theorem State.carryOut_unblockLine : s.carryOut 2 (octalByte l) = s.unblockLine l := by
  simp only [State.carryOut, octal_octalByte]; rfl

theorem State.carryOut_resetProfile : s.carryOut 5 (octalByte l) =
    s.setDec l { s.decoder l with p := 100, lastM := none, lastR := none } := by
  simp only [State.carryOut, octal_octalByte]; rfl

theorem State.carryOut_clearLine : s.carryOut 6 (octalByte l) = s.clearLineCounts l := by
  simp only [State.carryOut, octal_octalByte]; rfl

theorem State.carryOut_clearAll : s.carryOut 6 8 = s.clearAllCounts := rfl

theorem State.carryOut_restart : s.carryOut 7 0 = s.setCtl { s.ctl with restartDue := true } := rfl
end

section
variable {s : State} {l : Line}

theorem State.blockLine_idle (idle : (s.call l).state = .idle) : s.blockLine l =
    ((s.setCall l { s.call l with state := .blocked }).setLko l (decide ((s.scanLine l).loop = .closed))).setScan l
      { s.scanLine l with guard := .off } := by
  simp [State.blockLine, idle, State.endGuard]

theorem State.blockLine_blocked (blocked : (s.call l).state = .blocked) : s.blockLine l = s := by
  simp [State.blockLine, blocked]

theorem State.blockLine_inCall (calls : (s.call l).state.inCall = true) :
    s.blockLine l = s.setCall l { s.call l with pendingBlock := true } := by
  unfold State.blockLine
  cases state : (s.call l).state <;> simp_all [CallState.inCall]

theorem State.unblockLine_blocked (blocked : (s.call l).state = .blocked) : s.unblockLine l =
    ((s.setCall l { s.call l with state := .idle }).setLko l false).setScan l { s.scanLine l with
      guard := if (s.scanLine l).loop = .closed then .running (s.now / 64) else .off } := by
  simp [State.unblockLine, blocked, State.scanTime, milli]

theorem State.unblockLine_idle (idle : (s.call l).state = .idle) : s.unblockLine l = s := by
  simp [State.unblockLine, idle]

theorem State.unblockLine_inCall (calls : (s.call l).state.inCall = true) :
    s.unblockLine l = s.setCall l { s.call l with pendingBlock := false } := by
  unfold State.unblockLine
  cases state : (s.call l).state <;> simp_all [CallState.inCall]
end

/-! ## Every count cleared -/

/-- Each record of the lines named becomes what `f` makes of it. -/
def eachLine {α : Type} (f : α → α) (lines : List Line) (v : Vector α 8) : Vector α 8 :=
  lines.foldl (fun v (l : Line) => v.set l (f v[l])) v

theorem eachLine_get {α : Type} {f : α → α} (again : ∀ x, f (f x) = f x) (lines : List Line) (v : Vector α 8) (m : Line) :
    (eachLine f lines v)[m] = if m ∈ lines then f v[m] else v[m] := by
  induction lines generalizing v with
  | nil => simp [eachLine]
  | cons l rest ih =>
    have step : (eachLine f (l :: rest) v)[m] = (eachLine f rest (v.set l (f v[l])))[m] := rfl
    rw [step, ih]
    by_cases same : m = l
    · subst same
      simp [again]
    · have apart : l.val ≠ m.val := fun e => same (Fin.ext e.symm)
      simp [same, Vector.getElem_set_ne _ _ apart]

theorem eachLine_all {α : Type} {f : α → α} (again : ∀ x, f (f x) = f x) (v : Vector α 8) :
    eachLine f (List.finRange 8) v = v.map f := by
  ext i hi
  have each := eachLine_get again (List.finRange 8) v ⟨i, hi⟩
  simpa using each

/-- A line's scanner count cleared (R211). -/
def ScanLine.cleared (x : ScanLine) : ScanLine := { x with glitches := 0 }

/-- A call record's counts cleared (R211). -/
def CallRecord.cleared (c : CallRecord) : CallRecord := { c with overflows := 0, lockouts := 0 }

/-- The lines' counts cleared one after another are each record's cleared (R211). -/
theorem clearLines_eq (lines : List Line) (s : State) : lines.foldl State.clearLineCounts s =
    { s with
      scan := eachLine ScanLine.cleared lines s.scan
      dec := eachLine Decoder.cleared lines s.dec
      calls := eachLine CallRecord.cleared lines s.calls } := by
  induction lines generalizing s with
  | nil => rfl
  | cons l rest ih => rw [List.foldl_cons, ih]; rfl

theorem State.clearAllCounts_eq (s : State) : s.clearAllCounts = { s with
    scan := s.scan.map ScanLine.cleared
    dec := s.dec.map Decoder.cleared
    calls := s.calls.map CallRecord.cleared
    link := { s.link with rxErrors := 0, txErrors := 0, arbLosses := 0, failures := 0 }
    view := { s.view with staleReleases := 0, dualHolds := 0, probeReports := 0 } } := by
  have lines := clearLines_eq (List.finRange 8) s
  rw [eachLine_all (f := ScanLine.cleared) fun _ => rfl, eachLine_all (f := Decoder.cleared) fun _ => rfl,
    eachLine_all (f := CallRecord.cleared) fun _ => rfl] at lines
  unfold State.clearAllCounts
  rw [lines]
  rfl

/-- Settles O34: a reply is sent at its own EOD alone, and what it acknowledges is carried out on the records then. -/
theorem lineCommandsAreCarriedOutWhenTheReplyIsSent : Obligations.LineCommandsAreCarriedOutWhenTheReplyIsSent := by
  unfold Obligations.LineCommandsAreCarriedOutWhenTheReplyIsSent
  intro s w r run reply
  refine ⟨fun filled early => ?_, ?_⟩
  · refine exec_replySent_early run reply fun due => ?_
    obtain ⟨rx, -, -, -, place⟩ := (Link.replySentNow_iff _ _ _).1 due
    rcases early with other | ⟨unread, soon⟩
    · exact other rx
    · rcases place with whole | ⟨-, timed⟩
      · exact filled (whole.symm.trans unread)
      · omega
  · intro rx recessive quiet bits place b
    have due := (Link.replySentNow_iff s.link r (max s.now w)).2 ⟨rx, recessive, quiet, bits, place⟩
    have sent := exec_replySent_due run reply due
    have out {code arg : Byte} {ack : Ack} (kind : r.kind = .command code arg ack) (accepted : ack ≠ .refused) :
        exec (.replySent w) s = .next (b.carryOut code arg) := by
      rw [sent, State.replyWasSent_command kind accepted]; rfl
    refine ⟨fun plain => by rw [sent, State.replyWasSent_plain plain]; rfl, fun l ack accepted => ⟨fun kind => ?_,
      fun kind => ?_, fun kind => ?_, fun kind => ?_, fun kind => ?_, fun kind => ?_⟩⟩
    · rw [out kind accepted, State.carryOut_blockLine]
      exact ⟨fun idle => by rw [State.blockLine_idle (s := b) idle]; rfl,
        fun blocked => by rw [State.blockLine_blocked (s := b) blocked],
        fun calls => by rw [State.blockLine_inCall (s := b) calls]; rfl⟩
    · rw [out kind accepted, State.carryOut_unblockLine]
      exact ⟨fun blocked => by rw [State.unblockLine_blocked (s := b) blocked]; rfl,
        fun idle => by rw [State.unblockLine_idle (s := b) idle],
        fun calls => by rw [State.unblockLine_inCall (s := b) calls]; rfl⟩
    · rw [out kind accepted, State.carryOut_resetProfile]; rfl
    · rw [out kind accepted, State.carryOut_clearLine]; rfl
    · rw [out kind accepted, State.carryOut_clearAll, State.clearAllCounts_eq]; rfl
    · rw [out kind accepted, State.carryOut_restart]; rfl

end Sys2Proof.Machine
end

section
/-! The link's receive errors: what is one, what evidence shows it, and what it gives up (R70, R71, R73 to R76, R81, R82,
R94, R212). -/

namespace Sys2Proof.Machine
open Sys2Proof

/-! ## What is an error -/

/-- Bytes whose check is good are refused exactly where no valid frame has them (R94). -/
theorem parseFrame_eq_none_iff {bytes : List Byte} (good : checkGood bytes = true) :
    parseFrame bytes = none ↔ ∀ f : LinkFrame, f.valid = true → bytes ≠ encodeFrame f := by
  refine ⟨fun refused f valid e => ?_, fun others => ?_⟩
  · rw [e, (framesAndBytesAgree.1 f valid).2] at refused
    cases refused
  · rw [Option.eq_none_iff_forall_ne_some]
    intro f parsed
    obtain ⟨valid, e⟩ := framesAndBytesAgree.2 bytes f good parsed
    exact others f valid e

theorem readCell_eq_none_iff (n : Nat) : readCell n = none ↔ n = 0 ∨ n = 4 ∨ 8 ≤ n := by
  unfold readCell
  split_ifs <;> simp <;> omega

theorem readCell_one_iff (n : Nat) (b : Bool) :
    readCell n = some b ↔ if b then 1 ≤ n ∧ n ≤ 3 else 5 ≤ n ∧ n ≤ 7 := by
  unfold readCell
  by_cases one : 1 ≤ n ∧ n ≤ 3
  · rw [if_pos one]
    cases b <;> simp <;> omega
  · rw [if_neg one]
    by_cases zero : 5 ≤ n ∧ n ≤ 7
    · rw [if_pos zero]
      cases b <;> simp <;> omega
    · rw [if_neg zero]
      cases b <;> simp <;> omega

section
variable {x : RxState} (cells : x = .data ∨ x = .reply) (m : Bool) (n : Nat)
include cells

/-- In DATA and in REPLY the receiver reads cells (R74, R76). -/
theorem RxState.mayReadCells : (x.mayRead m .data || x.mayRead m .reply) = true := by
  rcases cells with rfl | rfl <;> simp [RxState.mayRead]

theorem cellWidth_error_iff : faultIsError (.cellWidth n) x m = true ↔ n = 0 ∨ n = 4 ∨ 8 ≤ n := by
  simp [faultIsError, faultMayArise, RxState.mayReadCells cells, readCell_eq_none_iff]

theorem edgeSpacing_error_iff : faultIsError (.edgeSpacing n) x m = true ↔ n < 7 ∨ (9 < n ∧ n < 24) := by
  simp [faultIsError, faultMayArise, RxState.mayReadCells cells]
  rfl

theorem byteBegun_error_iff : faultIsError (.byteBegun n) x m = true ↔ 17 ≤ n := by
  simp [faultIsError, faultMayArise, RxState.mayReadCells cells]
  omega

theorem cellCount_error_iff : faultIsError (.cellCount n) x m = true ↔ n = 0 ∨ ¬ 8 ∣ n := by
  simp [faultIsError, faultMayArise, RxState.mayReadCells cells, Nat.dvd_iff_mod_eq_zero]

theorem checkSum_error_iff (b : List Byte) :
    faultIsError (.checkSum b) x m = true ↔ b = [] ∨ byteSum b ≠ 255 := by
  simp [faultIsError, faultMayArise, RxState.mayReadCells cells, checkGood]
end

theorem startMarkWidth_error_iff (n : Nat) (m : Bool) :
    faultIsError (.startMarkWidth n) .startMark m = true ↔ n < 20 ∨ 32 < n := by
  simp [faultIsError, faultMayArise, RxState.mayRead]
  rfl

theorem gapEdge_error_iff (n : Nat) (m : Bool) : faultIsError (.gapEdge n) .gap m = true ↔ n < 7 ∨ 9 < n := by
  simp [faultIsError, faultMayArise, RxState.mayRead]

theorem gapSilent_error_iff (n : Nat) (m : Bool) : faultIsError (.gapSilent n) .gap m = true ↔ 9 < n := by
  simp [faultIsError, faultMayArise, RxState.mayRead]

theorem frameBytes_error_iff (b : List Byte) (m : Bool) : faultIsError (.frameBytes b) .data m = true ↔
    checkGood b = true ∧ ∀ f : LinkFrame, f.valid = true → b ≠ encodeFrame f := by
  rw [← and_congr_right fun good => parseFrame_eq_none_iff (bytes := b) good]
  simp [faultIsError, faultMayArise, RxState.mayRead]

/-- A stray edge comes before EOF, and outside the reply window where the frame may take a reply (R75, R76). -/
theorem strayEdge_error_iff (n : Nat) (x : RxState) (m : Bool) : faultIsError (.strayEdge n) x m = true ↔
    n < 32 ∧ ((x = .afterData ∧ (m = false ∨ 24 < n)) ∨ (x = .reply ∧ 16 ≤ n) ∨ x = .afterReply) := by
  have limits : eofCells * cell = 32 ∧ 3 * cell = 24 ∧ eodCells * cell = 16 := ⟨rfl, rfl, rfl⟩
  cases x <;> simp [faultIsError, faultMayArise, limits]

/-- In WAIT EOF nothing is read, and in GAP the first cell alone is awaited (R73, R77). -/
theorem faultIsError_of_unread (f : LineFault) (m : Bool) : faultIsError f .waitEof m = false ∧
    (faultIsError f .gap m = true → ∃ d, f = .gapEdge d ∨ f = .gapSilent d) := by
  cases f <;> simp [faultIsError, faultMayArise, RxState.mayRead]

/-! ## What evidence shows -/

section
variable {k : Link} (cells : k.rx = .data ∨ (k.rx = .reply ∧ (k.dominant = true ∨ k.bits ≠ [] ∨ k.replyBuf ≠ [])))
include cells

theorem Link.cellsRead_of_cells : k.cellsRead = true := by
  rcases cells with rx | ⟨rx, seen | bits | bytes⟩ <;> simp [Link.cellsRead, Link.replyUnread, *]

theorem Link.runBuf_of_cells : k.runBuf = if k.rx = .data then k.frameBuf else k.replyBuf := by
  rcases cells with rx | ⟨rx, -⟩ <;> simp [Link.runBuf, rx]

/-- Where the cells were read, the evidence is the cell in hand, the spacing, the byte begun, or the count and the bytes at
EOD (R70, R71, R74, R76, R81). -/
theorem Link.shows_of_cells (now n : Nat) (b : List Byte) :
    (k.shows (.cellWidth n) now = true ↔ k.dominant = true ∧ n = now - k.fallAt) ∧
    (k.shows (.edgeSpacing n) now = true ↔ k.dominant = false ∧ n = now - k.fallAt) ∧
    (k.shows (.byteBegun n) now = true ↔ k.dominant = false ∧ k.bits = [] ∧ n = k.runBuf.length + 1) ∧
    (k.shows (.cellCount n) now = true ↔ (k.dominant = false ∧ k.recessiveFrom + 2 * 8 ≤ now) ∧
      n = 8 * k.runBuf.length + k.bits.length) ∧
    (k.shows (.checkSum b) now = true ↔ (k.dominant = false ∧ k.recessiveFrom + 2 * 8 ≤ now) ∧
      k.bits = [] ∧ b = k.runBuf) ∧
    (k.shows (.frameBytes b) now = true ↔ (k.dominant = false ∧ k.recessiveFrom + 2 * 8 ≤ now) ∧
      k.bits = [] ∧ b = k.runBuf) := by
  have read := Link.cellsRead_of_cells cells
  have eod : (k.dominant = false ∧ k.recessiveFrom + 2 * 8 ≤ now) ↔ k.quiet eodCells now = true :=
    (k.quiet_iff eodCells now).symm
  rw [eod]
  simp [Link.shows, read]
end

section
variable {k : Link} (now n : Nat)

theorem Link.shows_startMark (rx : k.rx = .startMark) : k.shows (.startMarkWidth n) now = true ↔ n = now - k.fallAt := by
  simp [Link.shows, rx]

theorem Link.shows_gap (rx : k.rx = .gap) :
    (k.shows (.gapEdge n) now = true ↔ k.dominant = false ∧ n = now - k.edgeAt) ∧
    (k.shows (.gapSilent n) now = true ↔ k.dominant = false ∧ n = now - k.edgeAt) := by
  simp [Link.shows, rx]

/-- While the start mark is seen to last, it alone is evidence (R73). -/
theorem Link.shows_nothing_else (rx : k.rx = .startMark) (seen : k.dominant = true) :
    k.shows (.gapEdge n) now = false ∧ k.shows (.gapSilent n) now = false ∧ k.shows (.cellWidth n) now = false ∧
      k.shows (.edgeSpacing n) now = false ∧ k.shows (.byteBegun n) now = false ∧ k.shows (.cellCount n) now = false := by
  simp [Link.shows, Link.cellsRead, Link.quiet, rx, seen]
end

/-! ## What an error gives up -/

section
variable (s : State) (m : Nat)

/-- The error counted, and the frame in hand given up (R77, R82). -/
theorem State.receiveFails_eq (undue : s.ctl.restartDue = false) :
    ∃ since edge, s.link.recessiveFrom ≤ since ∧ s.link.edgeAt ≤ edge ∧ s.receiveFails m = { s with
      link := { s.link with
        rx := .waitEof, mayReply := false, frameBuf := [], replyBuf := [], bits := [], own := none
        replyDriven := false, recessiveFrom := since, edgeAt := edge, rxErrors := counted s.link.rxErrors } } := by
  have fails : s.receiveFails m = (s.setLink (s.link.recessive m).waitEof).countRx := by
    simp [State.receiveFails, undue]
  rw [fails, Link.recessive_eq]
  refine ⟨_, _, ?_, ?_, rfl⟩
  · dsimp only [Link.waitEof]
    split <;> simp
  · dsimp only [Link.waitEof]
    split <;> simp

/-- What the beginning of a reset sets (R207). -/
theorem State.beginReset_sets : s.beginReset.inReset = true ∧ s.beginReset.linkPin = false ∧
    s.beginReset.ctl.ready = false ∧ s.beginReset.ctl.alarm = false ∧ (∀ u : Trunk, s.beginReset.sup.seize[u] = false) ∧
    ∀ i, (s.beginReset.sender i).output = 512 := by
  refine ⟨rfl, rfl, rfl, rfl, fun u => ?_, fun i => ?_⟩ <;> simp [State.beginReset, State.sender]

/-- After a carried-out RESTART the error begins its reset (R212). -/
theorem State.receiveFails_restarts (due : s.ctl.restartDue = true) :
    s.receiveFails m = (s.setLink (s.link.recessive m).waitEof).countRx.beginReset := by
  simp [State.receiveFails, due]
end

section
variable {s : State} {w : Nat} {f : LineFault} (run : s.running = true)
include run

theorem exec_receiveError_none (unseen : s.link.shows f (max s.now w) = false) :
    exec (.receiveError w f) s = .next (s.advance w) := by
  refine (State.act_running w _ run).trans (congrArg _ (if_neg fun due => ?_))
  have seen : s.link.shows f (max s.now w) = true := due.2.2.2
  rw [unseen] at seen
  cases seen

theorem exec_receiveError_seen (wire : s.link.mode = .wire) (silent : s.sending = false)
    (error : faultIsError f s.link.rx s.link.mayReply = true) (seen : s.link.shows f (max s.now w) = true) :
    exec (.receiveError w f) s = .next ((s.advance w).receiveFails (faultRecessive f (max s.now w))) := by
  have reads : s.link.rx ≠ .waitEof := fun rx => by
    rw [rx, (faultIsError_of_unread f _).1] at error
    cases error
  have quiet : ¬ (s.advance w).sending = true := by
    have same : (s.advance w).sending = s.sending := rfl
    simp [same, silent]
  exact (State.act_running w _ run).trans (congrArg _ ((if_pos ⟨wire, reads, error, seen⟩).trans (if_neg quiet)))
end

/-- Settles O36: what is an error by its limits, what shows it, and what the one counted gives up. -/
theorem receiveErrorsAreCountedOnce : Obligations.ReceiveErrorsAreCountedOnce := by
  unfold Obligations.ReceiveErrorsAreCountedOnce
  refine ⟨fun m n b x cells => ⟨cellWidth_error_iff cells m n, edgeSpacing_error_iff cells m n,
    byteBegun_error_iff cells m n, cellCount_error_iff cells m n, checkSum_error_iff cells m b⟩,
    fun m n b => ⟨startMarkWidth_error_iff n m, gapEdge_error_iff n m, gapSilent_error_iff n m,
      frameBytes_error_iff b m, ?_, ?_, ?_, ?_⟩, faultIsError_of_unread,
    fun k now n => ⟨Link.shows_startMark now n, Link.shows_gap now n, Link.shows_nothing_else now n⟩, ?_, ?_⟩
  · simp [strayEdge_error_iff]
  · simp [strayEdge_error_iff, and_comm]
  · simp [strayEdge_error_iff, and_comm]
  · simp [strayEdge_error_iff]
  · intro k now n b cells bytes eod
    have same : k.runBuf = bytes := Link.runBuf_of_cells cells
    rw [← same]
    exact Link.shows_of_cells cells now n b
  · intro s w f run wire flight reply error
    have silent : s.sending = false := by simp [State.sending, flight, reply]
    refine ⟨exec_receiveError_none run, fun seen => ?_⟩
    rw [exec_receiveError_seen run wire silent error seen]
    refine ⟨fun undue => ?_, fun due => ?_⟩
    · obtain ⟨since, edge, later, last, fails⟩ :=
        (s.advance w).receiveFails_eq (faultRecessive f (max s.now w)) undue
      exact ⟨since, edge, later, last, congrArg _ fails⟩
    · rw [(s.advance w).receiveFails_restarts _ due]
      obtain ⟨reset, pin, ready, alarm, seize, outputs⟩ := (((s.advance w).setLink
        ((s.link.recessive (faultRecessive f (max s.now w))).waitEof)).countRx).beginReset_sets
      refine ⟨_, rfl, reset, pin, ?_, ready, alarm, seize, outputs⟩
      simp [State.beginReset, State.countRx, Link.waitEof]

end Sys2Proof.Machine
end

section
/-! The link's frames ended: the receiver at EOF, a reply that fails its judgement, and the reset of a RESTART (R75 to R77,
R81, R99, R212). -/

namespace Sys2Proof.Machine
open Sys2Proof

/-! ## The receiver's judgement -/

section
variable {s : State} {k : Link} {faults : List LineFault}

theorem State.judgeWire_passes (sound : ∀ f ∈ faults, ¬ faultIsError f s.link.rx s.link.mayReply = true) :
    s.judgeWire faults k = s.setLink k := by
  have found : faults.find? (fun f => faultIsError f s.link.rx s.link.mayReply) = none := List.find?_eq_none.2 sound
  simp [State.judgeWire, found]

/-- With nothing of this station's on the wire, an error found is counted and gives up the frame (R77, R82). -/
theorem State.judgeWire_fails (wire : s.link.mode = .wire) (silent : s.sending = false)
    (undue : s.ctl.restartDue = false) (reads : s.link.ReadsOn k)
    (wrong : ∃ f ∈ faults, faultIsError f s.link.rx s.link.mayReply = true) :
    ∃ since edge, s.judgeWire faults k = { s with link := { k with
      rx := .waitEof, mayReply := false, frameBuf := [], replyBuf := [], bits := [], own := none
      replyDriven := false, recessiveFrom := since, edgeAt := edge, rxErrors := counted s.link.rxErrors } } := by
  obtain ⟨f, found⟩ := Option.isSome_iff_exists.1 (List.find?_isSome.2 wrong)
  have mode : (s.setLink k).link.mode = .wire := reads.mode.trans wire
  have quiet : ¬ (s.setLink k).sending = true := by
    have same : (s.setLink k).sending = s.sending := by simp [State.sending, reads.reply]
    simp [same, silent]
  obtain ⟨since, edge, -, -, fails⟩ := (s.setLink k).receiveFails_eq (faultRecessive f s.now) undue
  refine ⟨since, edge, ?_⟩
  rw [State.judgeWire, found]
  dsimp only
  rw [State.signalFails, mode]
  dsimp only
  rw [State.wireError, if_neg quiet, fails, ← reads.rxErrors]
  rfl

/-- The bytes of a reply that another station drives are judged 2 cells after the end of its last cell (R76). -/
theorem State.replyEod_judges (rx : s.link.rx = .reply) (reply : s.link.reply = none)
    (begun : s.link.replyUnread = false) (quiet : s.link.quiet eodCells s.now = true) : s.replyEod = s.judgeWire
      [.cellCount (8 * s.link.replyBuf.length + s.link.bits.length), .checkSum s.link.replyBuf]
      { s.link with rx := .afterReply } :=
  if_pos ⟨rx, reply, begun, quiet⟩
end

/-! ## The end of a frame -/

/-- Where no cell is read, the recessive time and the last edge are moved to their bounds (R72). -/
theorem Link.recessive_of_unread {k : Link} (unread : k.cellsRead = false) (t : Nat) : k.recessive t =
    { k with recessiveFrom := max k.recessiveFrom t, edgeAt := max k.edgeAt (t - 8) } := by
  rw [Link.recessive_eq, unread]
  rfl

/-- The receiver in IDLE at an EOF (R72, R75). -/
def Link.idleAt (k : Link) (now : Nat) : Link :=
  { k with rx := .idle, recessiveFrom := max k.recessiveFrom (now - 4 * 8), edgeAt := max k.edgeAt (now - 4 * 8 - 8) }

/-- The frame in hand is given up (R75). -/
def Link.givenUp (k : Link) : Link :=
  { k with mayReply := false, frameBuf := [], replyBuf := [], bits := [], own := none, replyDriven := false }

theorem Link.afterEof_of_unread {k : Link} (unread : k.cellsRead = false) (now : Nat) :
    k.afterEof now = (k.idleAt now).givenUp := by
  rw [Link.afterEof, Link.recessive_of_unread unread]
  rfl

theorem Link.atEof_of_unread {k : Link} (unread : k.cellsRead = false) (now : Nat) : k.atEof now =
    if k.claimInHand then { k.idleAt now with mayReply := false } else (k.idleAt now).givenUp := by
  rw [Link.atEof_eq, Link.afterEof_of_unread unread, Link.recessive_of_unread unread]
  rfl

theorem Link.claimInHand_eq (k : Link) :
    k.claimInHand = match k.frameBuf with | h :: _ => decide (h.toNat / 16 = 2) | [] => false := by
  unfold Link.claimInHand
  cases k.frameBuf <;> rfl

/-- The receiver takes an EOF; a carried-out RESTART begins its reset (R75, R212). -/
def State.eofTaken (s : State) : State :=
  if s.ctl.restartDue then (s.setLink (s.link.atEof s.now)).beginReset else s.setLink (s.link.atEof s.now)

section
variable {s : State} {w : Nat} (run : s.running = true)
include run

section
variable {b : State} (judged : (s.advance w).replyEod = b)
include judged

theorem exec_frameEof_none (h : ¬ b.awaitsEof = true) : exec (.frameEof w) s = .next b := by
  rw [exec, execFrameEof, State.act_running _ _ run]
  dsimp only
  rw [judged]
  exact congrArg _ (if_neg fun due => h due.2.1)

theorem exec_frameEof_due (wire : b.link.mode = .wire) (awaits : b.awaitsEof = true) (reply : b.link.reply = none)
    (quiet : b.link.quiet eofCells b.now = true) : exec (.frameEof w) s = .next b.eofTaken := by
  rw [exec, execFrameEof, State.act_running _ _ run]
  dsimp only
  rw [judged]
  exact congrArg _ (if_pos ⟨wire, awaits, by simp [reply], quiet⟩)
end

theorem exec_receiverIdle_due (wire : s.link.mode = .wire) (silent : s.sending = false)
    (ended : s.link.rx = .waitEof ∨ (s.link.rx = .afterData ∧ s.link.mayReply = false))
    (quiet : s.link.quiet eofCells (max s.now w) = true) :
    exec (.receiverIdle w) s = .next ((s.advance w).setLink (s.link.afterEof (max s.now w))) := by
  have still : (!(s.advance w).sending) = true := by
    have same : (s.advance w).sending = s.sending := rfl
    simp [same, silent]
  exact (State.act_running w _ run).trans (congrArg _ (if_pos ⟨by simp [wire], still, ended, quiet⟩))
end

/-- The reply is judged where one was read, and the receiver then waits for EOF with no cell in hand (R75, R76). -/
theorem State.replyEod_before_eof {s : State} (recessive : s.link.dominant = false)
    (reached : s.link.recessiveFrom + 4 * 8 ≤ s.now) (reply : s.link.reply = none)
    (place : (s.link.rx = .afterData ∧ s.link.mayReply = true) ∨ s.link.rx = .afterReply ∨
      (s.link.rx = .reply ∧ (((s.link.bits = [] ∧ s.link.replyBuf = []) ∧ s.link.fallAt + (8 + 4) * 8 ≤ s.now) ∨
        (s.link.bits = [] ∧ checkGood s.link.replyBuf = true)))) :
    ∃ x, s.replyEod = s.receiverIn x ∧ (s.receiverIn x).awaitsEof = true ∧ (s.receiverIn x).link.cellsRead = false := by
  rcases place with ⟨rx, may⟩ | rx | ⟨rx, ⟨unread, timed⟩ | ⟨bits, good⟩⟩
  · exact ⟨s.link.rx, State.replyEod_of_other (by simp [rx]), by simp [State.awaitsEof, State.receiverIn, rx, may],
      by simp [Link.cellsRead, State.receiverIn, rx]⟩
  · exact ⟨s.link.rx, State.replyEod_of_other (by simp [rx]), by simp [State.awaitsEof, State.receiverIn, rx],
      by simp [Link.cellsRead, State.receiverIn, rx]⟩
  · have nothing : s.link.replyUnread = true := (Link.replyUnread_iff _).2 unread
    refine ⟨s.link.rx, State.replyEod_of_unread nothing, ?_, ?_⟩
    · simp only [State.awaitsEof, State.receiverIn, State.setLink_link, rx]
      exact decide_eq_true timed
    · show s.link.cellsRead = false
      simp [Link.cellsRead, rx, recessive, nothing]
  · have quiet : s.link.quiet eodCells s.now = true :=
      (Link.quiet_iff _ _ _).2 ⟨recessive, by simp only [eodCells, cell]; omega⟩
    exact ⟨.afterReply, State.replyEod_of_whole rx reply bits good quiet, by simp [State.awaitsEof, State.receiverIn],
      by simp [Link.cellsRead, State.receiverIn]⟩

/-- A reply read in part, or whose check fails, is an error at its EOD (R76, R81). -/
theorem bad_reply_is_error {k : Link} (rx : k.rx = .reply)
    (bad : k.bits.length % 8 ≠ 0 ∨ checkGood k.replyBuf = false) :
    ∃ f ∈ [LineFault.cellCount (8 * k.replyBuf.length + k.bits.length), .checkSum k.replyBuf],
      faultIsError f k.rx k.mayReply = true := by
  rcases bad with part | check
  · exact ⟨_, List.mem_cons_self, (cellCount_error_iff (.inr rx) _ _).2 (.inr (by omega))⟩
  · refine ⟨.checkSum k.replyBuf, by simp, ?_⟩
    simp [faultIsError, faultMayArise, RxState.mayReadCells (.inr rx), check]

/-- Settles O38: the reply is judged first, and what is left at EOF is IDLE, WAIT EOF after an error, or the reset. -/
theorem endOfFrameReturnsTheReceiverToIdle : Obligations.EndOfFrameReturnsTheReceiverToIdle := by
  unfold Obligations.EndOfFrameReturnsTheReceiverToIdle
  intro s w run wire recessive reached idle clear claimed unread
  have eof : s.link.quiet eofCells (max s.now w) = true := (Link.quiet_iff _ _ _).2 ⟨recessive, reached⟩
  refine ⟨fun reply place => ?_, fun flight reply undue rx read bad => ?_, fun flight reply => ⟨fun ended => ?_,
    fun rx closed undue other => ?_⟩⟩
  · obtain ⟨x, judged, awaits, noCell⟩ := State.replyEod_before_eof (s := s.advance w) recessive reached reply place
    rw [exec_frameEof_due run judged wire awaits reply eof, State.eofTaken, Link.atEof_of_unread noCell,
      Link.claimInHand_eq]
    refine ⟨fun undue => ?_, fun due => ?_⟩
    · have calm : ((s.advance w).receiverIn x).ctl.restartDue = false := undue
      rw [if_neg (ne_true_of_eq_false calm)]
      rfl
    · rw [if_pos (show ((s.advance w).receiverIn x).ctl.restartDue = true from due)]
      obtain ⟨reset, pin, ready, alarm, seize, outputs⟩ := State.beginReset_sets _
      exact ⟨_, rfl, reset, pin, seize, ready, alarm, outputs⟩
  · have silent : (s.advance w).sending = false := by simp [State.sending, flight, reply]
    have begun : s.link.replyUnread = false := by
      rw [Bool.eq_false_iff]
      exact fun nothing => read ((Link.replyUnread_iff _).1 nothing)
    have eod : s.link.quiet eodCells (max s.now w) = true :=
      (Link.quiet_iff _ _ _).2 ⟨recessive, by simp only [eodCells, cell]; omega⟩
    obtain ⟨since, edge, fails⟩ := State.judgeWire_fails (s := s.advance w) (k := { s.link with rx := .afterReply })
      wire silent undue (Link.readsOn_rx (Link.readsOn_refl _) _) (bad_reply_is_error rx bad)
    have judged := (State.replyEod_judges (s := s.advance w) rx reply begun eod).trans fails
    refine ⟨_, exec_frameEof_none run judged (by simp [State.awaitsEof]), rfl, rfl, rfl, rfl, rfl, rfl, rfl⟩
  · have silent : s.sending = false := by simp [State.sending, flight, reply]
    have noCell : s.link.cellsRead = false := by
      rcases ended with rx | ⟨rx, -⟩ <;> simp [Link.cellsRead, rx]
    rw [exec_receiverIdle_due run wire silent ended eof, Link.afterEof_of_unread noCell]
    rfl
  · have noCell : (s.advance w).link.cellsRead = false := by simp [Link.cellsRead, rx]
    have awaits : (s.advance w).awaitsEof = true := by simp [State.awaitsEof, rx, State.sending, flight, reply]
    have judged : (s.advance w).replyEod = s.advance w := State.replyEod_of_other (by simp [rx])
    have calm : (s.advance w).ctl.restartDue = false := undue
    have kind : (s.advance w).link.claimInHand = false := (Link.claimInHand_eq _).trans other
    rw [exec_frameEof_due run judged wire awaits reply eof, State.eofTaken, if_neg (ne_true_of_eq_false calm),
      Link.atEof_of_unread noCell, kind]
    rfl

end Sys2Proof.Machine
end

section
/-! The wire read (R69 to R77): each edge, by the receiver's state, and the bytes of the cells. -/

namespace Sys2Proof.Machine
open Sys2Proof

/-! ## The byte of eight cells -/

/-- A cell moves the bits read one place up and takes the lowest (R74). -/
theorem byteOfBits_concat (bits : List Bool) (b : Bool) :
    byteOfBits (bits ++ [b]) = (byteOfBits bits).shiftConcat b := by
  apply BitVec.eq_of_toNat_eq
  cases b <;> simp [byteOfBits, BitVec.toNat_shiftConcat, Nat.shiftLeft_eq] <;> omega

theorem getLsbD_byteOfBits (bits : List Bool) (j : Nat) (inside : j < 8) :
    (byteOfBits bits).getLsbD j = bits.reverse.getD j false := by
  induction bits using List.reverseRecOn generalizing j with
  | nil => simp [byteOfBits]
  | append_singleton bits b ih =>
    rw [byteOfBits_concat, BitVec.getLsbD_shiftConcat]
    cases j with
    | zero => simp
    | succ j => simp [inside, ih j (by omega)]

/-- The first of eight cells is the most significant bit (R69). -/
theorem getLsbD_byteOfBits_of_eight {bits : List Bool} (eight : bits.length = 8) {i : Nat} (inside : i < 8) :
    (byteOfBits bits).getLsbD (7 - i) = bits.getD i false := by
  rw [getLsbD_byteOfBits _ _ (by omega), List.getD_eq_getElem?_getD, List.getElem?_reverse (by omega),
    List.getD_eq_getElem?_getD, show bits.length - 1 - (7 - i) = i by omega]

/-! ## One edge -/

/-- The state in which the sample at the front is read (R68). -/
def State.sampling (s : State) (x : WireSample) (rest : List WireSample) : State :=
  { s with wire := rest }.advance x.when

/-- The step finds a receive error, counts it and waits for EOF (R77, R82). -/
def State.GivesUp (s : State) (level : Bool) : Prop :=
  ∃ t, step s = .next t ∧ t.link.rx = .waitEof ∧ t.link.rxErrors = counted s.link.rxErrors ∧
    t.link.dominant = level ∧ t.ctl = s.ctl ∧ t.view = s.view ∧ t.tx = s.tx ∧ t.calls = s.calls

/-- The step leads the receiver's record to `k` and changes nothing else. -/
def State.ReadsTo (s : State) (x : WireSample) (rest : List WireSample) (k : Link) : Prop :=
  step s = .next { s.sampling x rest with link := k }

theorem State.replyEod_of_unquiet {s : State} (early : ¬ s.link.quiet eodCells s.now = true) : s.replyEod = s :=
  if_neg fun due => early due.2.2.2

section
variable {s : State} {x : WireSample} {rest : List WireSample} (run : s.running = true) (empty : s.pending = [])
  (front : s.wire = x :: rest) (wire : s.link.mode = .wire)
include run empty front wire

/-- Where no reply EOD is due, a change of level is read as its edge (R68). -/
theorem step_edge (unjudged : (s.sampling x rest).replyEod = s.sampling x rest)
    (change : s.link.dominant ≠ x.dominant) :
    step s = .next (if x.dominant then (s.sampling x rest).wireFalls else (s.sampling x rest).wireRises) := by
  have same : (s.sampling x rest).link = s.link := rfl
  have mode : (s.sampling x rest).link.mode ≠ .loopback := by simp [same, wire]
  rw [step_wire empty front, State.act_running x.when _ (show { s with wire := rest }.running = true from run)]
  refine congrArg Host.Outcome.next (show (s.sampling x rest).readWire x.dominant = _ from ?_)
  rw [State.readWire, unjudged, State.levelSeen_of_not_loopback mode, same]
  cases after : x.dominant
  · have before : s.link.dominant = true := by simpa [after] using change
    rw [before]
    rfl
  · have before : s.link.dominant = false := by simpa [after] using change
    rw [before]
    rfl

/-- On a dominant wire no reply EOD is due (R76). -/
theorem step_rises (dominant : s.link.dominant = true) (level : x.dominant = false) :
    step s = .next (s.sampling x rest).wireRises := by
  have unjudged : (s.sampling x rest).replyEod = s.sampling x rest := State.replyEod_of_unquiet fun quiet =>
    Bool.false_ne_true (((Link.quiet_iff _ _ _).1 quiet).1.symm.trans dominant)
  rw [step_edge run empty front wire unjudged (by simp [dominant, level]), level]
  rfl

theorem step_falls (dominant : s.link.dominant = false) (level : x.dominant = true)
    (early : s.link.rx = .reply → max s.now x.when < s.link.recessiveFrom + 16) :
    step s = .next (s.sampling x rest).wireFalls := by
  have unjudged : (s.sampling x rest).replyEod = s.sampling x rest := by
    by_cases rx : s.link.rx = .reply
    · exact State.replyEod_of_unquiet fun quiet =>
        absurd (early rx) (Nat.not_lt.2 ((Link.quiet_iff _ _ _).1 quiet).2)
    · exact State.replyEod_of_other rx
  rw [step_edge run empty front wire unjudged (by simp [dominant, level]), level]
  rfl
end

/-! ## What an edge is judged by -/

section
variable {s : State} {x : WireSample} {rest : List WireSample} (wire : s.link.mode = .wire) (flight : s.tx.flight = none)
  (reply : s.link.reply = none) (undue : s.ctl.restartDue = false)
  {faults : List LineFault} {k : Link} (judges : step s = .next ((s.sampling x rest).judgeWire faults k))
include judges

theorem readsTo_of_sound (sound : ∀ f ∈ faults, ¬ faultIsError f s.link.rx s.link.mayReply = true) :
    s.ReadsTo x rest k :=
  judges.trans (congrArg _ (State.judgeWire_passes sound))

include wire flight reply undue

theorem givesUp_of_fault (reads : s.link.ReadsOn k) (level : k.dominant = x.dominant)
    (wrong : ∃ f ∈ faults, faultIsError f s.link.rx s.link.mayReply = true) : s.GivesUp x.dominant := by
  have silent : (s.sampling x rest).sending = false := by simp [State.sampling, State.sending, flight, reply]
  obtain ⟨since, edge, fails⟩ := State.judgeWire_fails (s := s.sampling x rest) wire silent undue reads wrong
  exact ⟨_, judges.trans (congrArg _ fails), rfl, rfl, level, rfl, rfl, rfl, rfl⟩

/-- The edge is an error exactly where one of the faults it is judged by is one. -/
theorem judged_edge {bad : Prop} [Decidable bad] (reads : s.link.ReadsOn k) (level : k.dominant = x.dominant)
    (judgement : (∃ f ∈ faults, faultIsError f s.link.rx s.link.mayReply = true) ↔ bad) :
    if bad then s.GivesUp x.dominant else s.ReadsTo x rest k := by
  by_cases h : bad
  · rw [if_pos h]
    exact givesUp_of_fault wire flight reply undue judges reads level (judgement.2 h)
  · rw [if_neg h]
    exact readsTo_of_sound judges fun f mem wrong => h (judgement.1 ⟨f, mem, wrong⟩)
end

theorem exists_fault_singleton (f : LineFault) (x : RxState) (m : Bool) :
    (∃ g ∈ [f], faultIsError g x m = true) ↔ faultIsError f x m = true := by simp

/-! ## The edges by the receiver's state -/

section
variable {s : State}

theorem State.wireFalls_idle (rx : s.link.rx = .idle) :
    s.wireFalls = s.setLink { s.link.beginFrame none s.now with dominant := true } := by
  simp [State.wireFalls, State.idleByNow, rx]

theorem State.wireFalls_gap (rx : s.link.rx = .gap) : s.wireFalls =
    s.judgeWire [.gapEdge (s.now - s.link.edgeAt)] { s.link.fell s.now with rx := .data } := by
  simp [State.wireFalls, State.idleByNow, rx]

/-- Within 3 cells of the last falling edge, the next is judged as a cell of the run (R71, R74). -/
theorem State.nextCell_near (bytes : List Byte) (k : Link) (near : s.now - s.link.fallAt < 24) :
    s.nextCell bytes k = s.judgeWire [.edgeSpacing (s.now - s.link.fallAt), .byteBegun (bytes.length + 1)] k :=
  if_neg (Nat.not_le.2 near)

theorem State.wireFalls_data (rx : s.link.rx = .data) :
    s.wireFalls = s.nextCell s.link.frameBuf (s.link.fell s.now) := by
  simp [State.wireFalls, State.idleByNow, rx]

theorem State.wireFalls_reply (rx : s.link.rx = .reply) (begun : s.link.replyUnread = false) :
    s.wireFalls = s.nextCell s.link.replyBuf (s.link.fell s.now) := by
  simp [State.wireFalls, State.idleByNow, rx, begun]

theorem State.wireFalls_afterReply (rx : s.link.rx = .afterReply) :
    s.wireFalls = s.judgeWire [.strayEdge (s.now - s.link.recessiveFrom)] (s.link.fell s.now) := by
  simp [State.wireFalls, State.idleByNow, rx]

/-- Before EOF the receiver behind a frame is not in IDLE (R75, R77). -/
theorem State.idleByNow_early (rx : s.link.rx = .afterData ∨ s.link.rx = .waitEof)
    (early : s.now < s.link.recessiveFrom + 32) : s.idleByNow = false := by
  have mark : ¬ s.link.recessiveFrom + eofCells * cell ≤ s.now := Nat.not_le.2 early
  rcases rx with rx | rx <;> simp [State.idleByNow, rx, mark]

theorem State.wireFalls_waitEof (rx : s.link.rx = .waitEof) (early : s.now < s.link.recessiveFrom + 32) :
    s.wireFalls = s.setLink (s.link.fell s.now) := by
  simp [State.wireFalls, State.idleByNow_early (.inr rx) early, rx]

/-- The reply window is 2 to 3 cells behind the data (R76). -/
theorem State.wireFalls_afterData (rx : s.link.rx = .afterData) (early : s.now < s.link.recessiveFrom + 32) :
    s.wireFalls = if s.link.mayReply = true ∧ 16 ≤ s.now - s.link.recessiveFrom ∧ s.now - s.link.recessiveFrom ≤ 24 then
      s.setLink { s.link.fell s.now with rx := .reply }
    else s.judgeWire [.strayEdge (s.now - s.link.recessiveFrom)] (s.link.fell s.now) := by
  simp only [State.wireFalls, State.idleByNow_early (.inl rx) early, rx]
  rfl

theorem State.wireRises_startMark (rx : s.link.rx = .startMark) : s.wireRises =
    s.judgeWire [.startMarkWidth (s.now - s.link.fallAt)] { s.link.rose s.now with rx := .gap } := by
  simp [State.wireRises, rx]

theorem State.wireRises_cell (rx : s.link.rx = .data ∨ s.link.rx = .reply) : s.wireRises =
    s.judgeWire [.cellWidth (s.now - s.link.fallAt)]
      ((s.link.rose s.now).readBit ((readCell (s.now - s.link.fallAt)).getD false)) := by
  rcases rx with rx | rx <;> simp [State.wireRises, rx]
end

/-! ## A cell read -/

section
variable {k : Link}

/-- After a cell the wire's recessive time runs from the end of that cell (R72). -/
theorem Link.rose_cell (rx : k.rx = .data ∨ k.rx = .reply) (now : Nat) : k.rose now = { k with
    dominant := false, edgeAt := now, recessiveFrom := max k.recessiveFrom (max now (k.fallAt + 8)) } := by
  rw [Link.rose, if_pos rx]
  rfl

theorem Link.rose_other {x : RxState} (rx : k.rx = x) (other : x ≠ .data ∧ x ≠ .reply) (now : Nat) :
    k.rose now = { k with dominant := false, edgeAt := now, recessiveFrom := max k.recessiveFrom now } := by
  rw [Link.rose, rx, if_neg (by simpa using other)]

/-- In WAIT EOF a rising edge restarts the recessive time and no cell is read (R77). -/
theorem State.wireRises_waitEof {s : State} (rx : s.link.rx = .waitEof) : s.wireRises = s.setLink { s.link with
    dominant := false, edgeAt := s.now, recessiveFrom := max s.link.recessiveFrom s.now } := by
  rw [← Link.rose_other rx (by decide)]
  simp [State.wireRises, rx]

theorem Link.readBit_short (rx : k.rx = .data ∨ k.rx = .reply) (short : k.bits.length < 7) (b : Bool) :
    k.readBit b = { k with bits := k.bits ++ [b] } := by
  rcases rx with rx | rx <;> simp [Link.readBit, rx, gather, short.ne]

theorem Link.readBit_data (rx : k.rx = .data) (last : k.bits.length = 7) (b : Bool) :
    k.readBit b = { k with frameBuf := k.frameBuf ++ [byteOfBits (k.bits ++ [b])], bits := [] } := by
  simp [Link.readBit, rx, gather, last]

theorem Link.readBit_reply (rx : k.rx = .reply) (last : k.bits.length = 7) (b : Bool) :
    k.readBit b = { k with replyBuf := k.replyBuf ++ [byteOfBits (k.bits ++ [b])], bits := [] } := by
  simp [Link.readBit, rx, gather, last]
end

theorem Link.readBit_dominant (k : Link) (b : Bool) : (k.readBit b).dominant = k.dominant := by
  unfold Link.readBit
  split <;> rfl

/-- A run's next cell is an error where its spacing is, or where it begins a seventeenth byte (R71, R74). -/
theorem nextCell_error_iff {x : RxState} (cells : x = .data ∨ x = .reply) (m : Bool) {d : Nat} (near : d < 24)
    (bytes : List Byte) : (∃ f ∈ [LineFault.edgeSpacing d, .byteBegun (bytes.length + 1)], faultIsError f x m = true) ↔
      d < 7 ∨ 9 < d ∨ 16 ≤ bytes.length := by
  simp only [List.mem_cons, List.not_mem_nil, or_false, exists_eq_or_imp, exists_eq_left, edgeSpacing_error_iff cells,
    byteBegun_error_iff cells]
  omega

/-! ## The falling edge, state by state -/

section
variable {s : State} {x : WireSample} {rest : List WireSample} {n : Nat} (now : n = max s.now x.when)
  (wire : s.link.mode = .wire) (flight : s.tx.flight = none) (reply : s.link.reply = none)
  (undue : s.ctl.restartDue = false)
include now wire flight reply undue

section
variable (level : x.dominant = true) (falls : step s = .next (s.sampling x rest).wireFalls)
include level falls

theorem edge_in_gap (rx : s.link.rx = .gap) : if n - s.link.edgeAt < 7 ∨ 9 < n - s.link.edgeAt then s.GivesUp x.dominant
    else s.ReadsTo x rest { s.link.fell n with rx := .data } := by
  subst now
  refine judged_edge wire flight reply undue (falls.trans (congrArg _ (State.wireFalls_gap rx)))
    (Link.readsOn_rx (s.link.readsOn_fell _) _) level.symm ((exists_fault_singleton _ _ _).trans ?_)
  rw [rx]
  exact gapEdge_error_iff _ _

/-- A run's next cell, in the frame and in the reply (R71, R74). -/
theorem edge_in_cells (rx : s.link.rx = .data ∨ s.link.rx = .reply) {bytes : List Byte}
    (run : (s.sampling x rest).wireFalls = (s.sampling x rest).nextCell bytes (s.link.fell n))
    (near : n - s.link.fallAt < 24) :
    if n - s.link.fallAt < 7 ∨ 9 < n - s.link.fallAt ∨ 16 ≤ bytes.length then s.GivesUp x.dominant
    else s.ReadsTo x rest (s.link.fell n) := by
  subst now
  exact judged_edge wire flight reply undue
    (falls.trans (congrArg _ (run.trans (State.nextCell_near _ _ near)))) (s.link.readsOn_fell _) level.symm
    (nextCell_error_iff rx _ near bytes)

/-- An edge behind the data or the reply that no reply window takes (R76). -/
theorem stray_edge (judged : (s.sampling x rest).wireFalls =
      (s.sampling x rest).judgeWire [.strayEdge (n - s.link.recessiveFrom)] (s.link.fell n))
    (stray : faultIsError (.strayEdge (n - s.link.recessiveFrom)) s.link.rx s.link.mayReply = true) :
    s.GivesUp x.dominant := by
  subst now
  exact givesUp_of_fault wire flight reply undue (falls.trans (congrArg _ judged)) (s.link.readsOn_fell _) level.symm
    ⟨_, List.mem_cons_self, stray⟩
end

/-! ## The rising edge, state by state -/

section
variable (level : x.dominant = false) (rises : step s = .next (s.sampling x rest).wireRises)
include level rises

theorem edge_in_startMark (rx : s.link.rx = .startMark) :
    if n - s.link.fallAt < 20 ∨ 32 < n - s.link.fallAt then s.GivesUp x.dominant
    else s.ReadsTo x rest { s.link.rose n with rx := .gap } := by
  subst now
  refine judged_edge wire flight reply undue (rises.trans (congrArg _ (State.wireRises_startMark rx)))
    (Link.readsOn_rx (s.link.readsOn_rose _) _) level.symm ((exists_fault_singleton _ _ _).trans ?_)
  rw [rx]
  exact startMarkWidth_error_iff _ _

theorem cell_of_no_width (rx : s.link.rx = .data ∨ s.link.rx = .reply)
    (width : n - s.link.fallAt = 0 ∨ n - s.link.fallAt = 4 ∨ 8 ≤ n - s.link.fallAt) : s.GivesUp x.dominant := by
  subst now
  exact givesUp_of_fault wire flight reply undue (rises.trans (congrArg _ (State.wireRises_cell rx)))
    (Link.readsOn_readBit (s.link.readsOn_rose _) _) ((Link.readBit_dominant _ _).trans level.symm)
    ⟨_, List.mem_cons_self, (cellWidth_error_iff rx _ _).2 width⟩
end
end

theorem cell_of_bit {s : State} {x : WireSample} {rest : List WireSample} {n : Nat} (now : n = max s.now x.when)
    (rises : step s = .next (s.sampling x rest).wireRises)
    (rx : s.link.rx = .data ∨ s.link.rx = .reply) {b : Bool}
    (width : if b then 1 ≤ n - s.link.fallAt ∧ n - s.link.fallAt ≤ 3
      else 5 ≤ n - s.link.fallAt ∧ n - s.link.fallAt ≤ 7) : s.ReadsTo x rest ((s.link.rose n).readBit b) := by
  subst now
  have bit : readCell ((s.sampling x rest).now - (s.sampling x rest).link.fallAt) = some b :=
    (readCell_one_iff _ _).2 width
  have judges := rises.trans (congrArg _ (State.wireRises_cell rx))
  rw [bit] at judges
  refine readsTo_of_sound judges fun f mem wrong => ?_
  rw [List.mem_singleton.1 mem, cellWidth_error_iff rx, ← readCell_eq_none_iff, bit] at wrong
  exact absurd wrong (by simp)

/-- Settles O39: each edge is judged by the receiver's state, and what is left where it is no error. -/
theorem receiverReadsTheWire : Obligations.ReceiverReadsTheWire := by
  unfold Obligations.ReceiverReadsTheWire
  intro s x rest run empty front wire flight reply undue change n k next fails fell rose
  refine ⟨fun level => ?_, fun level => ?_⟩
  · have dominant : s.link.dominant = false := by
      rw [level] at change
      simpa using change
    have before_eof (early : n - k.recessiveFrom < 32) : n < k.recessiveFrom + 32 := by omega
    have falls := step_falls run empty front wire dominant level
    have other {y : RxState} (rx : s.link.rx = y) (differs : y ≠ .reply) :=
      falls fun replying => absurd (rx.symm.trans replying) differs
    refine ⟨fun rx => ?_, fun rx => ?_, fun rx near => ?_, fun rx early => ⟨fun may window => ?_, fun closed => ?_⟩,
      fun rx begun early near => ?_, fun rx early => ?_, fun rx early => ?_⟩
    · exact (other rx (by decide)).trans (congrArg _ (State.wireFalls_idle rx))
    · exact edge_in_gap rfl wire flight reply undue level (other rx (by decide)) rx
    · exact edge_in_cells rfl wire flight reply undue level (other rx (by decide)) (.inl rx)
        (State.wireFalls_data rx) near
    · have before := before_eof early
      have edge := State.wireFalls_afterData (s := s.sampling x rest) rx before
      by_cases inside : n - s.link.recessiveFrom ≤ 24
      · rw [if_pos (show n - k.recessiveFrom ≤ 24 from inside)]
        exact (other rx (by decide)).trans (congrArg _ (edge.trans (if_pos ⟨may, window, inside⟩)))
      · rw [if_neg (show ¬ n - k.recessiveFrom ≤ 24 from inside)]
        exact stray_edge rfl wire flight reply undue level (other rx (by decide))
          (edge.trans (if_neg fun h => inside h.2.2))
          ((strayEdge_error_iff _ _ _).2 ⟨early, .inl ⟨rx, .inr (Nat.not_le.1 inside)⟩⟩)
    · have before := before_eof early
      have edge := State.wireFalls_afterData (s := s.sampling x rest) rx before
      exact stray_edge rfl wire flight reply undue level (other rx (by decide))
        (edge.trans (if_neg fun h => Bool.false_ne_true (closed.symm.trans h.1)))
        ((strayEdge_error_iff _ _ _).2 ⟨early, .inl ⟨rx, .inl closed⟩⟩)
    · have read : s.link.replyUnread = false := by
        rw [Bool.eq_false_iff]
        intro nothing
        obtain ⟨bits, bytes⟩ := (Link.replyUnread_iff _).1 nothing
        exact begun.elim (absurd bits) (absurd bytes)
      exact edge_in_cells rfl wire flight reply undue level (falls fun _ => early) (.inr rx)
        (State.wireFalls_reply rx read) near
    · exact stray_edge rfl wire flight reply undue level (other rx (by decide)) (State.wireFalls_afterReply rx)
        ((strayEdge_error_iff _ _ _).2 ⟨early, .inr (.inr rx)⟩)
    · exact (other rx (by decide)).trans (congrArg _ (State.wireFalls_waitEof rx early))
  · have dominant : s.link.dominant = true := by
      rw [level] at change
      simpa using change
    have rises := step_rises run empty front wire dominant level
    refine ⟨fun rx => ?_, fun rx width => ?_, fun b width => ?_, fun rx => ?_⟩
    · have edge := edge_in_startMark rfl wire flight reply undue level rises rx
      rwa [Link.rose_other rx (by decide)] at edge
    · exact cell_of_no_width rfl wire flight reply undue level rises rx width
    · intro since
      have reads (rx : s.link.rx = .data ∨ s.link.rx = .reply) : s.ReadsTo x rest ((s.link.rose n).readBit b) :=
        cell_of_bit rfl rises rx width
      refine ⟨fun short rx => ?_, fun last => ⟨byteOfBits (k.bits ++ [b]), fun i inside =>
        getLsbD_byteOfBits_of_eight (by simp [last]) inside, fun rx => ?_, fun rx => ?_⟩⟩
      · have edge := reads rx
        rwa [Link.readBit_short (k := s.link.rose n) rx short, Link.rose_cell rx] at edge
      · have edge := reads (.inl rx)
        rwa [Link.readBit_data (k := s.link.rose n) rx last, Link.rose_cell (.inl rx)] at edge
      · have edge := reads (.inr rx)
        rwa [Link.readBit_reply (k := s.link.rose n) rx last, Link.rose_cell (.inr rx)] at edge
    · exact rises.trans (congrArg _ (State.wireRises_waitEof rx))

end Sys2Proof.Machine
end

section
/-! The maintenance frames (R96, R100 to R102, R209 to R213): a STATUS REQUEST or COMMAND heard, judged and answered. -/

namespace Sys2Proof.Machine
open Sys2Proof

/-! ## A frame heard at its EOD -/

/-- The receiver that follows a valid frame to its EOD hands it on (R74, R81, R94). -/
theorem State.hear_of_follows {s : State} {f : LinkFrame} (valid : f.valid = true)
    (follows : s.link.Follows (encodeFrame f) s.now) (handOn : LinkFrame → State → State) :
    s.hear (encodeFrame f) handOn = handOn f s := by
  obtain ⟨good, read⟩ := framesAndBytesAgree.1 f valid
  rw [State.hear, if_pos (Link.hears_of_follows follows), if_pos good, read]

/-! ## The answer -/

/-- The station gives replies to the frames aimed at it (R102). -/
def State.Able (s : State) (target : Slot) : Prop :=
  target = s.slot ∧ (s.ctl.station = .active ∨ s.ctl.station = .rejoin ∨
    (s.ctl.station = .isolated ∧ s.iso.grace = none))

theorem State.able_iff (s : State) (target : Slot) : target = s.slot ∧ s.replies = true ↔ s.Able target := by
  unfold State.replies State.Able
  cases s.ctl.station <;> simp

section
variable {s : State} {target : Slot} (frame reply : List Byte) (kind : ReplyKind)

/-- The reply's first edge comes at the EOD, 2 cells after the last data cell (R76). -/
theorem State.answer_able (able : s.Able target) : s.answer target frame reply kind = { s with
    link := { s.link.recessive (s.now - 2 * 8) with
      rx := .reply, mayReply := true, frameBuf := frame, replyBuf := [], bits := [], replyDriven := false
      fallAt := s.now, fallCell := 0, reply := some { bytes := reply, kind, start := s.now } } } :=
  if_pos ((s.able_iff target).2 able)

theorem State.answer_skips (unable : ¬ s.Able target) : s.answer target frame reply kind = { s with
    link := { s.link.recessive (s.now - 2 * 8) with
      rx := .waitEof, mayReply := false, frameBuf := [], replyBuf := [], bits := [], own := none
      replyDriven := false } } :=
  if_neg fun able => unable ((s.able_iff target).1 able)
end

/-! ## Commands judged -/

theorem octal_eq (arg : Byte) : octal arg = if arg.toNat < 8 then some (Fin.ofNat 8 arg.toNat) else none := by
  unfold octal
  split
  · next low => exact congrArg some (Fin.ext (Nat.mod_eq_of_lt low).symm)
  · rfl

/-- A station has at most eight trunks (R108). -/
theorem State.n_le (s : State) : s.n ≤ 8 := s.ctl.straps.trunks.isLt

/-- A trunk named by an argument below 8 is fitted where the argument is below N (R108). -/
theorem State.fitted_ofNat (s : State) {a : Nat} (low : a < 8) : s.fitted (Fin.ofNat 8 a) = decide (a < s.n) := by
  simp [State.fitted, Fin.ofNat, Nat.mod_eq_of_lt low]

/-- The codes that TABLE 12-4 does not list. -/
theorem not_listedCode {code : Byte} (unlisted : code = 0 ∨ 8 ≤ code.toNat) : ¬ listedCode code = true := by
  rcases unlisted with rfl | high <;> simp [listedCode]
  omega

section
variable {s : State} (arg : Byte)

theorem State.judgeCommand_inactive (code : Byte) (station : s.ctl.station ≠ .active) :
    s.judgeCommand code arg = .refused :=
  if_pos station

/-- A code that TABLE 12-4 does not list is REFUSED (R101, R213). -/
theorem State.judgeCommand_unlisted {code : Byte} (unlisted : code = 0 ∨ 8 ≤ code.toNat) :
    s.judgeCommand code arg = .refused := by
  have outside : code.toNat = 0 ∨ 8 ≤ code.toNat := unlisted.imp_left fun zero => by simp [zero]
  unfold State.judgeCommand
  split
  · rfl
  · split
    case h_8 => rfl
    all_goals omega

variable (active : s.ctl.station = .active)
include active

theorem State.judgeCommand_blockLine : s.judgeCommand 1 arg = if 8 ≤ arg.toNat then .refused
    else if (s.call (Fin.ofNat 8 arg.toNat)).state.inCall then .deferred else .done := by
  by_cases low : arg.toNat < 8
  · simp [State.judgeCommand, active, octal_eq, low, Nat.not_le.2 low, ackBlock]
  · simp [State.judgeCommand, active, octal_eq, low, Nat.not_lt.1 low]

theorem State.judgeCommand_unblockLine : s.judgeCommand 2 arg =
    if arg.toNat < 8 ∧ ((s.call (Fin.ofNat 8 arg.toNat)).state = .blocked ∨
      ((s.call (Fin.ofNat 8 arg.toNat)).state.inCall = true ∧ (s.call (Fin.ofNat 8 arg.toNat)).pendingBlock = true)) then
      .done else .refused := by
  by_cases low : arg.toNat < 8 <;> simp [State.judgeCommand, active, octal_eq, low, ackUnblock]

theorem State.judgeCommand_retireTrunk : s.judgeCommand 3 arg = if s.n ≤ arg.toNat then .refused
    else if (s.entry (Fin.ofNat 8 arg.toNat)).retiredBy ≠ some s.slot ∧
      (s.entry (Fin.ofNat 8 arg.toNat)).isOwn = true then .deferred else .done := by
  by_cases low : arg.toNat < 8
  · by_cases fitted : arg.toNat < s.n
    · by_cases retired : (s.entry (Fin.ofNat 8 arg.toNat)).retiredBy = some s.slot <;>
        simp [State.judgeCommand, active, octal_eq, low, s.fitted_ofNat low, fitted, -Fin.ofNat_eq_cast,
          Nat.not_le.2 fitted, State.ackRetire, State.retiredBySelf, retired]
    · simp [State.judgeCommand, active, octal_eq, low, s.fitted_ofNat low, fitted, -Fin.ofNat_eq_cast,
        Nat.not_lt.1 fitted]
  · have high : s.n ≤ arg.toNat := s.n_le.trans (Nat.not_lt.1 low)
    simp [State.judgeCommand, active, octal_eq, low, high]

theorem State.judgeCommand_restoreTrunk : s.judgeCommand 4 arg =
    if arg.toNat < s.n ∧ ((s.entry (Fin.ofNat 8 arg.toNat)).retiredBy = some s.slot ∨
      ((s.entry (Fin.ofNat 8 arg.toNat)).isOwn = true ∧ s.retireWaits (Fin.ofNat 8 arg.toNat) = true)) then
      .done else .refused := by
  by_cases low : arg.toNat < 8
  · by_cases fitted : arg.toNat < s.n <;>
      simp [State.judgeCommand, active, octal_eq, low, s.fitted_ofNat low, fitted, -Fin.ofNat_eq_cast, State.ackRestore,
        State.retiredBySelf]
  · have high : ¬ arg.toNat < s.n := fun fitted => low (fitted.trans_le s.n_le)
    simp [State.judgeCommand, active, octal_eq, low, high]

theorem State.judgeCommand_resetProfile : s.judgeCommand 5 arg = if arg.toNat < 8 then .done else .refused := by
  by_cases low : arg.toNat < 8 <;> simp [State.judgeCommand, active, octal_eq, low]

theorem State.judgeCommand_clearCounts : s.judgeCommand 6 arg = if arg.toNat ≤ 8 then .done else .refused := by
  simp [State.judgeCommand, active]

theorem State.judgeCommand_restart : s.judgeCommand 7 arg = if arg = 0 then .done else .refused := by
  simp [State.judgeCommand, active]
end

/-! ## The rows -/

section
variable {s : State} {w : Nat} {k : HeaderSlot} {g : Slot} {arg : Byte} (outside : 8 ≤ k.toNat)
include outside

theorem exec_statusRequest_heard (run : s.running = true)
    (follows : s.link.Follows (withCheck [header 6 k, octalByte g, arg]) (max s.now w)) :
    exec (.statusRequest w k (octalByte g) arg (checkByte [header 6 k, octalByte g, arg])) s =
      .next ((s.advance w).answer g (withCheck [header 6 k, octalByte g, arg]) (withCheck (s.page arg)) .status) := by
  have valid : (LinkFrame.statusRequest k g arg).valid = true := decide_eq_true outside
  rw [exec, execStatusRequest, State.act_running _ _ run]
  exact congrArg _ (State.hear_of_follows (s := s.advance w) valid follows _)

theorem State.commandHeard_eq (code : Byte)
    (follows : s.link.Follows (withCheck [header 7 k, octalByte g, code, arg]) (max s.now w)) :
    (s.advance w).commandHeard k (octalByte g) code arg (checkByte [header 7 k, octalByte g, code, arg]) =
      (s.advance w).answer g (withCheck [header 7 k, octalByte g, code, arg])
        (withCheck [((s.advance w).judgeCommand code arg).byte])
        (.command code arg ((s.advance w).judgeCommand code arg)) := by
  have valid : (LinkFrame.command k g code arg).valid = true := decide_eq_true outside
  rw [State.commandHeard]
  exact State.hear_of_follows (s := s.advance w) valid follows _
end

/-- Settles O47: the frame is heard, its command judged, and the answer is the reply or, aimed elsewhere, a skip. -/
theorem maintenanceFramesAreAnsweredAtEod : Obligations.MaintenanceFramesAreAnsweredAtEod := by
  unfold Obligations.MaintenanceFramesAreAnsweredAtEod
  intro s w k g arg run outside tail row drive skipped able statusRow
  refine ⟨fun follows => ?_, fun code c named follows => ?_⟩
  · have heard := exec_statusRequest_heard outside run follows
    exact ⟨fun can => heard.trans (congrArg _ (State.answer_able (s := s.advance w) _ _ _ can)),
      fun cannot => heard.trans (congrArg _ (State.answer_skips (s := s.advance w) _ _ _ cannot))⟩
  · have judged := State.commandHeard_eq outside code follows
    have acts (code : Byte) := State.act_running w
      (fun t => t.commandHeard k (octalByte g) code arg (checkByte (tail code))) run
    have heard : exec c s = .next ((s.advance w).commandHeard k (octalByte g) code arg (checkByte (tail code))) := by
      rcases named with ⟨rfl, rfl⟩ | ⟨rfl, rfl⟩ | ⟨rfl, rfl⟩ | ⟨rfl, rfl⟩ | ⟨rfl, rfl⟩ | ⟨rfl, rfl⟩ | ⟨rfl, rfl⟩ |
        ⟨unlisted, rfl⟩
      iterate 7 exact acts _
      rw [exec, execUnlistedCommand, State.act_running _ _ run]
      exact congrArg _ (if_neg (not_listedCode unlisted))
    have answered := heard.trans (congrArg _ judged)
    refine ⟨fun cannot => answered.trans (congrArg _ (State.answer_skips (s := s.advance w) _ _ _ cannot)),
      fun can => ⟨_, answered.trans (congrArg _ (State.answer_able (s := s.advance w) _ _ _ can)), ?_, fun active => ?_⟩⟩
    · rintro (station | unlisted)
      · exact State.judgeCommand_inactive (s := s.advance w) arg code station
      · exact State.judgeCommand_unlisted arg unlisted
    · have station : (s.advance w).ctl.station = .active := active
      refine ⟨?_, ?_, ?_, ?_, ?_, ?_, ?_⟩ <;> rintro rfl
      · exact State.judgeCommand_blockLine arg station
      · exact State.judgeCommand_unblockLine arg station
      · exact State.judgeCommand_retireTrunk arg station
      · exact State.judgeCommand_restoreTrunk arg station
      · exact State.judgeCommand_resetProfile arg station
      · exact State.judgeCommand_clearCounts arg station
      · exact State.judgeCommand_restart arg station

end Sys2Proof.Machine
end

section
/-! The transmit queue (R103 to R105): the frame offered, and what a placing makes of the queue. -/

namespace Sys2Proof.Machine
open Sys2Proof

/-! ## The frame offered first -/

/-- `a` goes before `b` in the order of R105, or ties with it: the lower kind, then the older, then the lower trunk. -/
def QFrame.Leads (a b : QFrame) : Prop :=
  a.frame.kind < b.frame.kind ∨ (a.frame.kind = b.frame.kind ∧
    (a.age < b.age ∨ (a.age = b.age ∧ a.frame.trunkNumber ≤ b.frame.trunkNumber)))

section
variable {a b c : QFrame}

theorem QFrame.Leads.refl (a : QFrame) : a.Leads a := .inr ⟨rfl, .inr ⟨rfl, le_rfl⟩⟩

theorem QFrame.Leads.trans (h : a.Leads b) (g : b.Leads c) : a.Leads c := by
  unfold QFrame.Leads at *
  omega

theorem QFrame.before_iff : a.before b = true ↔ a.frame.kind < b.frame.kind ∨ (a.frame.kind = b.frame.kind ∧
    (a.age < b.age ∨ (a.age = b.age ∧ a.frame.trunkNumber < b.frame.trunkNumber))) := by
  simp [QFrame.before]

theorem QFrame.leads_of_before (h : a.before b = true) : a.Leads b := by
  rw [QFrame.before_iff] at h
  unfold QFrame.Leads
  omega

theorem QFrame.leads_of_not_before (h : ¬ a.before b = true) : b.Leads a := by
  rw [QFrame.before_iff] at h
  unfold QFrame.Leads
  omega
end

/-- The frame offered first leads every other (R105). -/
theorem firstOffered_leads {frames : List QFrame} {f : QFrame} (first : firstOffered frames = some f) :
    ∀ g ∈ frames, f.Leads g := by
  induction frames generalizing f with
  | nil => simp
  | cons x rest ih =>
    cases behind : firstOffered rest with
    | none =>
      obtain rfl : rest = [] := firstOffered_eq_none.1 behind
      simp only [firstOffered, Option.some.injEq] at first
      simp [first, QFrame.Leads.refl]
    | some y =>
      simp only [firstOffered, behind] at first
      simp only [List.forall_mem_cons]
      split at first <;> cases first
      · exact ⟨QFrame.leads_of_before ‹_›, ih behind⟩
      · exact ⟨.refl _, fun g queued => (QFrame.leads_of_not_before ‹_›).trans (ih behind g queued)⟩

/-- The station states in which a frame may be offered: any in ACTIVE, the REPORT in ISOLATED and REJOIN (R105). -/
theorem Control.offers_iff {c : Control} {f : TxFrame} : c.offers f = true ↔
    c.station = .active ∨ ((c.station = .isolated ∨ c.station = .rejoin) ∧ f.key = .report) := by
  unfold Control.offers
  cases c.station <;> simp

/-- Settles O27: the frames that may be offered are those among which the first is found. -/
theorem offeredFrameIsTheLowestKindThenTheOldest : Obligations.OfferedFrameIsTheLowestKindThenTheOldest := by
  unfold Obligations.OfferedFrameIsTheLowestKindThenTheOldest
  intro s may
  have may_iff (q : QFrame) : may q ↔ q ∈ s.offerable := by
    rw [State.mem_offerable, Control.offers_iff]
  simp only [may_iff]
  refine ⟨by simp [State.offered, List.eq_nil_iff_forall_not_mem], fun f offered => ?_⟩
  obtain ⟨q, first, rfl⟩ := Option.map_eq_some_iff.1 offered
  exact ⟨q, firstOffered_mem first, rfl, firstOffered_leads first⟩

/-! ## A frame placed -/

section
variable {q : TxQueue} {n : QFrame}

theorem TxQueue.place_of_new (grounded : ¬ q.inFlight n.frame.key = true)
    (new : ∀ x ∈ q.frames, x.frame.key ≠ n.frame.key) : q.place n = { q with frames := q.frames ++ [n] } := by
  have unqueued : ¬ (q.frames.any fun f => f.frame.key = n.frame.key) = true := by simpa using new
  rw [TxQueue.place, if_neg grounded, if_neg unqueued]

theorem TxQueue.place_of_queued (grounded : ¬ q.inFlight n.frame.key = true)
    (queued : ∃ x ∈ q.frames, x.frame.key = n.frame.key) : q.place n = { q with frames := combineIn q.frames n } := by
  have held : (q.frames.any fun f => f.frame.key = n.frame.key) = true := by simpa using queued
  rw [TxQueue.place, if_neg grounded, if_pos held]

/-- Beside the frame of its key in flight a frame waits, but a CLAIM (R104). -/
theorem TxQueue.place_of_flying (flies : q.inFlight n.frame.key = true) : q.place n =
    if n.frame.key = .claim then q else { q with waiting := some (q.waiting.elim n fun w => combine w n) } := by
  rw [TxQueue.place, if_pos flies]
  cases n.frame <;> simp [TxFrame.key]

/-- A queued frame of another key, and a CLAIM, stands; any other takes the newer frame's place (TABLE 5-4). -/
theorem combineIn_getElem {frames : List QFrame} (i : Nat) (h : i < frames.length) (h' : i < (combineIn frames n).length) :
    (combineIn frames n)[i] = if frames[i].frame.key = n.frame.key then combine frames[i] n else frames[i] := by
  simp [combineIn]

theorem combine_of_claim (x : QFrame) (claim : n.frame.key = .claim) : combine x n = x := by
  unfold combine
  split
  · simp [*, TxFrame.key] at claim
  · rfl
  · cases hn : n.frame <;> simp_all [TxFrame.key]
end

/-- Settles O28: by whether the frame's key is in flight, is queued, or is new. -/
theorem placedFramesJoinTheQueueByTheirKey : Obligations.PlacedFramesJoinTheQueueByTheirKey := by
  unfold Obligations.PlacedFramesJoinTheQueueByTheirKey
  intro s f t flying joined
  have flies_iff : s.tx.inFlight f.key = true ↔ flying := TxQueue.inFlight_iff
  have placed : t = s.tx.place { frame := f, age := s.now } := rfl
  have joins (old : QFrame) (other : f.key ≠ .claim) : joined old (combine old { frame := f, age := s.now }) := by
    rw [combine_eq old other]
    exact ⟨rfl, rfl⟩
  refine ⟨by rw [placed, TxQueue.place_flight], fun grounded => ?_, fun flies => ?_⟩
  · have grounded' : ¬ s.tx.inFlight f.key = true := fun flies => grounded (flies_iff.1 flies)
    by_cases queued : ∃ x ∈ s.tx.frames, x.frame.key = f.key
    · rw [placed, TxQueue.place_of_queued grounded' queued]
      refine ⟨rfl, fun new => ?_, fun _ => ⟨by simp [combineIn], fun i h h' => ?_⟩⟩
      · obtain ⟨x, hx, same⟩ := queued
        exact absurd same (new x hx)
      · rw [combineIn_getElem]
        refine ⟨fun stands => ?_, fun same other => ?_⟩
        · split
          · exact combine_of_claim _ (stands.resolve_left (not_not_intro ‹_›))
          · rfl
        · rw [if_pos same]
          exact joins _ other
    · have new : ∀ x ∈ s.tx.frames, x.frame.key ≠ f.key := fun x hx same => queued ⟨x, hx, same⟩
      rw [placed, TxQueue.place_of_new grounded' new]
      exact ⟨rfl, fun _ => rfl, fun held => absurd held queued⟩
  · rw [placed, TxQueue.place_of_flying (flies_iff.2 flies)]
    refine ⟨by split <;> rfl, fun claim => by rw [if_pos claim], fun other => ⟨_, by rw [if_neg other], fun alone => ?_,
      fun old waits => ?_⟩⟩
    · rw [alone]; rfl
    · rw [waits]; exact joins old other

/-! ## The timers that place a REPORT -/

section
variable {s : State} {w e : Nat} (run : s.running = true) (expired : e ≤ max s.now w / 64)
include run expired

theorem exec_reportInterval_due (active : s.ctl.station = .active) (timer : s.view.reportInterval = some e) :
    exec (.reportInterval w) s = .next { s.advance w with
      tx := s.tx.place { frame := .report false, age := max s.now w }
      view := { s.view with reportInterval := some (max s.now w / 64 + 2000) } } := by
  have runs_out : due (s.advance w).view.reportInterval (s.advance w).scanTime = true := by
    rw [State.advance_view, timer]
    exact due_some expired
  exact (State.act_running w _ run).trans (congrArg _ (if_pos ⟨active, runs_out⟩))

/-- At either timer's expiry in ISOLATED the isolated-probe REPORT is placed (R192). -/
theorem exec_isolatedProbe_due {c : Instr} (isolated : s.ctl.station = .isolated)
    (timer : (c = .graceTimer w ∧ s.iso.grace = some e) ∨ (c = .isolatedProbeTimer w ∧ s.iso.probeTimer = some e)) :
    exec c s = .next { s.advance w with
      tx := s.tx.place { frame := .report true, age := max s.now w }
      iso := { s.iso with grace := none, probeTimer := some (max s.now w / 64 + 2000) } } := by
  have runs_out {t : Option Nat} (running : t = some e) : due t (s.advance w).scanTime = true := by
    rw [running]
    exact due_some expired
  rcases timer with ⟨rfl, grace⟩ | ⟨rfl, probe⟩
  · exact (State.act_running w _ run).trans (congrArg _ (if_pos ⟨isolated, runs_out grace⟩))
  · exact (State.act_running w _ run).trans (congrArg _ (if_pos ⟨isolated, runs_out probe⟩))
end

/-- Settles O51: each timer's REPORT is placed, whatever of its key the queue holds. -/
theorem timersPlaceTheReports : Obligations.TimersPlaceTheReports := by
  unfold Obligations.TimersPlaceTheReports
  intro s w e run expired
  have placed (probe : Bool) : (s.tx.place { frame := .report probe, age := max s.now w }).Holds (.report probe) ∧
      (∀ x ∈ s.tx.frames, x.frame.key ≠ .report →
        x ∈ (s.tx.place { frame := .report probe, age := max s.now w }).frames) ∧
      (s.tx.place { frame := .report probe, age := max s.now w }).flight = s.tx.flight :=
    ⟨(TxQueue.carries_place (n := { frame := .report probe, age := max s.now w }) (by simp [TxFrame.key])).holds,
      fun _ queued other => TxQueue.mem_place queued other, TxQueue.place_flight _ _⟩
  refine ⟨fun active timer => ?_, fun c isolated timer => ?_⟩
  · obtain ⟨holds, keeps, flight⟩ := placed false
    exact ⟨_, holds, keeps, flight, exec_reportInterval_due run expired active timer⟩
  · obtain ⟨holds, keeps, flight⟩ := placed true
    exact ⟨_, holds, keeps, flight, exec_isolatedProbe_due run expired isolated timer⟩

end Sys2Proof.Machine
end

section
/-! The status pages and the REPORT, byte by byte (R104, R124, R208, R213, R214, TABLE 12-5, TABLE 12-6). -/

namespace Sys2Proof.Machine
open Sys2Proof

/-! ## Map bytes -/

/-- The sum of the weights of a map's places is the number with these bits (R213). -/
theorem mapOf_eq_ofBits (f : Fin 8 → Bool) : mapOf f = BitVec.ofNat 8 (Nat.ofBits f) := by
  have weight (b : Bool) (n : Nat) : (if b then n else 0) = n * b.toNat := by cases b <;> simp
  have sum : ((List.finRange 8).map fun x => if f x then 2 ^ x.val else 0).sum = Nat.ofBits f := by
    simp only [weight, Nat.ofBits, Fin.foldr_succ, Fin.foldr_zero, List.finRange_succ, List.finRange_zero,
      List.map_cons, List.map_nil, List.sum_cons, List.sum_nil, Fin.val_succ, Fin.val_zero]
    ring
  rw [mapOf, sum]

/-- Place `x` of a map byte tells whether `x` is in the map (R213). -/
theorem mapOf_getLsbD (f : Fin 8 → Bool) (x : Fin 8) : (mapOf f).getLsbD x.val = f x := by
  rw [mapOf_eq_ofBits, BitVec.getLsbD_ofNat, Nat.testBit_ofBits_lt _ _ x.isLt]
  simp

/-! ## Pages by number -/

section
variable (s : State) (x : Fin 8)

theorem State.page_of_line : s.page (BitVec.ofNat 8 (2 + x.val)) = s.pageLine x := by
  have number : (BitVec.ofNat 8 (2 + x.val)).toNat = 2 + x.val := by rw [BitVec.toNat_ofNat]; omega
  have place : Fin.ofNat 8 (2 + x.val - 2) = x := by ext; simp
  unfold State.page
  dsimp only
  rw [number, if_neg (by omega), if_neg (by omega), if_pos (by omega), place]

theorem State.page_of_trunk : s.page (BitVec.ofNat 8 (10 + x.val)) = s.pageTrunk x := by
  have number : (BitVec.ofNat 8 (10 + x.val)).toNat = 10 + x.val := by rw [BitVec.toNat_ofNat]; omega
  have place : Fin.ofNat 8 (10 + x.val - 10) = x := by ext; simp
  unfold State.page
  dsimp only
  rw [number, if_neg (by omega), if_neg (by omega), if_neg (by omega), if_pos (by omega), place]

theorem State.page_of_errors : s.page (BitVec.ofNat 8 (18 + x.val)) = s.pageErrors x := by
  have number : (BitVec.ofNat 8 (18 + x.val)).toNat = 18 + x.val := by rw [BitVec.toNat_ofNat]; omega
  have place : Fin.ofNat 8 (18 + x.val - 18) = x := by ext; simp
  unfold State.page
  dsimp only
  rw [number, if_neg (by omega), if_neg (by omega), if_neg (by omega), if_neg (by omega), if_pos (by omega), place]

theorem State.page_of_unlisted (n : Byte) (unlisted : 26 ≤ n.toNat) : s.page n = [255, 0, 0, 0, 0, 0, 0, 0] := by
  unfold State.page
  dsimp only
  rw [if_neg (by omega), if_neg (by omega), if_neg (by omega), if_neg (by omega), if_neg (by omega)]
end

/-! ## The bytes of a trunk's page -/

/-- The state of an entry and its holder's slot, as they stand in the page's second byte (TABLE 12-5). -/
theorem State.holding_weight (s : State) (u : Trunk) : (s.entry u).holding.code * 64 + s.holderSlot u * 8 =
    match (s.entry u).holding with
    | .free => 0
    | .held q _ => 64 + q.val * 8
    | .own _ => 128 + s.slot.val * 8 := by
  unfold State.holderSlot
  cases (s.entry u).holding <;> simp [Holding.code]

/-- The state of a trunk's session, 0 where there is none (TABLE 12-5). -/
theorem State.session_byte (s : State) (u : Trunk) : ((s.session u).elim 0 fun ses => sumByte ses.state.code) =
    match s.session u with
    | none => 0
    | some ses => match ses.state with
      | .waitPts => 1
      | .established => 2
      | .recallBreak => 3
      | .probeWait => 4 := by
  rcases s.session u with _ | ses
  · rfl
  · cases state : ses.state <;> simp [state, SessionState.code, sumByte]

theorem SendingMode.code_eq (m : SendingMode) : m.code = bit (decide (m = .enBloc)) := by cases m <;> rfl

/-- Settles O48: each page by its number, and a REPORT's two maps and flags. -/
theorem pagesAndReportsShowTheStation : Obligations.PagesAndReportsShowTheStation := by
  unfold Obligations.PagesAndReportsShowTheStation
  intro s b one has p
  refine ⟨?_, ?_, fun l => ?_, fun u => ?_, fun l => ?_, s.page_of_unlisted, fun probe => ?_⟩
  · have page : s.page 0 = s.pageStation := rfl
    rw [page, State.pageStation, SendingMode.code_eq]
    rfl
  · exact ⟨_, _, _, _, rfl, mapOf_getLsbD _, mapOf_getLsbD _, mapOf_getLsbD _, mapOf_getLsbD _⟩
  · rw [s.page_of_line l, State.pageLine]
    cases (s.call l).trunk <;> cases (s.decoder l).lastR <;> rfl
  · have inputs : (if s.fitted u then sumByte (bit (s.input u).busy) else 255) =
        if u.val < s.n then b (one (s.input u).busy) else 255 := by
      simp only [State.fitted, decide_eq_true_eq]
      rfl
    have presence : bit (u ≠ s.slot && (s.peer u).heard.isSome) * 16 +
        (if u = s.slot then 0 else (s.peer u).trunkCount.getD 0) =
        if u = s.slot then 0 else one (s.peer u).heard.isSome * 16 + (s.peer u).trunkCount.getD 0 := by
      by_cases home : u = s.slot
      · simp [home, bit]
      · simp [home, bit, one]
    rw [s.page_of_trunk u, State.pageTrunk, State.holding_weight, State.session_byte, inputs, presence]
    cases (s.entry u).retiredBy <;> rfl
  · exact (s.page_of_errors l).trans rfl
  · have flag : bit ((List.finRange 8).any fun q => (s.peer q).mismatch) = one (decide (∃ q, (s.peer q).mismatch = true)) := by
      simp [bit, one]
    have filled : s.onWire (.report probe) = .report s.slot s.n
        (mapOf fun u => decide (u.val < s.n) && (s.entry u).isOwn)
        (mapOf fun u => decide (u.val < s.n) && decide ((s.entry u).retiredBy = some s.slot)) probe
        ((List.finRange 8).any fun q => (s.peer q).mismatch) := rfl
    refine ⟨_, _, ?_, mapOf_getLsbD _, mapOf_getLsbD _⟩
    rw [filled, encodeFrame, flag]
    rfl

end Sys2Proof.Machine
end

section
/-! The objection of this station to a peer's CLAIM at its EOD (R98, R102). -/

namespace Sys2Proof.Machine
open Sys2Proof

/-- The receiver at the EOD of a CLAIM, driving this station's objection if it gives one (R74, R98). -/
def Link.afterClaim (k : Link) (bytes : List Byte) (objection : Option Nat) (slot : Slot) (now : Nat) : Link :=
  objection.elim (k.afterData bytes true now) fun code =>
    (k.afterData bytes true now).driveReply (objectionReply code slot) .objection now

/-- The receiver keeps its marker, its counters and its health at a CLAIM's EOD, and a reply may follow (R74). -/
theorem Link.afterClaim_keeps (k : Link) (bytes : List Byte) (objection : Option Nat) (slot : Slot) (now : Nat) :
    (k.afterClaim bytes objection slot now).mode = k.mode ∧ (k.afterClaim bytes objection slot now).own = k.own ∧
      (k.afterClaim bytes objection slot now).mayReply = true ∧
      (k.afterClaim bytes objection slot now).frameBuf = bytes ∧
      (k.afterClaim bytes objection slot now).errorRun = k.errorRun ∧
      (k.afterClaim bytes objection slot now).rxErrors = k.rxErrors ∧
      (k.afterClaim bytes objection slot now).txErrors = k.txErrors ∧
      (k.afterClaim bytes objection slot now).health = k.health := by
  cases objection <;> simp [Link.afterClaim, Link.driveReply, Link.afterData, Link.recessive_eq]

section
variable {s : State} {p : Slot} {u : Trunk}

theorem State.replies_iff : s.replies = true ↔ s.ctl.station = .active ∨ s.ctl.station = .rejoin ∨
    (s.ctl.station = .isolated ∧ s.iso.grace = none) := by
  unfold State.replies
  cases s.ctl.station <;> simp

/-- The objection a station that gives replies has to a peer's CLAIM for a fitted trunk: held before retired (R98). -/
theorem State.objectionTo_of_may (may : p ≠ s.slot ∧ s.replies = true ∧ s.fitted u = true) : s.objectionTo p u =
    if (s.entry u).isOwn = true then some 1 else if (s.entry u).retiredBy = some s.slot then some 2 else none := by
  rw [State.objectionTo, if_pos may]
  simp only [State.retiredBySelf, decide_eq_true_eq]

theorem State.objectionTo_of_unable (unable : ¬ (p ≠ s.slot ∧ s.replies = true ∧ s.fitted u = true)) :
    s.objectionTo p u = none := if_neg unable

/-- A CLAIM heard to its EOD changes the link's record of it alone (R74, R98). -/
theorem exec_objection_heard {w : Nat} {line : Option Line} (run : s.running = true)
    (follows : s.link.Follows (encodeFrame (.claim p u line)) (max s.now w)) :
    exec (.objection w (headerSlot p) (octalByte u) (line.elim 8 octalByte)
      (checkByte [header 2 (headerSlot p), octalByte u, line.elim 8 octalByte])) s = .next { s.advance w with
    link := s.link.afterClaim (encodeFrame (.claim p u line)) (s.objectionTo p u) s.slot (max s.now w) } := by
  have same : (s.advance w).objectionTo p u = s.objectionTo p u := rfl
  rw [exec, execObjection, State.act_running _ _ run, ← same]
  refine congrArg _ ((State.hear_of_follows (s := s.advance w) (f := .claim p u line) rfl follows _).trans ?_)
  dsimp only
  cases (s.advance w).objectionTo p u <;> rfl
end

/-- Settles O43: the receiver is in AFTER DATA, and goes to REPLY from there where an objection is given. -/
theorem objectionIsDrivenForOwnOrRetiredTrunks : Obligations.ObjectionIsDrivenForOwnOrRetiredTrunks := by
  unfold Obligations.ObjectionIsDrivenForOwnOrRetiredTrunks
  intro s w p u line run f follows c able
  have may_iff : able ↔ p ≠ s.slot ∧ s.replies = true ∧ s.fitted u = true := by
    simp only [able, ← State.replies_iff]
    exact ⟨fun ⟨gives, fitted, peer⟩ => ⟨peer, gives, fitted⟩, fun ⟨peer, gives, fitted⟩ => ⟨gives, fitted, peer⟩⟩
  have objects (may : able) := State.objectionTo_of_may (may_iff.1 may)
  have unmarked : s.link.own = none := follows.2.2.2.1
  obtain ⟨mode, own, mayReply, frameBuf, errorRun, rxErrors, txErrors, health⟩ :=
    s.link.afterClaim_keeps f (s.objectionTo p u) s.slot (max s.now w)
  refine ⟨_, exec_objection_heard run follows, mode, own.trans unmarked, mayReply, frameBuf, errorRun, rxErrors, txErrors,
    health, fun may holds => ?_, fun may other retired => ?_, fun neither => ?_⟩
  · rw [objects may, if_pos holds]
    exact ⟨rfl, rfl, rfl⟩
  · rw [objects may, if_neg (by simp [other]), if_pos retired]
    exact ⟨rfl, rfl, rfl⟩
  · have silent : s.objectionTo p u = none := by
      by_cases may : able
      · obtain ⟨other, kept⟩ := neither.resolve_left (not_not_intro may)
        rw [objects may, if_neg (by simp [other]), if_neg kept]
      · exact State.objectionTo_of_unable fun able => may (may_iff.2 able)
    rw [silent]
    exact ⟨rfl, by simp [Link.afterClaim, Link.afterData, Link.recessive_eq]⟩

end Sys2Proof.Machine
end

section
/-! A CLAIM at its EOF (R76, R99, R113, R144): the reply judged, and the receiver's place. -/

namespace Sys2Proof.Machine
open Sys2Proof

/-! ## The reply -/

section
variable {p : Slot}

theorem judgeReply_none : judgeReply p none = .effective := rfl

theorem judgeReply_refused {r : List Byte} (good : checkGood r = true) (refused : judgeObjection p r = none) :
    judgeReply p (some r) = .refused := by
  simp only [judgeReply, if_pos good, refused]

theorem judgeReply_ne_damaged {reply : Option (List Byte)} (good : ∀ b, reply = some b → checkGood b = true) :
    judgeReply p reply ≠ .damaged := by
  cases reply with
  | none => simp [judgeReply]
  | some b =>
    simp only [judgeReply, if_pos (good b rfl)]
    cases judgeObjection p b <;> simp

/-- An objection of either code from a slot other than the claimant's is judged to be that (R99). -/
theorem judgeObjection_withCheck {o : Slot} (other : o ≠ p) {code : Nat} (listed : code = 1 ∨ code = 2) :
    judgeObjection p (withCheck [header code (headerSlot o)]) = some (code, o) := by
  have few : code < 16 := by omega
  simp only [withCheck, List.cons_append, List.nil_append, judgeObjection, octal_header few, header_kind few]
  rcases listed with rfl | rfl <;> exact if_neg other

theorem judgeReply_objection {o : Slot} (other : o ≠ p) {code : Nat} (listed : code = 1 ∨ code = 2) :
    judgeReply p (some (withCheck [header code (headerSlot o)])) = .voided code o := by
  simp only [judgeReply, if_pos (checkGood_withCheck _), judgeObjection_withCheck other listed]

/-- What is judged an objection has code 1 or 2, from a slot other than the claimant's (R99). -/
theorem judgeObjection_eq_some {r : List Byte} {code : Nat} {o : Slot} (judged : judgeObjection p r = some (code, o)) :
    (code = 1 ∨ code = 2) ∧ o ≠ p := by
  unfold judgeObjection at judged
  split at judged
  · split at judged
    · split at judged <;> cases judged
      exact ⟨.inl rfl, ‹_›⟩
    · split at judged <;> cases judged
      exact ⟨.inr rfl, ‹_›⟩
    · cases judged
  · cases judged
end

/-! ## The receiver -/

/-- A receiver that holds a CLAIM at its EOF still holds it when a reply it has read has been judged (R76, R99). -/
theorem State.replyEod_of_holds {s : State} {bytes : List Byte} {reply : Option (List Byte)}
    (holds : s.link.Holds bytes reply s.now) (good : ∀ b, reply = some b → checkGood b = true) :
    ∃ x, s.replyEod = s.receiverIn x ∧ (s.receiverIn x).link.Holds bytes reply s.now := by
  by_cases rx : s.link.rx = .reply
  · by_cases unread : s.link.replyBuf = []
    · refine ⟨s.link.rx, State.replyEod_of_unread ?_, holds⟩
      obtain ⟨-, -, -, -, bits, -⟩ := holds
      exact (Link.replyUnread_iff _).2 ⟨bits, unread⟩
    · obtain ⟨mode, recessive, quiet, own, bits, none_, place⟩ := holds
      obtain ⟨frame, read⟩ : s.link.frameBuf = bytes ∧ reply = some s.link.replyBuf := by
        simpa [rx, unread] using place
      have two_cells : s.link.quiet eodCells s.now = true :=
        (Link.quiet_iff _ _ _).2 ⟨recessive, by simp only [eodCells, cell]; omega⟩
      refine ⟨.afterReply, State.replyEod_of_whole rx none_ bits (good _ read) two_cells, ?_⟩
      exact ⟨mode, recessive, quiet, own, bits, none_,
        .inr (.inr (.inr (.inr (.inr (.inr (.inr ⟨rfl, frame, .inr read⟩))))))⟩
  · exact ⟨s.link.rx, State.replyEod_of_other rx, holds⟩

/-- From `k` to `k'` the receiver has come to the EOF of a CLAIM with this outcome: in IDLE, or in WAIT EOF behind a reply
refused, which is counted (R75, R76, R82, R144). -/
structure Link.ClaimEnds (k k' : Link) (outcome : ClaimOutcome) : Prop where
  rx : k'.rx = if outcome = .refused then .waitEof else .idle
  own : k'.own = none
  errorRun : k'.errorRun = k.errorRun
  rxErrors : k'.rxErrors = if outcome = .refused then counted k.rxErrors else k.rxErrors

/-- The station at the EOF of a CLAIM at time `w`, its receiver come to `k`. -/
def State.atClaimEof (s : State) (w : Nat) (k : Link) : State := { s.advance w with link := k }

@[simp] theorem State.atClaimEof_link (s : State) (w : Nat) (k : Link) : (s.atClaimEof w k).link = k := rfl

theorem State.atClaimEof_entry (s : State) (w : Nat) (k : Link) : (s.atClaimEof w k).entry = s.entry := rfl

/-- A CLAIM that ends without the halt of a slot conflict leads to its receiver's place and to what it makes of the view
(R97, R99, R113). -/
theorem State.claimAtEof_ends (s : State) (p : Slot) (u : Trunk) (line : Option Line) (outcome : ClaimOutcome)
    (marked : p = s.slot → s.link.own.isSome = true) : ∃ k, s.link.ClaimEnds k outcome ∧
    s.claimAtEof p u line outcome = if p = s.slot then (s.setLink k).ownClaim u line outcome
      else (s.setLink k).peerClaim p u line outcome s.link.replyDriven := by
  by_cases refused : outcome = .refused
  · refine ⟨{ s.link.afterEof s.now with rx := .waitEof, rxErrors := counted (s.link.afterEof s.now).rxErrors }, ?_, ?_⟩
    · constructor <;> simp [refused, Link.afterEof, Link.recessive_eq]
    · simp only [State.claimAtEof, if_pos refused]
      by_cases own : p = s.slot
      · exact ((if_pos own).trans (if_pos (marked own))).trans (if_pos own).symm
      · exact (if_neg own).trans (if_neg own).symm
  · refine ⟨s.link.afterEof s.now, ?_, ?_⟩
    · constructor <;> simp [refused, Link.afterEof, Link.recessive_eq]
    · simp only [State.claimAtEof, if_neg refused]
      by_cases own : p = s.slot
      · exact ((if_pos own).trans (if_pos (marked own))).trans (if_pos own).symm
      · exact (if_neg own).trans (if_neg own).symm

section
variable {s : State} {w : Nat} {p : Slot} {u : Trunk} {line : Option Line} {reply : Option (List Byte)}
  (run : s.running = true) (holds : s.link.Holds (encodeFrame (.claim p u line)) reply (max s.now w))
  (good : ∀ b, reply = some b → checkGood b = true)
include run holds good

/-- A CLAIM held at its EOF, its reply whole, is this station's or a peer's (R99, R113). -/
theorem exec_claim_ends (marked : p = s.slot → s.link.own.isSome = true) :
    ∃ k, s.link.ClaimEnds k (judgeReply p reply) ∧
      exec (.claim w (headerSlot p) (octalByte u) (line.elim 8 octalByte)
        (checkByte [header 2 (headerSlot p), octalByte u, line.elim 8 octalByte]) reply) s =
      .next (if p = s.slot then (s.atClaimEof w k).ownClaim u line (judgeReply p reply)
        else (s.atClaimEof w k).peerClaim p u line (judgeReply p reply) s.link.replyDriven) := by
  obtain ⟨x, judged, held⟩ := State.replyEod_of_holds (s := s.advance w) holds good
  obtain ⟨k, ends, eof⟩ := ((s.advance w).receiverIn x).claimAtEof_ends p u line (judgeReply p reply) marked
  obtain ⟨sound, read⟩ := framesAndBytesAgree.1 (.claim p u line) rfl
  have whole : judgeReply p reply ≠ .damaged := judgeReply_ne_damaged good
  refine ⟨k, ⟨ends.rx, ends.own, ends.errorRun, ends.rxErrors⟩, ?_⟩
  rw [exec, execClaim, State.act_running _ _ run]
  dsimp only
  rw [judged]
  refine congrArg _ ((if_pos (Link.holdsClaim_of_holds held)).trans ?_)
  have parsed : (if checkGood (encodeFrame (.claim p u line)) = true then parseFrame (encodeFrame (.claim p u line))
      else none) = some (.claim p u line) := by rw [if_pos sound, read]
  have bytes : [header 2 (headerSlot p), octalByte u, line.elim 8 octalByte,
      checkByte [header 2 (headerSlot p), octalByte u, line.elim 8 octalByte]] = encodeFrame (.claim p u line) := rfl
  rw [bytes, parsed]
  exact (if_neg whole).trans eof
end

end Sys2Proof.Machine
end

section
/-! What a CLAIM teaches the view, and what settling leaves of it (R98, R99, R114, R115, R117, R120, R125, R147). -/

namespace Sys2Proof.Machine
open Sys2Proof

/-! ## Seizure counts -/

section
variable (s : State) (v u : Trunk)

/-- A count raised is one more, every count being halved first where it stands at 65535 (R125). -/
theorem State.raiseCount_seizures : ((s.raiseCount v).entry u).seizures =
    (if (s.entry v).seizures = 65535 then (s.entry u).seizures >>> 1 else (s.entry u).seizures) + if u = v then 1 else 0 := by
  have raised (entries : Vector TrunkEntry 8) :
      (entries.set v { entries[v] with seizures := (entries[v]).seizures + 1 })[u].seizures =
        (entries[u]).seizures + if u = v then 1 else 0 := by
    by_cases hu : u = v
    · subst hu; simp
    · have apart : v.val ≠ u.val := fun e => hu (Fin.ext e.symm)
      simp [hu, Vector.getElem_set_ne _ _ apart]
  unfold State.raiseCount
  dsimp only
  by_cases full : (s.entry v).seizures = 65535
  · rw [if_pos full, if_pos full]
    exact (raised _).trans (by simp [halvedCounts, State.entry])
  · rw [if_neg full, if_neg full]
    exact raised _

theorem State.raiseCount_own : ((s.raiseCount v).entry v).seizures =
    if (s.entry v).seizures = 65535 then 32768 else (s.entry v).seizures + 1 := by
  rw [State.raiseCount_seizures, if_pos rfl]
  split
  · rename_i full
    rw [full]
    rfl
  · rfl

/-- The entries of other trunks keep all but their counts, which are halved where the count raised stands at 65535. -/
theorem State.raiseCount_other (other : u ≠ v) : (s.raiseCount v).entry u = { s.entry u with
    seizures := if (s.entry v).seizures = 65535 then (s.entry u).seizures >>> 1 else (s.entry u).seizures } := by
  rw [State.raiseCount_entry, State.raiseCount_seizures, if_neg other, add_zero]

/-- A count halved is not full. -/
theorem halved_ne_full (x : BitVec 16) : x >>> 1 ≠ 65535 := by
  intro full
  have := congrArg BitVec.toNat full
  rw [BitVec.toNat_ushiftRight, Nat.shiftRight_one] at this
  have := x.isLt
  simp at *
  omega
end

/-! ## What settling leaves of the entries -/

section
variable {s : State}

/-- Settling touches no entry, or takes the home trunk, which was FREE, and raises its count (R125, R147). -/
theorem State.settle_entries (s : State) : (∀ v, s.settle.entry v = s.entry v) ∨ (s.ctl.station = .isolated ∧
    (s.entry s.slot).holding = .free ∧
      ∃ m, ∀ v, s.settle.entry v = ((s.makeOwn s.slot (some m)).raiseCount s.slot).entry v) := by
  have judged (v : Trunk) : s.settle.entry v = s.judge.entry v := by simp [State.settle, State.entry]
  rcases s.judge_takesHome with ⟨m, taken⟩ | ⟨-, -, view, -⟩
  · obtain ⟨-, free⟩ := taken.unretired
    obtain ⟨isolated, -, -, -, takes⟩ := taken
    refine .inr ⟨isolated, free, m, fun v => (judged v).trans ?_⟩
    rw [takes]
    simp [State.entry]
  · exact .inl fun v => (judged v).trans (by rw [State.entry, view]; rfl)

/-- An entry is spared outside ISOLATED, where the home trunk is not FREE, and where it is another's and no count is
halved (R125, R147). -/
theorem State.settle_entry_of_spared {v : Trunk} (spared : s.ctl.station ≠ .isolated ∨ (s.entry s.slot).holding ≠ .free ∨
    (v ≠ s.slot ∧ (s.entry s.slot).seizures ≠ 65535)) : s.settle.entry v = s.entry v := by
  rcases s.settle_entries with same | ⟨isolated, free, m, taken⟩
  · exact same v
  · obtain ⟨other, few⟩ := (spared.resolve_left (not_not_intro isolated)).resolve_left (not_not_intro free)
    have home : ((s.makeOwn s.slot (some m)).entry s.slot).seizures = (s.entry s.slot).seizures := by simp [State.makeOwn]
    rw [taken, State.raiseCount_other _ _ _ other, home, if_neg few]
    simp [State.makeOwn, other]

/-- Settling retires no trunk and restores none, and leaves a trunk that is not FREE to its holder. -/
theorem State.settle_entry_holds (s : State) (v : Trunk) : (s.settle.entry v).retiredBy = (s.entry v).retiredBy ∧
    ((s.entry v).holding ≠ .free → (s.settle.entry v).holding = (s.entry v).holding) := by
  rcases s.settle_entries with same | ⟨-, free, m, taken⟩
  · simp [same]
  · rw [taken, State.raiseCount_entry]
    by_cases home : v = s.slot
    · subst home
      exact ⟨by simp [State.makeOwn], fun busy => absurd free busy⟩
    · simp [State.makeOwn, home]

@[simp] theorem State.settle_peer (s : State) (q : Slot) : s.settle.peer q = s.peer q := by simp [State.peer]
end

/-! ## What the view learns -/

section
variable (s : State)

theorem State.refresh_peer (p q : Slot) : (s.refresh p).peer q =
    if q = p ∧ p ≠ s.slot then { s.peer q with heard := some s.scanTime } else s.peer q := by
  unfold State.refresh
  by_cases own : p = s.slot
  · simp [own]
  · rw [if_neg own, State.setPeer_peer]
    by_cases hq : q = p
    · subst hq; simp [own]
    · simp [hq]

/-- A refresh touches the slot's presence alone (R110). -/
theorem State.refresh_view (p : Slot) : (s.refresh p).view.entries = s.view.entries ∧
    (s.refresh p).view.dualHolds = s.view.dualHolds := by
  unfold State.refresh
  split <;> simp

theorem State.refresh_own : s.refresh s.slot = s := if_pos rfl

variable (p : Slot) (u v : Trunk) (line : Option Line)

theorem State.makeHeld_entry : (s.makeHeld u p line).entry v =
    if v = u then { s.entry u with holding := .held p line } else s.entry v := State.setEntry_entry _ _ _ _

/-- A peer's effective claim raises the count, and makes the entry HELD unless it is OWN, a dual hold (R114). -/
theorem State.peerEffective_entry : (s.peerEffective p u line).entry v =
    if v = u ∧ (s.entry u).isOwn = false then { (s.raiseCount u).entry v with holding := .held p line }
    else (s.raiseCount u).entry v := by
  unfold State.peerEffective
  dsimp only
  rw [State.raiseCount_isOwn]
  cases own : (s.entry u).isOwn with
  | true => simp [State.countDual, State.entry]
  | false =>
    rw [if_neg (by simp), State.makeHeld_entry]
    by_cases hv : v = u
    · subst hv; simp
    · simp [hv]

theorem State.peerEffective_view : (s.peerEffective p u line).view.presence = s.view.presence ∧
    (s.peerEffective p u line).view.dualHolds =
      if (s.entry u).isOwn = true then counted s.view.dualHolds else s.view.dualHolds := by
  unfold State.peerEffective
  dsimp only
  rw [State.raiseCount_isOwn]
  split <;> simp [State.countDual]

theorem TrunkEntry.holding_of_isOwn {e : TrunkEntry} (own : e.isOwn = true) : e.holding ≠ .free :=
  fun free => by simp [TrunkEntry.isOwn_of_free free] at own

/-- An entry that is not OWN becomes HELD by the peer that is said to hold it, if it was not (R115). -/
theorem State.learnHeld_of_other (other : (s.entry u).isOwn = false) :
    s.learnHeld u p = if (s.entry u).isHeldBy p = true then s else s.makeHeld u p none := by
  unfold State.learnHeld
  cases holding : (s.entry u).holding with
  | free => simp [TrunkEntry.isHeldBy, holding]
  | held q line => simp [TrunkEntry.isHeldBy, holding]
  | own line => simp [TrunkEntry.isOwn, holding] at other

theorem State.learnHeld_of_own (own : (s.entry u).isOwn = true) :
    s.learnHeld u p = if s.slot < p then s.countDual else s.countDual.yieldTo u p := by
  unfold State.learnHeld
  cases holding : (s.entry u).holding with
  | own line => rfl
  | _ => simp [TrunkEntry.isOwn, holding] at own

theorem State.applyRetire_entry : (s.applyRetire p u).entry v = if v = u then { s.entry u with
    retiredBy := if (s.entry u).retiredBy = some s.slot then some s.slot else some p } else s.entry v := by
  unfold State.applyRetire
  by_cases retired : (s.entry u).retiredBy = some s.slot
  · rw [if_pos (by simp [State.retiredBySelf, retired]), if_pos retired, ← retired]
    split
    · subst v; rfl
    · rfl
  · rw [if_neg (by simp [State.retiredBySelf, retired]), if_neg retired, State.setRetiredBy, State.setEntry_entry]
end

end Sys2Proof.Machine
end

section
/-! A trunk yielded to a peer with the lower slot, and a dual hold kept (R120, R162). -/

namespace Sys2Proof.Machine
open Sys2Proof

/-! ## A trunk yielded -/

/-- The end of a session touches no entry but its trunk's (R160, R163). -/
theorem State.endSession_other (s : State) {u v : Trunk} (cause : Cause) (other : v ≠ u) :
    (s.endSession u cause).entry v = s.entry v := by
  have released : (s.releaseTrunk u cause).entry v = s.entry v := by
    have before (w : Trunk) : ((((s.setSeize u false).openTrunk u).abortSenders u).setSession u none).entry w = s.entry w := by
      simp [State.entry]
    rw [State.releaseTrunk, (State.place_reads _ _).1, State.freeOwn_entry, if_neg (fun both => other both.1), before]
  unfold State.endSession
  split
  · simp [State.retireSelf, State.setRetiredBy, other, released]
  · exact released

/-- The trunk given up to peer `p`, its session ended with cause yield, up to what becomes of its purpose (R120, R162). -/
def State.yielded (s : State) (u : Trunk) (p : Slot) : State := (s.makeHeld u p none).endSession u .yield

section
variable (s : State) (u : Trunk) (p : Slot)

/-- A trunk yielded with no session is HELD; one with a session ends it, with its call in LOCKOUT or its probe's interval
started again (R162). -/
theorem State.yieldTo_cases : (s.session u = none ∧ s.yieldTo u p = s.makeHeld u p none) ∨
    ∃ ses, s.session u = some ses ∧ ((∃ l, ses.purpose = .line l ∧ s.yieldTo u p = (s.yielded u p).lockout l) ∨
      (ses.purpose = .probe ∧ s.yieldTo u p = (s.yielded u p).probeAgain u)) := by
  unfold State.yieldTo
  cases opened : s.session u with
  | none => exact .inl ⟨rfl, rfl⟩
  | some ses =>
    refine .inr ⟨ses, rfl, ?_⟩
    cases purpose : ses.purpose with
    | line l => exact .inl ⟨l, rfl, by simp only [purpose]; rfl⟩
    | probe => exact .inr ⟨rfl, by simp only [purpose]; rfl⟩

theorem State.yielded_view : (s.yielded u p).view.presence = s.view.presence ∧
    (s.yielded u p).view.dualHolds = s.view.dualHolds ∧ ((s.yielded u p).entry u).holding = .held p none ∧
    ∀ v, v ≠ u → (s.yielded u p).entry v = s.entry v := by
  refine ⟨by simp [State.yielded], by simp [State.yielded], ?_, fun v other => ?_⟩
  · rw [State.yielded, ((s.makeHeld u p none).releases_endSession u .yield).holding]
    simp [State.makeHeld, TrunkEntry.isOwn]
  · rw [State.yielded, State.endSession_other _ _ other, State.makeHeld_entry, if_neg other]

/-- A yield makes the entry HELD by the peer, and touches no other, no presence and no count (R120). -/
theorem State.yieldTo_view : (s.yieldTo u p).view.presence = s.view.presence ∧
    (s.yieldTo u p).view.dualHolds = s.view.dualHolds ∧ ((s.yieldTo u p).entry u).holding = .held p none ∧
    ∀ v, v ≠ u → (s.yieldTo u p).entry v = s.entry v := by
  rcases s.yieldTo_cases u p with ⟨-, held⟩ | ⟨ses, -, ⟨l, -, ended⟩ | ⟨-, ended⟩⟩
  · rw [held]
    exact ⟨by simp, by simp, by simp [State.makeHeld], fun v other => by simp [State.makeHeld, other]⟩
  · have view : (s.yieldTo u p).view = (s.yielded u p).view := by simp [ended]
    simpa only [State.entry, view] using s.yielded_view u p
  · have view : (s.yieldTo u p).view = (s.yielded u p).view := by simp [ended]
    simpa only [State.entry, view] using s.yielded_view u p

variable {s u}

/-- A session yielded is ended, its seize released, its RELEASE to send, and its call in LOCKOUT (R160, R162). -/
theorem State.yieldTo_ends {ses : Session} (opened : s.session u = some ses) : (s.yieldTo u p).session u = none ∧
    (s.yieldTo u p).sup.seize[u] = false ∧ (s.yieldTo u p).tx.Carries (.release u .yield) ∧
    ∀ l, ses.purpose = .line l → (s.yielded u p).LocksOut (s.yieldTo u p) l := by
  have released : (s.makeHeld u p none).Releases (s.yielded u p) u := State.releases_endSession _ u .yield
  have shut : (s.yielded u p).session u = none := by rw [released.session, if_pos rfl]
  have off : (s.yielded u p).sup.seize[u] = false := by rw [released.seize, if_pos rfl]
  have carried : (s.yielded u p).tx.Carries (.release u .yield) := by
    obtain ⟨-, -, carries, -⟩ := (s.makeHeld u p none).endSession_entry u .yield
    exact carries
  rcases s.yieldTo_cases u p with ⟨none_, -⟩ | ⟨ses', here, ended⟩
  · rw [opened] at none_
    cases none_
  rw [opened] at here
  cases here
  rcases ended with ⟨m, purpose, ended⟩ | ⟨purpose, ended⟩
  · refine ⟨?_, by simpa [ended] using off, ?_, fun l owner => ?_⟩
    · simpa [State.session, ended] using shut
    · rw [ended, (State.lockout_hunt _ m).2]
      exact State.carries_huntDrop carried (by simp [TxFrame.key]) m
    · rw [purpose] at owner
      cases owner
      rw [ended]
      exact State.locksOut_lockout _ m
  · refine ⟨?_, by simpa [ended] using off, ?_, fun l owner => ?_⟩
    · simpa [State.session, ended] using shut
    · simpa [ended] using carried
    · rw [purpose] at owner
      cases owner
end

/-! ## The claim of a peer, settled -/

section
variable {s : State}

/-- Settling leaves each session to its purpose, but the home trunk's, where it was FREE (R147, R159). -/
theorem State.settle_purpose {u : Trunk} {ses : Session} (opened : s.session u = some ses)
    (busy : (s.entry u).holding ≠ .free) : ∃ x, s.settle.session u = some x ∧ x.purpose = ses.purpose := by
  have stands : s.judge.session u = s.session u := by
    rcases s.judge_takesHome with ⟨m, taken⟩ | ⟨-, -, -, sessions, -⟩
    · have other : u ≠ s.slot := by
        rintro rfl
        exact busy taken.unretired.2
      rw [taken.session, if_neg other]
    · simp [State.session, sessions]
  have purposes := (State.sendsOn_settleSenders (s := s.judge)).purposes u
  rw [stands, opened] at purposes
  have judged : s.settle = s.judge.settleSenders := rfl
  rw [judged]
  simpa using purposes

/-- A trunk with no session, not FREE, rests when the rest is settled (R147). -/
theorem State.settle_rests {u : Trunk} (shut : s.session u = none) (busy : (s.entry u).holding ≠ .free) :
    s.TrunkRests s.settle u := by
  rcases s.settle_trunk u shut with ⟨rests, -⟩ | ⟨home, m, taken⟩
  · exact rests
  · rw [home] at busy
    exact absurd taken.unretired.2 busy
end

end Sys2Proof.Machine
end

section
/-! O44: a peer's CLAIM at its EOF teaches the view (R99, R114, R115, R120, R125, R144, R162). -/

namespace Sys2Proof.Machine
open Sys2Proof

/-! ## What settling spares, as it stood before the frame -/

section
variable {s r : State} {v : Trunk} (ctl : r.ctl = s.ctl)
include ctl

/-- What has been learnt of trunk `v` is spared where the home trunk is not taken, or taken without halving (R125, R147). -/
theorem State.settle_spares
    (few : (s.entry s.slot).seizures ≠ 65535 → (r.entry s.slot).holding ≠ .free ∨ (r.entry s.slot).seizures ≠ 65535)
    (spared : s.ctl.station ≠ .isolated ∨
      (v ≠ s.slot ∧ (s.ctl.station ≠ .isolated ∨ (s.entry s.slot).seizures ≠ 65535))) :
    r.settle.entry v = r.entry v := by
  have home : r.slot = s.slot := by rw [State.slot, ctl]; rfl
  refine State.settle_entry_of_spared ?_
  rw [ctl, home]
  rcases spared with away | ⟨other, away | counts⟩
  · exact .inl away
  · exact .inl away
  · exact .inr ((few counts).imp id fun unhalved => ⟨other, unhalved⟩)

/-- A trunk that is not FREE is spared where no count is halved, and where it is the home trunk (R125, R147). -/
theorem State.settle_spares_busy (busy : (r.entry v).holding ≠ .free)
    (few : (s.entry s.slot).seizures ≠ 65535 → (r.entry s.slot).holding ≠ .free ∨ (r.entry s.slot).seizures ≠ 65535)
    (counts : (s.ctl.station ≠ .isolated ∨ (s.entry s.slot).seizures ≠ 65535) ∨ v = s.slot) :
    r.settle.entry v = r.entry v := by
  have home : r.slot = s.slot := by rw [State.slot, ctl]; rfl
  by_cases own : v = s.slot
  · exact State.settle_entry_of_spared (.inr (.inl (home ▸ own ▸ busy)))
  · exact State.settle_spares ctl few (.inr ⟨own, counts.resolve_right own⟩)
end

/-! ## The judgement of a peer's CLAIM -/

section
variable {s : State} {p o : Slot} {u : Trunk} {line : Option Line} {driven : Bool} {code : Nat}

theorem State.refresh_fitted (q : Slot) : (s.refresh q).fitted u = s.fitted u := by
  have ctl : (s.refresh q).ctl = s.ctl := by simp
  rw [State.fitted, State.n, ctl]
  rfl

theorem State.refresh_slot (q : Slot) : (s.refresh q).slot = s.slot := by simp [State.slot]

theorem State.peerClaim_effective (fitted : s.fitted u = true) :
    s.peerClaim p u line .effective driven = ((s.refresh p).peerEffective p u line).settle := by
  simp only [State.peerClaim, State.fromPeer, State.refresh_fitted, fitted, if_true]

theorem State.peerClaim_voided (fitted : s.fitted u = true) (sound : o = s.slot → driven = true) :
    s.peerClaim p u line (.voided code o) driven =
      (((s.refresh o).refresh p).applyObjection u code o).settle := by
  have unhalted : ¬ (o = s.slot ∧ driven = false) := fun ⟨own, undriven⟩ => by simp [sound own] at undriven
  simp only [State.peerClaim, if_neg unhalted, State.fromPeer, State.refresh_fitted, fitted, if_true]

theorem State.applyObjection_own : s.applyObjection u code s.slot = s := if_pos rfl

theorem State.applyObjection_held (other : o ≠ s.slot) : s.applyObjection u 1 o = s.learnHeld u o := by
  simp [State.applyObjection, other]

theorem State.applyObjection_retired (other : o ≠ s.slot) : s.applyObjection u 2 o = s.applyRetire o u := by
  simp [State.applyObjection, other]
end

/-! ## The effective claim -/

section
variable {s : State} (p : Slot) (u : Trunk) (line : Option Line)

/-- What a peer's effective claim leaves of the entries before the rest is settled (R114, R125). -/
theorem State.peerEffective_entries (v : Trunk) : (v ≠ u → (s.peerEffective p u line).entry v = { s.entry v with
      seizures := if (s.entry u).seizures = 65535 then (s.entry v).seizures >>> 1 else (s.entry v).seizures }) ∧
    ((s.peerEffective p u line).entry u).seizures =
      (if (s.entry u).seizures = 65535 then 32768 else (s.entry u).seizures + 1) ∧
    ((s.peerEffective p u line).entry u).holding =
      (if (s.entry u).isOwn = true then (s.entry u).holding else .held p line) ∧
    ((s.peerEffective p u line).entry u).retiredBy = (s.entry u).retiredBy := by
  have raised := s.raiseCount_entry u u
  refine ⟨fun other => ?_, ?_, ?_, ?_⟩
  · rw [State.peerEffective_entry, if_neg fun both => other both.1, State.raiseCount_other _ _ _ other]
  · rw [State.peerEffective_entry, ← State.raiseCount_own]
    split <;> rfl
  · rw [State.peerEffective_entry, raised]
    cases (s.entry u).isOwn <;> simp
  · rw [State.peerEffective_entry, raised]
    cases (s.entry u).isOwn <;> simp

theorem State.peerEffective_busy : ((s.peerEffective p u line).entry u).holding ≠ .free := by
  obtain ⟨-, -, holding, -⟩ := s.peerEffective_entries p u line u
  rw [holding]
  split
  · exact TrunkEntry.holding_of_isOwn ‹_›
  · simp

/-- The home trunk's count is full after the claim only where that trunk was claimed, or it was full before (R125). -/
theorem State.peerEffective_few (few : (s.entry s.slot).seizures ≠ 65535) :
    ((s.peerEffective p u line).entry s.slot).holding ≠ .free ∨
      ((s.peerEffective p u line).entry s.slot).seizures ≠ 65535 := by
  by_cases home : s.slot = u
  · exact .inl (home ▸ s.peerEffective_busy p s.slot line)
  · obtain ⟨others, -⟩ := s.peerEffective_entries p u line s.slot
    rw [others home]
    refine .inr ?_
    dsimp only
    split
    · exact halved_ne_full _
    · exact few
end

section
variable {s : State} {p o : Slot} {u v : Trunk} {line : Option Line}

/-- What a peer's effective claim, settled, leaves of the view (R110, R114, R125). -/
theorem State.peerEffective_settles (other : p ≠ s.slot) {t : State}
    (settled : t = ((s.refresh p).peerEffective p u line).settle) :
    (t.peer p).heard = some s.scanTime ∧
    ((s.ctl.station ≠ .isolated ∨ (s.entry s.slot).seizures ≠ 65535) ∨ u = s.slot → (t.entry u).seizures =
      (if (s.entry u).seizures = 65535 then 32768 else (s.entry u).seizures + 1)) ∧
    (∀ v, v ≠ u → (s.ctl.station ≠ .isolated ∨
        (v ≠ s.slot ∧ (s.ctl.station ≠ .isolated ∨ (s.entry s.slot).seizures ≠ 65535))) →
      t.entry v = { s.entry v with
        seizures := if (s.entry u).seizures = 65535 then (s.entry v).seizures >>> 1 else (s.entry v).seizures }) ∧
    (t.entry u).holding = (if (s.entry u).isOwn = true then (s.entry u).holding else .held p line) ∧
    t.view.dualHolds = (if (s.entry u).isOwn = true then counted s.view.dualHolds else s.view.dualHolds) ∧
    (t.entry u).retiredBy = (s.entry u).retiredBy := by
  subst settled
  have entry (x : Trunk) : (s.refresh p).entry x = s.entry x := by rw [State.refresh_entry]
  have slot : (s.refresh p).slot = s.slot := State.refresh_slot p
  have ctl : ((s.refresh p).peerEffective p u line).ctl = s.ctl := by simp
  obtain ⟨-, seizures, holding, retired⟩ := (s.refresh p).peerEffective_entries p u line u
  have busy := (s.refresh p).peerEffective_busy p u line
  have few (h : (s.entry s.slot).seizures ≠ 65535) := (s.refresh p).peerEffective_few p u line (by rwa [slot, entry])
  rw [slot] at few
  obtain ⟨presence, dual⟩ := (s.refresh p).peerEffective_view p u line
  obtain ⟨kept, held⟩ := ((s.refresh p).peerEffective p u line).settle_entry_holds u
  simp only [entry] at seizures holding retired dual
  refine ⟨?_, fun counts => ?_, fun v away spared => ?_, (held busy).trans holding, ?_, kept.trans retired⟩
  · have heard : ((s.refresh p).peerEffective p u line).peer p = (s.refresh p).peer p := by
      rw [State.peer, presence]
      rfl
    rw [State.settle_peer, heard, State.refresh_peer, if_pos ⟨rfl, other⟩]
  · rw [State.settle_spares_busy ctl busy few counts, seizures]
  · obtain ⟨others, -⟩ := (s.refresh p).peerEffective_entries p u line v
    rw [State.settle_spares ctl few spared, others away]
    simp only [entry]
  · have before : (s.refresh p).view.dualHolds = s.view.dualHolds := (s.refresh_view p).2
    rw [← before, ← dual]
    simp
end

/-! ## The claim voided -/

section
variable (s : State) (u : Trunk) (o : Slot)

/-- A hold learnt leaves the trunk to somebody, and touches no presence and no other entry (R115, R120). -/
theorem State.learnHeld_keeps : (s.learnHeld u o).view.presence = s.view.presence ∧
    ((s.learnHeld u o).entry u).holding ≠ .free ∧ ∀ v, v ≠ u → (s.learnHeld u o).entry v = s.entry v := by
  cases own : (s.entry u).isOwn with
  | false =>
    rw [State.learnHeld_of_other s o u own]
    cases held : (s.entry u).isHeldBy o with
    | true =>
      refine ⟨rfl, fun free => ?_, fun _ _ => rfl⟩
      simp only [if_true] at free
      simp [TrunkEntry.isHeldBy, free] at held
    | false => exact ⟨by simp, by simp [State.makeHeld], fun v other => by simp [State.makeHeld, other]⟩
  | true =>
    rw [State.learnHeld_of_own s o u own]
    split
    · exact ⟨by simp [State.countDual], TrunkEntry.holding_of_isOwn own, fun _ _ => rfl⟩
    · obtain ⟨presence, -, holding, others⟩ := s.countDual.yieldTo_view u o
      exact ⟨presence.trans (by simp [State.countDual]), by simp [holding], others⟩
end

/-- From `s` to `r` the view hears `o` and `p`, leaves every other entry, and leaves trunk `u` to somebody. -/
structure State.Hears (s r : State) (u : Trunk) (o p : Slot) : Prop where
  ctl : r.ctl = s.ctl
  heard : ∀ q, q = o ∨ q = p → q ≠ s.slot → (r.peer q).heard = some s.scanTime
  busy : (r.entry u).holding ≠ .free
  others : ∀ v, v ≠ u → r.entry v = s.entry v

section
variable {s : State} {u : Trunk} {o p : Slot}

theorem State.refresh_heard (q : Slot) (asked : q = o ∨ q = p) (peer : q ≠ s.slot) :
    (((s.refresh o).refresh p).peer q).heard = some s.scanTime := by
  have time : (s.refresh o).scanTime = s.scanTime := by simp [State.scanTime]
  rw [State.refresh_peer, State.refresh_slot, time]
  by_cases hp : q = p
  · subst hp
    rw [if_pos ⟨rfl, peer⟩]
  · have ho : q = o := asked.resolve_right hp
    subst ho
    rw [if_neg fun both => hp both.1, State.refresh_peer, if_pos ⟨rfl, peer⟩]

theorem State.refreshed_entry (x : Trunk) : ((s.refresh o).refresh p).entry x = s.entry x := by
  rw [State.refresh_entry, State.refresh_entry]

theorem State.hears_learnHeld : s.Hears (((s.refresh o).refresh p).learnHeld u o) u o p := by
  obtain ⟨presence, busy, others⟩ := ((s.refresh o).refresh p).learnHeld_keeps u o
  refine ⟨by simp, fun q asked peer => ?_, busy, fun v other => (others v other).trans (State.refreshed_entry v)⟩
  rw [State.peer, presence]
  exact State.refresh_heard q asked peer

section
variable {r : State} (h : s.Hears r u o p)
include h

theorem State.Hears.few (few : (s.entry s.slot).seizures ≠ 65535) :
    (r.entry s.slot).holding ≠ .free ∨ (r.entry s.slot).seizures ≠ 65535 := by
  by_cases home : s.slot = u
  · exact .inl (home ▸ h.busy)
  · exact .inr (by rwa [h.others _ home])

theorem State.Hears.settle_other {v : Trunk} (other : v ≠ u) (spared : s.ctl.station ≠ .isolated ∨
    (v ≠ s.slot ∧ (s.ctl.station ≠ .isolated ∨ (s.entry s.slot).seizures ≠ 65535))) :
    r.settle.entry v = s.entry v :=
  (State.settle_spares h.ctl h.few spared).trans (h.others v other)

theorem State.Hears.settle_busy
    (counts : (s.ctl.station ≠ .isolated ∨ (s.entry s.slot).seizures ≠ 65535) ∨ u = s.slot) :
    r.settle.entry u = r.entry u := State.settle_spares_busy h.ctl h.busy h.few counts

theorem State.Hears.settle_holding : (r.settle.entry u).holding = (r.entry u).holding :=
  (r.settle_entry_holds u).2 h.busy
end

/-- A peer said to hold a trunk that is not OWN holds it (R115). -/
theorem State.learnHeld_settles_other {t : State}
    (settled : t = (((s.refresh o).refresh p).learnHeld u o).settle) (notOwn : (s.entry u).isOwn = false) :
    (t.entry u).holding = (if (s.entry u).isHeldBy o then (s.entry u).holding else .held o none) ∧
      ((s.ctl.station ≠ .isolated ∨ (s.entry s.slot).seizures ≠ 65535) ∨ u = s.slot →
        t.entry u = { s.entry u with holding := (t.entry u).holding }) := by
  subst settled
  have hears : s.Hears (((s.refresh o).refresh p).learnHeld u o) u o p := State.hears_learnHeld
  have entry (x : Trunk) : ((s.refresh o).refresh p).entry x = s.entry x := State.refreshed_entry x
  have learnt : (((s.refresh o).refresh p).learnHeld u o).entry u = { s.entry u with
      holding := if (s.entry u).isHeldBy o then (s.entry u).holding else .held o none } := by
    rw [State.learnHeld_of_other _ o u (by rwa [entry]), entry]
    split
    · exact entry u
    · rw [State.makeHeld_entry, if_pos rfl, entry]
  have holding := hears.settle_holding
  rw [learnt] at holding
  refine ⟨holding, fun counts => ?_⟩
  rw [hears.settle_busy counts, learnt]

/-- A dual hold is counted (R120). -/
theorem State.learnHeld_settles_dual (own : (s.entry u).isOwn = true) :
    (((s.refresh o).refresh p).learnHeld u o).settle.view.dualHolds = counted s.view.dualHolds := by
  have entry (x : Trunk) : ((s.refresh o).refresh p).entry x = s.entry x := State.refreshed_entry x
  have before : ((s.refresh o).refresh p).view.dualHolds = s.view.dualHolds :=
    (State.refresh_view _ p).2.trans (s.refresh_view o).2
  have learnt : (((s.refresh o).refresh p).learnHeld u o).view.dualHolds = counted s.view.dualHolds := by
    rw [State.learnHeld_of_own _ o u (by rwa [entry]), ← before]
    split
    · rfl
    · exact (State.yieldTo_view _ u o).2.1
  simpa using learnt

/-- Against a higher slot the trunk and its session are kept (R120). -/
theorem State.learnHeld_settles_kept (own : (s.entry u).isOwn = true) (lower : s.slot < o) {t : State}
    (settled : t = (((s.refresh o).refresh p).learnHeld u o).settle) :
    (t.entry u).holding = (s.entry u).holding ∧
      ((s.ctl.station ≠ .isolated ∨ (s.entry s.slot).seizures ≠ 65535) ∨ u = s.slot → t.entry u = s.entry u) ∧
      ∀ ses, s.session u = some ses → ∃ x, t.session u = some x ∧ x.purpose = ses.purpose := by
  subst settled
  have hears : s.Hears (((s.refresh o).refresh p).learnHeld u o) u o p := State.hears_learnHeld
  have entry (x : Trunk) : ((s.refresh o).refresh p).entry x = s.entry x := State.refreshed_entry x
  have kept : ((s.refresh o).refresh p).learnHeld u o = ((s.refresh o).refresh p).countDual := by
    rw [State.learnHeld_of_own _ o u (by rwa [entry]), State.refresh_slot, State.refresh_slot, if_pos lower]
  have learnt : (((s.refresh o).refresh p).learnHeld u o).entry u = s.entry u := by
    rw [kept]
    exact entry u
  refine ⟨by rw [hears.settle_holding, learnt], fun counts => by rw [hears.settle_busy counts, learnt], fun ses opened => ?_⟩
  refine State.settle_purpose ?_ hears.busy
  rw [kept, ← opened]
  simp [State.session]

/-- To a lower slot the trunk is yielded with its session (R120, R162). -/
theorem State.learnHeld_settles_yielded (own : (s.entry u).isOwn = true) (higher : o < s.slot) {t : State}
    (settled : t = (((s.refresh o).refresh p).learnHeld u o).settle) :
    (t.entry u).holding = .held o none ∧
      ∀ ses, s.session u = some ses → t.session u = none ∧ t.sup.seize[u] = false ∧
        t.tx.Holds (.release u .yield) ∧
        ∀ l, ses.purpose = .line l → (t.call l).state = .lockout ∧ t.lko[l] = true := by
  subst settled
  have hears : s.Hears (((s.refresh o).refresh p).learnHeld u o) u o p := State.hears_learnHeld
  have entry (x : Trunk) : ((s.refresh o).refresh p).entry x = s.entry x := State.refreshed_entry x
  have yields : ((s.refresh o).refresh p).learnHeld u o = ((s.refresh o).refresh p).countDual.yieldTo u o := by
    rw [State.learnHeld_of_own _ o u (by rwa [entry]), State.refresh_slot, State.refresh_slot,
      if_neg (not_lt_of_gt higher)]
  have busy := hears.busy
  have holding := hears.settle_holding
  rw [yields] at busy holding ⊢
  obtain ⟨-, -, learnt, -⟩ := ((s.refresh o).refresh p).countDual.yieldTo_view u o
  refine ⟨holding.trans learnt, fun ses opened => ?_⟩
  have before : ((s.refresh o).refresh p).countDual.session u = some ses := by
    rw [← opened]
    simp [State.session]
  obtain ⟨shut, off, carried, locks⟩ := State.yieldTo_ends o before
  obtain ⟨session, seize, -, -⟩ := State.settle_rests shut busy
  refine ⟨session.trans shut, seize.trans off, (State.carries_settle carried (by simp [TxFrame.key])).holds,
    fun l owner => ?_⟩
  have locked := (locks l owner).settle
  exact ⟨by rw [locked.call]; rfl, locked.lko⟩

/-- An objection of code 1, settled: the view hears both slots, and learns of the hold (R110, R115, R120, R162). -/
theorem State.learnHeld_settles (other : p ≠ s.slot) (peer : o ≠ s.slot) {t : State}
    (settled : t = (((s.refresh o).refresh p).learnHeld u o).settle) :
    (t.peer p).heard = some s.scanTime ∧ (t.peer o).heard = some s.scanTime ∧
    (∀ v, v ≠ u → (s.ctl.station ≠ .isolated ∨
        (v ≠ s.slot ∧ (s.ctl.station ≠ .isolated ∨ (s.entry s.slot).seizures ≠ 65535))) → t.entry v = s.entry v) ∧
    ((s.entry u).isOwn = false →
      (t.entry u).holding = (if (s.entry u).isHeldBy o then (s.entry u).holding else .held o none) ∧
      ((s.ctl.station ≠ .isolated ∨ (s.entry s.slot).seizures ≠ 65535) ∨ u = s.slot →
        t.entry u = { s.entry u with holding := (t.entry u).holding })) ∧
    ((s.entry u).isOwn = true → t.view.dualHolds = counted s.view.dualHolds ∧
      (s.slot < o → (t.entry u).holding = (s.entry u).holding ∧
        ((s.ctl.station ≠ .isolated ∨ (s.entry s.slot).seizures ≠ 65535) ∨ u = s.slot → t.entry u = s.entry u) ∧
        ∀ ses, s.session u = some ses → ∃ x, t.session u = some x ∧ x.purpose = ses.purpose) ∧
      (o < s.slot → (t.entry u).holding = .held o none ∧
        ∀ ses, s.session u = some ses → t.session u = none ∧ t.sup.seize[u] = false ∧
          t.tx.Holds (.release u .yield) ∧
          ∀ l, ses.purpose = .line l → (t.call l).state = .lockout ∧ t.lko[l] = true)) := by
  have hears : s.Hears (((s.refresh o).refresh p).learnHeld u o) u o p := State.hears_learnHeld
  have heard (q : Slot) (asked : q = o ∨ q = p) (away : q ≠ s.slot) : (t.peer q).heard = some s.scanTime := by
    rw [settled, State.settle_peer]
    exact hears.heard q asked away
  refine ⟨heard p (.inr rfl) other, heard o (.inl rfl) peer, fun v away spared => ?_,
    State.learnHeld_settles_other settled, fun own => ⟨?_, fun lower => State.learnHeld_settles_kept own lower settled,
      fun higher => State.learnHeld_settles_yielded own higher settled⟩⟩
  · rw [settled]
    exact hears.settle_other away spared
  · rw [settled]
    exact State.learnHeld_settles_dual own

/-- A trunk said to be retired is retired by the objector, unless this station has retired it (R115, R117). -/
theorem State.applyRetire_settles {t : State} (settled : t = (((s.refresh o).refresh p).applyRetire o u).settle) :
    (t.entry u).retiredBy = (if (s.entry u).retiredBy = some s.slot then some s.slot else some o) ∧
      ∀ v, (s.ctl.station ≠ .isolated ∨
          (v ≠ s.slot ∧ (s.ctl.station ≠ .isolated ∨ (s.entry s.slot).seizures ≠ 65535))) →
        (v = u → t.entry v = { s.entry v with retiredBy := (t.entry v).retiredBy }) ∧ (v ≠ u → t.entry v = s.entry v) := by
  subst settled
  have entry (x : Trunk) : ((s.refresh o).refresh p).entry x = s.entry x := State.refreshed_entry x
  have slot : ((s.refresh o).refresh p).slot = s.slot := by rw [State.refresh_slot, State.refresh_slot]
  have learnt (v : Trunk) := State.applyRetire_entry ((s.refresh o).refresh p) o u v
  simp only [entry, slot] at learnt
  have few (few : (s.entry s.slot).seizures ≠ 65535) :
      ((((s.refresh o).refresh p).applyRetire o u).entry s.slot).holding ≠ .free ∨
        ((((s.refresh o).refresh p).applyRetire o u).entry s.slot).seizures ≠ 65535 := by
    rw [learnt]
    split
    · subst u; exact .inr few
    · exact .inr few
  obtain ⟨kept, -⟩ := (((s.refresh o).refresh p).applyRetire o u).settle_entry_holds u
  refine ⟨by rw [kept, learnt, if_pos rfl], fun v spared => ?_⟩
  have spares := State.settle_spares (r := ((s.refresh o).refresh p).applyRetire o u) (by simp) few spared
  rw [spares, learnt]
  refine ⟨fun same => ?_, fun other => if_neg other⟩
  subst same
  rw [if_pos rfl]

/-- A claim that this station itself has voided refreshes the claimant alone (R99, R110). -/
theorem State.refresh_settles (other : p ≠ s.slot) {t : State} (settled : t = (s.refresh p).settle) :
    (t.peer p).heard = some s.scanTime ∧ (∀ q, q ≠ p → t.peer q = s.peer q) ∧
      t.view.dualHolds = s.view.dualHolds ∧
      (∀ v, (s.ctl.station ≠ .isolated ∨
          (v ≠ s.slot ∧ (s.ctl.station ≠ .isolated ∨ (s.entry s.slot).seizures ≠ 65535))) → t.entry v = s.entry v) ∧
      (t.entry u).retiredBy = (s.entry u).retiredBy := by
  subst settled
  have entry (x : Trunk) : (s.refresh p).entry x = s.entry x := by rw [State.refresh_entry]
  refine ⟨?_, fun q hq => ?_, ?_, fun v spared => ?_, ?_⟩
  · rw [State.settle_peer, State.refresh_peer, if_pos ⟨rfl, other⟩]
  · rw [State.settle_peer, State.refresh_peer, if_neg fun both => hq both.1]
  · simpa using (s.refresh_view p).2
  · rw [State.settle_spares (by simp) (fun few => .inr (by rwa [entry])) spared, entry]
  · rw [((s.refresh p).settle_entry_holds u).1, entry]
end

/-! ## The obligation -/

section
variable {s : State} {w : Nat} {p : Slot} {u : Trunk} {line : Option Line} {reply : Option (List Byte)}
  (run : s.running = true) (holds : s.link.Holds (encodeFrame (.claim p u line)) reply (max s.now w))
  (good : ∀ b, reply = some b → checkGood b = true)
include run holds good

/-- A peer's CLAIM at its EOF is judged by its reply (R97, R99, R113). -/
theorem exec_peer_claim (other : p ≠ s.slot) : ∃ k, s.link.ClaimEnds k (judgeReply p reply) ∧
    exec (.claim w (headerSlot p) (octalByte u) (line.elim 8 octalByte)
      (checkByte [header 2 (headerSlot p), octalByte u, line.elim 8 octalByte]) reply) s =
    .next ((s.atClaimEof w k).peerClaim p u line (judgeReply p reply) s.link.replyDriven) := by
  obtain ⟨k, ends, ran⟩ := exec_claim_ends run holds good fun own => absurd own other
  exact ⟨k, ends, ran.trans (congrArg _ (if_neg other))⟩
end

section
variable {s : State} {w : Nat} {p o : Slot} {u : Trunk} {line : Option Line} {code : Nat}
  (run : s.running = true) (fitted : s.fitted u = true) (other : p ≠ s.slot) (apart : o ≠ p)
  (listed : code = 1 ∨ code = 2) (sound : o = s.slot → s.link.replyDriven = true)
  (holds : s.link.Holds (encodeFrame (.claim p u line)) (some (withCheck [header code (headerSlot o)])) (max s.now w))
include run fitted other apart listed sound holds

/-- A peer's CLAIM with an objection teaches the view what it says of the objector (R99, R110, R115). -/
theorem exec_peer_objection : ∃ k, k.rx = .idle ∧
    exec (.claim w (headerSlot p) (octalByte u) (line.elim 8 octalByte)
      (checkByte [header 2 (headerSlot p), octalByte u, line.elim 8 octalByte])
      (some (withCheck [header code (headerSlot o)]))) s =
    .next ((((s.atClaimEof w k).refresh o).refresh p).applyObjection u code o).settle := by
  obtain ⟨k, ends, ran⟩ := exec_peer_claim run holds
    (fun b hb => by cases hb; exact checkGood_withCheck _) other
  rw [judgeReply_objection apart listed] at ends ran
  refine ⟨k, by simpa using ends.rx, ran.trans (congrArg _ ?_)⟩
  exact State.peerClaim_voided (s := s.atClaimEof w k) fitted sound
end

/-- Settles O44: each reply is judged, the claim goes to the view, and settling spares what the home trunk does not
touch. -/
theorem peerClaimTeachesTheViewAtEof : Obligations.PeerClaimTeachesTheViewAtEof := by
  unfold Obligations.PeerClaimTeachesTheViewAtEof
  intro s w p u line run _ other fitted
  refine ⟨fun holds => ?_, fun o apart peer => ⟨fun holds => ?_, fun holds => ?_⟩, fun code listed driven holds => ?_,
    fun _ _ r holds good judged => ?_⟩
  case refine_1 =>
    obtain ⟨k, ends, ran⟩ := exec_peer_claim run holds (fun _ none_ => nomatch none_) other
    rw [judgeReply_none] at ends ran
    rw [State.peerClaim_effective (s := s.atClaimEof w k) fitted] at ran
    obtain ⟨heard, seizures, others, holding, dual, retired⟩ :=
      State.peerEffective_settles (s := s.atClaimEof w k) (u := u) (line := line) other rfl
    refine ⟨_, ran, heard, ?_, seizures, others, fun notOwn => ⟨?_, ?_⟩, fun own => ⟨?_, ?_⟩, retired, ?_, ?_, ?_⟩
    · simpa [State.atClaimEof] using ends.rx
    · exact holding.trans (if_neg (Bool.not_eq_true _ ▸ notOwn))
    · exact dual.trans (if_neg (Bool.not_eq_true _ ▸ notOwn))
    · exact holding.trans (if_pos own)
    · exact dual.trans (if_pos own)
    all_goals simp [State.atClaimEof]
  case refine_2 =>
    obtain ⟨k, -, ran⟩ := exec_peer_objection run fitted other apart (.inl rfl) (fun own => absurd own peer) holds
    rw [State.applyObjection_held (by simpa [State.slot, State.atClaimEof] using peer)] at ran
    have learnt := State.learnHeld_settles (s := s.atClaimEof w k) (u := u) other peer rfl
    exact ⟨_, ran, learnt⟩
  case refine_3 =>
    obtain ⟨k, -, ran⟩ := exec_peer_objection run fitted other apart (.inr rfl) (fun own => absurd own peer) holds
    rw [State.applyObjection_retired (by simpa [State.slot, State.atClaimEof] using peer)] at ran
    obtain ⟨retired, spares⟩ := State.applyRetire_settles (s := s.atClaimEof w k) (u := u) (o := o) (p := p) rfl
    exact ⟨_, ran, retired, fun spared => (spares u spared).1 rfl, fun v away spared => (spares v spared).2 away⟩
  case refine_4 =>
    obtain ⟨k, rx, ran⟩ := exec_peer_objection run fitted other (Ne.symm other) listed (fun _ => driven) holds
    have own : ((((s.atClaimEof w k).refresh s.slot).refresh p).applyObjection u code s.slot) =
        (s.atClaimEof w k).refresh p := by
      have alone : (s.atClaimEof w k).refresh s.slot = s.atClaimEof w k := State.refresh_own _
      have unheld := State.applyObjection_own (s := (s.atClaimEof w k).refresh p) (u := u) (code := code)
      rw [State.refresh_slot] at unheld
      rw [alone]
      exact unheld
    rw [own] at ran
    obtain ⟨heard, peers, dual, entries, retired⟩ :=
      State.refresh_settles (s := s.atClaimEof w k) (u := u) other rfl
    refine ⟨_, ran, ?_, heard, peers, dual, ?_, entries, retired, ?_, ?_⟩
    · simpa [State.atClaimEof] using rx
    all_goals simp [State.atClaimEof]
  case refine_5 =>
    obtain ⟨k, ends, ran⟩ := exec_peer_claim run holds (fun b hb => by cases hb; exact good) other
    rw [judgeReply_refused good judged] at ends ran
    have untaught : (s.atClaimEof w k).peerClaim p u line .refused s.link.replyDriven = s.atClaimEof w k := rfl
    rw [untaught] at ran
    exact ⟨_, ran, by simpa using ends.rx, by simpa using ends.rxErrors, rfl, rfl, rfl, rfl, rfl⟩

end Sys2Proof.Machine
end

section
/-! What settling leaves alone outside ISOLATED, and the claim it may place (R132, R134, R136, R173). -/

namespace Sys2Proof.Machine
open Sys2Proof

/-! ## Trunks, calls and the view -/

section
variable {s : State} {u : Trunk}

/-- A break asserts no seize (R167). -/
theorem State.askBreak_off (i : Fin 2) (v : Trunk) (off : s.sup.seize[u] = false) :
    (s.askBreak i v).sup.seize[u] = false := by
  by_cases here : u = v
  · subst here
    unfold State.askBreak
    split
    · split
      · simp
      · simpa using off
    · simpa using off
  · rw [State.askBreak_seize i v here, off]

/-- A code boundary asserts no seize (R176). -/
theorem State.nextCode_off (i : Fin 2) (l : Line) (v : Trunk) (off : s.sup.seize[u] = false) :
    (s.nextCode i l v).sup.seize[u] = false := by
  unfold State.nextCode
  dsimp only
  split
  · simpa using off
  · split
    · split
      · simpa using off
      · split
        · simpa using off
        · exact State.askBreak_off i v off
        · simpa using off
    · simpa using off

/-- The arbiter asserts no seize (R173). -/
theorem State.settleSenders_off (off : s.sup.seize[u] = false) : s.settleSenders.sup.seize[u] = false := by
  refine State.settleSenders_keeps (P := fun t => t.sup.seize[u] = false) (fun _ h => h) (fun {t i l} h _ _ => ?_) off
  cases on : (t.call l).trunk with
  | none => simpa [State.grant, on] using h
  | some v =>
    rw [State.grant_attached on]
    exact State.nextCode_off (s := t.attachedTo i l v) i l v h

variable (away : s.ctl.station ≠ .isolated)
include away

/-- Outside ISOLATED the Hunt Unit changes the transmit queue, the claim and the probe intervals alone (R132). -/
theorem State.judge_away : s.judge.calls = s.calls ∧ s.judge.hunt.queue = s.hunt.queue ∧ s.judge.view = s.view ∧
    s.judge.sup.sessions = s.sup.sessions ∧ s.judge.sup.seize = s.sup.seize ∧ s.judge.senders = s.senders := by
  rcases s.judge_takesHome with ⟨m, isolated, -⟩ | ⟨calls, queue, view, sessions, seize, -, senders⟩
  · exact absurd isolated away
  · exact ⟨calls, queue, view, sessions, seize, senders⟩

theorem State.settle_view_away : s.settle.view = s.view ∧ s.settle.hunt.queue = s.hunt.queue := by
  obtain ⟨-, queue, view, -⟩ := State.judge_away away
  have judged : s.settle = s.judge.settleSenders := rfl
  exact ⟨by simpa [judged] using view, by simpa [judged] using queue⟩

theorem State.settle_off_away (off : s.sup.seize[u] = false) : s.settle.sup.seize[u] = false := by
  obtain ⟨-, -, -, -, seize, -⟩ := State.judge_away away
  exact State.settleSenders_off (seize ▸ off)

/-- A session not ESTABLISHED is left alone with its trunk (R173). -/
theorem State.settle_trunk_away (unestablished : ∀ ses, s.session u = some ses → ses.state ≠ .established) :
    s.settle.session u = s.session u ∧ s.settle.sup.seize[u] = s.sup.seize[u] := by
  obtain ⟨-, -, -, sessions, seize, -⟩ := State.judge_away away
  have stands : s.judge.session u = s.session u := by simp [State.session, sessions]
  obtain ⟨session, on, -, -⟩ := State.settleSenders_trunk (s := s.judge) (v := u) fun ses opened =>
    unestablished ses (stands ▸ opened)
  exact ⟨session.trans stands, on.trans (by rw [seize])⟩

theorem State.settle_call_away {l : Line} (undialled : (s.call l).state ≠ .dialling) : s.settle.call l = s.call l :=
  (sameLine_settle s (.inr away) undialled).1
end

/-! ## The claim -/

/-- A CLAIM joins a queue that holds none (R104). -/
theorem TxQueue.place_claim {q : TxQueue} (unclaimed : q.Unclaimed) (grounded : q.flight = none) (t : Trunk)
    (line : Option Line) (age : Nat) : (q.place { frame := .claim t line, age }).frames =
      q.frames ++ [{ frame := .claim t line, age }] := by
  have none_ : ¬ q.inFlight .claim = true := by simp [TxQueue.inFlight, grounded]
  have joined := TxQueue.place_of_new (q := q) (n := { frame := .claim t line, age }) none_ unclaimed
  rw [joined]

/-- Every CLAIM in the queue was placed at this moment. -/
def State.ClaimsNow (s : State) : Prop := ∀ x ∈ s.tx.frames, x.frame.key = .claim → x.age = s.now

section
variable {s : State} (none_ : s.hunt.claim = none)
include none_

/-- With no claim pending the Hunt Unit may make a choice (R134). -/
theorem State.judge_unclaimed : (s.judge.hunt.claim = s.makeChoice.hunt.claim ∧ s.judge.tx = s.makeChoice.tx) ∨
    (s.judge.hunt.claim = s.hunt.claim ∧ s.judge.tx = s.tx) := by
  unfold State.judge
  split
  · exact .inl (by simp [State.judgeActive, none_])
  · exact .inr ⟨s.judgeIsolated_claim, by simp⟩
  · exact .inr ⟨rfl, rfl⟩

/-- A choice places its claim QUEUED (R136). -/
theorem State.makeChoice_queued {k : Claim} (made : s.makeChoice.hunt.claim = some k) : k.stage = .queued := by
  unfold State.makeChoice at made
  split at made
  · split at made
    · cases made; rfl
    · rw [none_] at made; cases made
  · rw [none_] at made; cases made

/-- Where no claim was pending, one found after settling is QUEUED (R136). -/
theorem State.settle_queued {k : Claim} (pending : s.settle.hunt.claim = some k) : k.stage = .queued := by
  rw [State.settle_claim] at pending
  rcases State.judge_unclaimed none_ with ⟨made, -⟩ | ⟨same, -⟩
  · exact State.makeChoice_queued none_ (made ▸ pending)
  · rw [same, none_] at pending
    cases pending

/-- Where no CLAIM was queued or in flight, one found after settling was placed at this moment (R136). -/
theorem State.settle_claimsNow (unclaimed : s.tx.Unclaimed) (grounded : s.tx.flight = none) : s.settle.ClaimsNow := by
  have old {x : QFrame} (hx : x ∈ s.tx.frames) (hk : x.frame.key = .claim) : x.age = s.now :=
    absurd hk (unclaimed x hx)
  have chosen : ∀ x ∈ s.makeChoice.tx.frames, x.frame.key = .claim → x.age = s.now := by
    intro x hx hk
    unfold State.makeChoice at hx
    split at hx
    · split at hx
      · have placed : x ∈ (s.tx.place { frame := .claim _ (some _), age := s.now }).frames := hx
        rw [TxQueue.place_claim unclaimed grounded] at placed
        rcases List.mem_append.1 placed with before | new
        · exact old before hk
        · rw [List.mem_singleton.1 new]
      · exact old hx hk
    · exact old hx hk
  intro x hx hk
  have time : s.settle.now = s.now := by simp
  rw [State.settle_tx] at hx
  rw [time]
  rcases State.judge_unclaimed none_ with ⟨-, made⟩ | ⟨-, same⟩
  · exact chosen x (made ▸ hx) hk
  · exact old (same ▸ hx) hk
end

/-! ## The CLAIM sent -/

section
variable {s : State}

@[simp] theorem State.claimSent_rx : s.claimSent.link.rx = s.link.rx ∧ s.claimSent.link.own = s.link.own ∧
    s.claimSent.link.rxErrors = s.link.rxErrors := by
  unfold State.claimSent
  split <;> simp

/-- A CLAIM in flight, with nothing waiting, leaves no CLAIM in the queue and ends the error run (R99, R106). -/
theorem State.claimSent_departs {f : Flight} (flight : s.tx.flight = some f) (claims : f.frame.key = .claim)
    (alone : s.tx.waiting = none) : s.claimSent.tx.Unclaimed ∧ s.claimSent.tx.flight = none ∧
      s.claimSent.link.errorRun = 0 := by
  have flies : s.tx.inFlight .claim = true := TxQueue.inFlight_iff.2 ⟨f, flight, claims⟩
  have sent : s.claimSent = (s.setTx s.tx.sent).setLink { s.link with errorRun := 0 } := if_pos flies
  rw [sent]
  refine ⟨fun x hx => ?_, ?_, rfl⟩
  · have left : x ∈ s.tx.sent.frames := hx
    rw [TxQueue.sent_eq flight, alone] at left
    have kept : x ∈ s.tx.frames ∧ x.frame.key ≠ .claim := by simpa [claims] using left
    exact kept.2
  · exact congrArg TxQueue.flight (TxQueue.sent_eq flight)
end

end Sys2Proof.Machine
end

section
/-! O46: this station's own CLAIM ends without effect (R99, R106, R136, R141, R144, R146). -/

namespace Sys2Proof.Machine
open Sys2Proof

/-! ## This station's CLAIM judged -/

section
variable {s : State} {c : Claim} (line : Option Line) (pending : s.hunt.claim = some c)
include pending

theorem State.ownClaim_effective :
    s.ownClaim c.trunk line .effective = (s.claimSent.ownEffective c line).settle := by
  simp [State.ownClaim, pending]

theorem State.ownClaim_voided (code : Nat) (o : Slot) : s.ownClaim c.trunk line (.voided code o) =
    (((s.claimSent.refresh o).applyObjection c.trunk code o).ownWithoutEffect c).settle := by
  simp [State.ownClaim, pending]

theorem State.ownClaim_refused :
    s.ownClaim c.trunk line .refused = (s.claimSent.ownWithoutEffect c).settle := by
  simp [State.ownClaim, pending]
end

section
variable {s : State} {w : Nat} {u : Trunk} {line : Option Line} {reply : Option (List Byte)}
  (run : s.running = true) (marked : s.link.own = some (encodeFrame (.claim s.slot u line)))
  (holds : s.link.Holds (encodeFrame (.claim s.slot u line)) reply (max s.now w))
  (good : ∀ b, reply = some b → checkGood b = true)
include run marked holds good

/-- This station's CLAIM at its EOF is judged by its reply (R97, R99). -/
theorem exec_own_claim : ∃ k, s.link.ClaimEnds k (judgeReply s.slot reply) ∧
    exec (.claim w (headerSlot s.slot) (octalByte u) (line.elim 8 octalByte)
      (checkByte [header 2 (headerSlot s.slot), octalByte u, line.elim 8 octalByte]) reply) s =
    .next ((s.atClaimEof w k).ownClaim u line (judgeReply s.slot reply)) := by
  obtain ⟨k, ends, ran⟩ := exec_claim_ends run holds good fun _ => by simp [marked]
  exact ⟨k, ends, ran.trans (congrArg _ (if_pos rfl))⟩
end

/-! ## The claim gone -/

section
variable {s : State} {c : Claim}

/-- A claim without effect is pending no longer, and touches no queue place, no session and no seize (R141, R144). -/
theorem State.ownWithoutEffect_rests (s : State) (c : Claim) :
    (s.ownWithoutEffect c).hunt.claim = none ∧ (s.ownWithoutEffect c).hunt.queue = s.hunt.queue ∧
      (s.ownWithoutEffect c).sup.sessions = s.sup.sessions ∧ (s.ownWithoutEffect c).sup.seize = s.sup.seize := by
  unfold State.ownWithoutEffect
  split <;> simp [State.probeNotMade]

/-- A PROBE claim without effect starts the interval of a trunk this station retires (R146, R164). -/
theorem State.ownWithoutEffect_probe (probe : c.owner = .probe) (retired : s.retiredBySelf c.trunk = true) :
    (s.ownWithoutEffect c).ProbeStarts c.trunk := by
  have again : s.ownWithoutEffect c =
      (s.setHunt { s.hunt with claim := none }).setProbeInterval c.trunk (s.after probeTime) :=
    (if_pos probe).trans (if_pos retired)
  rw [again]
  simp [State.ProbeStarts, State.after, State.scanTime]

/-- From `s` to `t` claim `c` has ended without effect, and the rest is settled. -/
structure State.EndsWithout (s t : State) (c : Claim) : Prop where
  frame : t.now = s.now ∧ t.ctl = s.ctl ∧ t.scan = s.scan ∧ t.dec = s.dec ∧ t.lko = s.lko ∧ t.link = s.link
  view : t.view = s.view
  queue : t.hunt.queue = s.hunt.queue
  flight : t.tx.flight = s.tx.flight
  session : ∀ v, s.session v = none → t.session v = none
  seize : ∀ v : Trunk, s.sup.seize[v] = false → t.sup.seize[v] = false
  queued : ∀ k, t.hunt.claim = some k → k.stage = .queued
  claims : s.tx.Unclaimed → s.tx.flight = none → t.ClaimsNow
  call : ∀ l, (s.call l).state = .hunting → t.call l = s.call l
  probe : c.owner = .probe → (s.entry c.trunk).retiredBy = some s.slot →
    t.sup.probeIntervals[c.trunk] = s.after probeTime

theorem State.endsWithout (s : State) (c : Claim) (away : s.ctl.station ≠ .isolated) :
    s.EndsWithout (s.ownWithoutEffect c).settle c := by
  obtain ⟨none_, queue, sessions, seize⟩ := s.ownWithoutEffect_rests c
  have ctl : (s.ownWithoutEffect c).ctl = s.ctl := by simp
  have tx : (s.ownWithoutEffect c).tx = s.tx := by simp
  have call (l : Line) : (s.ownWithoutEffect c).call l = s.call l := by simp [State.call]
  have away' : (s.ownWithoutEffect c).ctl.station ≠ .isolated := ctl ▸ away
  obtain ⟨view, settled⟩ := State.settle_view_away away'
  constructor
  case frame => simp
  case view => rw [view]; simp
  case queue => rw [settled, queue]
  case flight => rw [State.settle_flight, tx]
  case session =>
    intro v shut
    have before : (s.ownWithoutEffect c).session v = none := by simpa [State.session, sessions] using shut
    rw [(State.settle_trunk_away away' fun ses opened => by rw [before] at opened; cases opened).1, before]
  case seize => exact fun v off => State.settle_off_away away' (seize ▸ off)
  case queued => exact fun k pending => State.settle_queued none_ pending
  case claims => exact fun unclaimed grounded => State.settle_claimsNow none_ (tx ▸ unclaimed) (tx ▸ grounded)
  case call =>
    intro l hunting
    rw [State.settle_call_away away' (by simp [call, hunting]), call]
  case probe =>
    intro probe retired
    have starts := (State.ownWithoutEffect_probe probe (by simpa [State.retiredBySelf] using retired)).settle
    simpa [State.ProbeStarts, State.after, State.scanTime] using starts
end

/-! ## The objection to a trunk that is not OWN -/

section
variable {s : State} {u : Trunk} {code : Nat} {o : Slot} (notOwn : (s.entry u).isOwn = false) (other : o ≠ s.slot)
include notOwn other

/-- An objection to a claim of a trunk that is not OWN teaches the view, and nothing else (R115, R117). -/
theorem State.objection_view (listed : code = 1 ∨ code = 2) : ∃ view, (s.refresh o).applyObjection u code o = s.setView view := by
  have heard : s.refresh o = s.setPeer o { s.peer o with heard := some s.scanTime } := if_neg other
  have apart : o ≠ (s.refresh o).slot := by rwa [State.refresh_slot]
  rcases listed with rfl | rfl
  · rw [State.applyObjection_held apart, State.learnHeld_of_other _ _ _ (by rwa [State.refresh_entry]), heard]
    split
    · exact ⟨_, rfl⟩
    · exact ⟨_, rfl⟩
  · rw [State.applyObjection_retired apart, State.applyRetire, heard]
    split
    · exact ⟨_, rfl⟩
    · exact ⟨_, rfl⟩

/-- What the entries and the objector's presence show after an objection of code 1 (R110, R115). -/
theorem State.objection_held : (((s.refresh o).applyObjection u 1 o).peer o).heard = some s.scanTime ∧
    ∀ v, ((s.refresh o).applyObjection u 1 o).entry v =
      if v = u ∧ (s.entry u).isHeldBy o = false then { s.entry u with holding := .held o none } else s.entry v := by
  have entry (v : Trunk) : (s.refresh o).entry v = s.entry v := by rw [State.refresh_entry]
  have heard : ((s.refresh o).peer o).heard = some s.scanTime := by rw [State.refresh_peer, if_pos ⟨rfl, other⟩]
  rw [State.applyObjection_held (by rwa [State.refresh_slot])]
  refine ⟨?_, fun v => ?_⟩
  · rw [State.peer, ((s.refresh o).learnHeld_keeps u o).1]
    exact heard
  · rw [State.learnHeld_of_other _ _ _ (by rwa [entry]), entry]
    cases held : (s.entry u).isHeldBy o with
    | true => simp [entry]
    | false => simp [State.makeHeld_entry, entry]

omit notOwn in
/-- What the entries and the objector's presence show after an objection of code 2 (R110, R117). -/
theorem State.objection_retired : (((s.refresh o).applyObjection u 2 o).peer o).heard = some s.scanTime ∧
    ∀ v, ((s.refresh o).applyObjection u 2 o).entry v = if v = u then { s.entry u with
      retiredBy := if (s.entry u).retiredBy = some s.slot then some s.slot else some o } else s.entry v := by
  have entry (v : Trunk) : (s.refresh o).entry v = s.entry v := by rw [State.refresh_entry]
  have heard : ((s.refresh o).peer o).heard = some s.scanTime := by rw [State.refresh_peer, if_pos ⟨rfl, other⟩]
  rw [State.applyObjection_retired (by rwa [State.refresh_slot])]
  refine ⟨?_, fun v => ?_⟩
  · have presence : ((s.refresh o).applyRetire o u).view.presence = (s.refresh o).view.presence := by
      unfold State.applyRetire
      split <;> simp
    rw [State.peer, presence]
    exact heard
  · rw [State.applyRetire_entry, entry, entry, State.refresh_slot]
end

/-! ## The obligation -/

section
variable {s : State}

/-- With nothing but a CLAIM in flight, and nothing waiting, nothing is in flight once it was sent (R106). -/
theorem State.claimSent_grounded (claims : ∀ f, s.tx.flight = some f → f.frame.key = .claim) (alone : s.tx.waiting = none) :
    s.claimSent.tx.flight = none ∧
      (s.tx.flight.isSome = true → s.claimSent.tx.Unclaimed ∧ s.claimSent.link.errorRun = 0) := by
  cases flight : s.tx.flight with
  | some f =>
    obtain ⟨unclaimed, grounded, errors⟩ := State.claimSent_departs flight (claims f flight) alone
    exact ⟨grounded, fun _ => ⟨unclaimed, errors⟩⟩
  | none =>
    have unsent : s.claimSent = s := if_neg (by simp [TxQueue.inFlight, flight])
    exact ⟨by rw [unsent, flight], nofun⟩
end

/-- The view learns from a reply to this station's CLAIM what an objection says of its objector (R99, R115, R117, R144). -/
structure State.LearnsFrom (s : State) (view : PoolView) (u : Trunk) (reply : List Byte) : Prop where
  refused : judgeObjection s.slot reply = none → view = s.view
  held : ∀ o, judgeObjection s.slot reply = some (1, o) → (view.presence[o]).heard = some s.scanTime ∧
    ∀ v : Trunk, view.entries[v] =
      if v = u ∧ (s.entry u).isHeldBy o = false then { s.entry u with holding := .held o none } else s.entry v
  retired : ∀ o, judgeObjection s.slot reply = some (2, o) → (view.presence[o]).heard = some s.scanTime ∧
    ∀ v : Trunk, view.entries[v] = if v = u then { s.entry u with
      retiredBy := if (s.entry u).retiredBy = some s.slot then some s.slot else some o } else s.entry v

section
variable {s : State} {c : Claim} {reply : List Byte}

/-- No count is raised and no other entry touched, whatever the reply says. -/
theorem State.LearnsFrom.entries {view : PoolView} {u : Trunk} (h : s.LearnsFrom view u reply) :
    (view.entries[u]).seizures = (s.entry u).seizures ∧ ∀ v, v ≠ u → view.entries[v] = s.entry v := by
  cases judged : judgeObjection s.slot reply with
  | none =>
    rw [h.refused judged]
    exact ⟨rfl, fun _ _ => rfl⟩
  | some said =>
    obtain ⟨code, o⟩ := said
    obtain ⟨rfl | rfl, -⟩ := judgeObjection_eq_some judged
    · obtain ⟨-, entries⟩ := h.held o judged
      refine ⟨?_, fun v other => (entries v).trans (if_neg fun both => other both.1)⟩
      rw [entries]
      split <;> rfl
    · obtain ⟨-, entries⟩ := h.retired o judged
      refine ⟨?_, fun v other => (entries v).trans (if_neg other)⟩
      rw [entries, if_pos rfl]

/-- This station's own CLAIM whose reply is an objection, or is refused, ends without effect (R99, R141, R144). -/
theorem State.ownClaim_endsWithout (line : Option Line) (pending : s.hunt.claim = some c)
    (away : s.ctl.station ≠ .isolated) (notOwn : (s.entry c.trunk).isOwn = false) (good : checkGood reply = true) :
    ∃ view, s.LearnsFrom view c.trunk reply ∧
      (s.claimSent.setView view).EndsWithout (s.ownClaim c.trunk line (judgeReply s.slot (some reply))) c := by
  have away' : s.claimSent.ctl.station ≠ .isolated := by simpa using away
  cases judged : judgeObjection s.slot reply with
  | none =>
    refine ⟨s.view, ⟨fun _ => rfl, fun o said => ?_, fun o said => ?_⟩, ?_⟩
    · rw [judged] at said; cases said
    · rw [judged] at said; cases said
    · have same : s.claimSent.setView s.view = s.claimSent := by
        have view : s.claimSent.view = s.view := by simp
        rw [← view]
        rfl
      rw [judgeReply_refused good judged, State.ownClaim_refused line pending, same]
      exact State.endsWithout _ c away'
  | some said =>
    obtain ⟨code, o⟩ := said
    obtain ⟨listed, other⟩ := judgeObjection_eq_some judged
    have voided : judgeReply s.slot (some reply) = .voided code o := by
      simp only [judgeReply, if_pos good, judged]
    have entry (v : Trunk) : s.claimSent.entry v = s.entry v := by simp [State.entry]
    have slot : s.claimSent.slot = s.slot := by simp [State.slot]
    have time : s.claimSent.scanTime = s.scanTime := by simp [State.scanTime]
    have notOwn' : (s.claimSent.entry c.trunk).isOwn = false := by rwa [entry]
    have other' : o ≠ s.claimSent.slot := by rwa [slot]
    obtain ⟨view, learnt⟩ := State.objection_view notOwn' other' listed
    refine ⟨view, ⟨fun none_ => ?_, fun o' said => ?_, fun o' said => ?_⟩, ?_⟩
    · rw [judged] at none_; cases none_
    · rw [judged] at said
      cases said
      have held := State.objection_held notOwn' other'
      rw [learnt] at held
      simp only [entry, time] at held
      exact held
    · rw [judged] at said
      cases said
      have retired := State.objection_retired (u := c.trunk) other'
      rw [learnt] at retired
      simp only [entry, time, slot] at retired
      exact retired
    · rw [voided, State.ownClaim_voided line pending, learnt]
      exact State.endsWithout _ c away'
end

section
variable {s : State} {w : Nat} {line : Option Line} {c : Claim} {reply : List Byte} (run : s.running = true)
  (marked : s.link.own = some (encodeFrame (.claim s.slot c.trunk line)))
  (holds : s.link.Holds (encodeFrame (.claim s.slot c.trunk line)) (some reply) (max s.now w))
  (pending : s.hunt.claim = some c) (away : s.ctl.station ≠ .isolated) (good : checkGood reply = true)
  (notOwn : (s.entry c.trunk).isOwn = false)
include run marked holds pending away good notOwn

/-- This station's own CLAIM with a whole reply ends without effect, and its view learns from the reply (R99, R141). -/
theorem exec_own_without : ∃ t k view, exec (.claim w (headerSlot s.slot) (octalByte c.trunk) (line.elim 8 octalByte)
      (checkByte [header 2 (headerSlot s.slot), octalByte c.trunk, line.elim 8 octalByte]) (some reply)) s = .next t ∧
    s.link.ClaimEnds k (judgeReply s.slot (some reply)) ∧ (s.atClaimEof w k).LearnsFrom view c.trunk reply ∧
    ((s.atClaimEof w k).claimSent.setView view).EndsWithout t c := by
  obtain ⟨k, ends, ran⟩ := exec_own_claim run marked holds fun b hb => by cases hb; exact good
  obtain ⟨view, learns, without⟩ :=
    State.ownClaim_endsWithout (s := s.atClaimEof w k) line pending away notOwn good
  exact ⟨_, k, view, ran, ends, learns, without⟩
end

/-- Settles O46: the reply decides what the view learns, and the claim ends without effect whatever it says. -/
theorem ownClaimEndsWithoutEffect : Obligations.OwnClaimEndsWithoutEffect := by
  unfold Obligations.OwnClaimEndsWithoutEffect
  intro s w u line c reply run marked holds pending on away alone good claims _ notOwn
  subst on
  obtain ⟨t, k, view, ran, ends, learns, without⟩ := exec_own_without run marked holds pending away good notOwn
  obtain ⟨grounded, departs⟩ := State.claimSent_grounded (s := s.atClaimEof w k) claims alone
  obtain ⟨seizures, others⟩ := learns.entries
  obtain ⟨now, ctl, scan, dec, lko, link⟩ := without.frame
  have entry (v : Trunk) : t.entry v = view.entries[v] := congrArg (fun x : PoolView => x.entries[v]) without.view
  have peer (o : Slot) : t.peer o = view.presence[o] := congrArg (fun x : PoolView => x.presence[o]) without.view
  have rx : t.link.rx = k.rx ∧ t.link.own = k.own ∧ t.link.rxErrors = k.rxErrors := by rw [link]; simp
  have voided {code : Nat} {o : Slot} (said : judgeObjection s.slot reply = some (code, o)) :
      t.link.rx = .idle ∧ t.link.rxErrors = s.link.rxErrors := by
    have judged : judgeReply s.slot (some reply) = .voided code o := by simp only [judgeReply, if_pos good, said]
    rw [rx.1, rx.2.2, ends.rx, ends.rxErrors, judged]
    exact ⟨rfl, rfl⟩
  refine ⟨t, ran, ?_, ?_, ?_, ?_, ?_, fun shut => ?_, fun off => ?_, ?_, fun v other => ?_, ?_, ?_, without.queued,
    fun flies => ⟨?_, fun x hx hk => ?_⟩, fun l _ hunting => ?_, fun probe retired => ?_, fun o said other => ?_,
    fun o said other => ?_, fun refused => ?_⟩
  · rw [rx.2.1, ends.own]
  · rw [ctl]; simp [State.atClaimEof]
  · rw [scan]; simp [State.atClaimEof]
  · rw [dec]; simp [State.atClaimEof]
  · rw [lko]; simp [State.atClaimEof]
  · exact without.session _ (by simpa [State.session, State.atClaimEof] using shut)
  · exact without.seize _ (by simpa [State.atClaimEof] using off)
  · rw [entry, seizures]; rfl
  · rw [entry, others v other]; rfl
  · rw [without.queue]; simp [State.atClaimEof]
  · rw [without.flight]; exact grounded
  · rw [link]; exact (departs flies).2
  · rw [without.claims (departs flies).1 grounded x hx hk, now]
    simp [State.atClaimEof]
  · rw [without.call l (by simpa [State.call, State.atClaimEof] using hunting)]
    simp [State.call, State.atClaimEof]
  · have slot : ((s.atClaimEof w k).claimSent.setView view).slot = s.slot := by simp [State.slot, State.atClaimEof]
    have starts := without.probe probe (by rw [slot, ← retired, entry]; rfl)
    rw [starts]
    simp [State.after, State.scanTime, State.atClaimEof, milli, probeTime]
  · have judged : judgeObjection s.slot reply = some (1, o) := said ▸ judgeObjection_withCheck other (.inl rfl)
    obtain ⟨heard, entries⟩ := learns.held o judged
    obtain ⟨idle, errors⟩ := voided judged
    refine ⟨idle, errors, (congrArg Presence.heard (peer o)).trans heard, ?_⟩
    rw [entry, entries, State.atClaimEof_entry]
    cases (s.entry c.trunk).isHeldBy o <;> simp
  · have judged : judgeObjection s.slot reply = some (2, o) := said ▸ judgeObjection_withCheck other (.inr rfl)
    obtain ⟨heard, entries⟩ := learns.retired o judged
    obtain ⟨idle, errors⟩ := voided judged
    refine ⟨idle, errors, (congrArg Presence.heard (peer o)).trans heard, ?_⟩
    rw [entry, entries, if_pos rfl]
    rfl
  · have same : t.view = s.view := without.view.trans (learns.refused refused)
    rw [rx.1, rx.2.2, ends.rx, ends.rxErrors, judgeReply_refused good refused]
    exact ⟨rfl, rfl, congrArg (fun x : PoolView => x.entries[c.trunk]) same, same⟩

end Sys2Proof.Machine
end

section
/-! O45: this station's own CLAIM, effective (R106, R114, R136, R142, R143, R146, R153, R154, R165). -/

namespace Sys2Proof.Machine
open Sys2Proof

/-! ## The trunk made OWN, and what becomes of it -/

/-- The trunk of claim `c` made OWN, its count raised and the claim gone (R114). -/
def State.owned (s : State) (c : Claim) (line : Option Line) : State :=
  ((s.raiseCount c.trunk).makeOwn c.trunk line).setHunt { s.hunt with claim := none }

/-- A trunk found busy is released for it (R126, R154). -/
def State.conflicted (s : State) (u : Trunk) : State := (s.conflictOwn u).place (.release u .busyConflict)

section
variable {s : State} {c : Claim} {l : Line} (line : Option Line)

@[simp] theorem State.owned_frame (s : State) (c : Claim) (line : Option Line) : (s.owned c line).now = s.now ∧
    (s.owned c line).ctl = s.ctl ∧ (s.owned c line).calls = s.calls ∧ (s.owned c line).tx = s.tx ∧
    (s.owned c line).sup = s.sup ∧ (s.owned c line).hunt = { s.hunt with claim := none } := by
  simp [State.owned]

theorem State.owned_entry : (s.owned c line).entry c.trunk = { (s.raiseCount c.trunk).entry c.trunk with
    holding := .own line } := by
  have made : (s.owned c line).entry c.trunk = ((s.raiseCount c.trunk).makeOwn c.trunk line).entry c.trunk := rfl
  rw [made]
  simp [State.makeOwn]

theorem State.owned_isOwn : ((s.owned c line).entry c.trunk).isOwn = true := by
  rw [State.owned_entry]
  rfl

theorem State.unqueue_entry (x : State) (l : Line) : (x.unqueue l).entry = x.entry := rfl

theorem State.queueHead_entry (x : State) (l : Line) : (x.queueHead l).entry = x.entry := rfl

theorem State.seizeTrunk_entry (x : State) (u : Trunk) (p : Purpose) : (x.seizeTrunk u p).entry = x.entry := rfl

theorem State.seizeForLine_entry (x : State) (u : Trunk) (l : Line) : (x.seizeForLine u l).entry = x.entry := rfl

theorem State.probeAgain_reads (x : State) (u : Trunk) : (x.probeAgain u).entry = x.entry ∧
    (x.probeAgain u).session = x.session := by
  unfold State.probeAgain
  split <;> exact ⟨rfl, rfl⟩

theorem State.ownEffective_seizes (owner : c.owner = .line l) (hunting : (s.call l).state = .hunting)
    (idle : (s.input c.trunk).busy = false) :
    s.ownEffective c line = ((s.owned c line).unqueue l).seizeForLine c.trunk l := by
  have waits : ((s.owned c line).call l).state = .hunting := by simpa [State.call] using hunting
  have quiet : ¬ (((s.owned c line).unqueue l).input c.trunk).busy = true := by
    simpa [State.input, State.unqueue] using idle
  simp only [State.ownEffective, owner]
  exact (if_pos waits).trans (if_neg quiet)

theorem State.ownEffective_conflicts (owner : c.owner = .line l) (hunting : (s.call l).state = .hunting)
    (busy : (s.input c.trunk).busy = true) :
    s.ownEffective c line = (((s.owned c line).unqueue l).conflicted c.trunk).queueHead l := by
  have waits : ((s.owned c line).call l).state = .hunting := by simpa [State.call] using hunting
  have loud : (((s.owned c line).unqueue l).input c.trunk).busy = true := by
    simpa [State.input, State.unqueue] using busy
  simp only [State.ownEffective, owner]
  exact (if_pos waits).trans (if_pos loud)

theorem State.ownEffective_givesUp (unwanted : c.owner = .lapsed ∨ ∃ l, c.owner = .line l ∧ (s.call l).state ≠ .hunting) :
    s.ownEffective c line = (s.owned c line).giveUp c.trunk := by
  rcases unwanted with owner | ⟨l, owner, left⟩
  · simp only [State.ownEffective, owner]
    rfl
  · have away : ¬ ((s.owned c line).call l).state = .hunting := by simpa [State.call] using left
    simp only [State.ownEffective, owner]
    exact if_neg away

theorem State.ownEffective_probes (owner : c.owner = .probe) (idle : (s.input c.trunk).busy = false) :
    s.ownEffective c line = (s.owned c line).seizeTrunk c.trunk .probe := by
  have quiet : ¬ ((s.owned c line).input c.trunk).busy = true := by simpa [State.input] using idle
  simp only [State.ownEffective, owner]
  exact if_neg quiet

theorem State.ownEffective_unprobed (owner : c.owner = .probe) (busy : (s.input c.trunk).busy = true) :
    s.ownEffective c line = ((s.owned c line).conflicted c.trunk).probeAgain c.trunk := by
  have loud : ((s.owned c line).input c.trunk).busy = true := by simpa [State.input] using busy
  simp only [State.ownEffective, owner]
  exact if_pos loud

/-! ## The trunk released again -/

section
variable {u : Trunk} (own : (s.entry u).isOwn = true)
include own

theorem State.conflicted_entry : (s.conflicted u).entry u = { (s.entry u).freed s.scanTime with
    busyMismatch := (s.entry u).busyMismatch || (s.input u).busy } := by
  have freed : (s.conflicted u).entry u = (s.conflictOwn u).entry u := rfl
  rw [freed, State.conflictOwn, if_pos own, State.setEntry_entry, if_pos rfl]

theorem State.giveUp_entry : (s.giveUp u).entry u = (s.entry u).freed s.scanTime := by
  have freed : (s.giveUp u).entry u = (s.freeOwn u).entry u := rfl
  rw [freed, State.freeOwn_entry, if_pos ⟨rfl, own⟩]
end

@[simp] theorem State.conflicted_frame (s : State) (u : Trunk) : (s.conflicted u).now = s.now ∧
    (s.conflicted u).ctl = s.ctl ∧ (s.conflicted u).calls = s.calls ∧ (s.conflicted u).sup = s.sup ∧
    (s.conflicted u).hunt = s.hunt := by
  simp [State.conflicted]

theorem State.conflicted_tx (s : State) (u : Trunk) :
    (s.conflicted u).tx = s.tx.place { frame := .release u .busyConflict, age := s.now } := by
  simp [State.conflicted, State.place]

theorem State.giveUp_tx (s : State) (u : Trunk) :
    (s.giveUp u).tx = s.tx.place { frame := .release u .lineClear, age := s.now } := by
  simp [State.giveUp, State.place]
end

/-! ## The trunk handed over, settled -/

/-- From `s` to `r` claim `c` is handed over: gone, its trunk's count raised, and at most a RELEASE placed (R114, R142). -/
structure State.HandsOver (s r : State) (c : Claim) : Prop where
  claim : r.hunt.claim = none
  seizures : (r.entry c.trunk).seizures =
    if (s.entry c.trunk).seizures = 65535 then 32768 else (s.entry c.trunk).seizures + 1
  tx : r.tx = s.tx ∨ ∃ cause, r.tx = s.tx.place { frame := .release c.trunk cause, age := s.now }

section
variable {s : State} {c : Claim} {line : Option Line}

theorem State.owned_seizures : ((s.owned c line).entry c.trunk).seizures =
    if (s.entry c.trunk).seizures = 65535 then 32768 else (s.entry c.trunk).seizures + 1 := by
  rw [State.owned_entry, ← State.raiseCount_own]

/-- A trunk found busy keeps its count (R126). -/
theorem State.conflicted_seizures {x : State} (own : (x.entry c.trunk).isOwn = true) :
    ((x.conflicted c.trunk).entry c.trunk).seizures = (x.entry c.trunk).seizures := by
  rw [State.conflicted_entry own]
  rfl

theorem State.ownEffective_handsOver (s : State) (c : Claim) (line : Option Line) :
    s.HandsOver (s.ownEffective c line) c := by
  have given (unwanted : c.owner = .lapsed ∨ ∃ l, c.owner = .line l ∧ (s.call l).state ≠ .hunting) :
      s.HandsOver (s.ownEffective c line) c := by
    rw [State.ownEffective_givesUp line unwanted]
    refine ⟨by simp, ?_, .inr ⟨.lineClear, by rw [State.giveUp_tx]; simp⟩⟩
    rw [State.giveUp_entry (State.owned_isOwn line), TrunkEntry.freed, State.owned_seizures]
  cases owner : c.owner with
  | lapsed => exact given (.inl owner)
  | line l =>
    by_cases hunting : (s.call l).state = .hunting
    · cases busy : (s.input c.trunk).busy with
      | false =>
        rw [State.ownEffective_seizes line owner hunting busy]
        refine ⟨by simp [State.unqueue], ?_, .inl (by simp [State.unqueue])⟩
        rw [State.seizeForLine_entry, State.unqueue_entry, State.owned_seizures]
      | true =>
        rw [State.ownEffective_conflicts line owner hunting busy]
        refine ⟨by simp [State.queueHead, State.unqueue], ?_, .inr ⟨.busyConflict, ?_⟩⟩
        · rw [State.queueHead_entry, State.conflicted_seizures (by rw [State.unqueue_entry, State.owned_isOwn]),
            State.unqueue_entry, State.owned_seizures]
        · simp [State.queueHead, State.conflicted_tx, State.unqueue]
    · exact given (.inr ⟨l, owner, hunting⟩)
  | probe =>
    cases busy : (s.input c.trunk).busy with
    | false =>
      rw [State.ownEffective_probes line owner busy]
      refine ⟨by simp, ?_, .inl (by simp)⟩
      rw [State.seizeTrunk_entry, State.owned_seizures]
    | true =>
      rw [State.ownEffective_unprobed line owner busy]
      refine ⟨by simp, ?_, .inr ⟨.busyConflict, by simp [State.conflicted_tx]⟩⟩
      rw [(State.probeAgain_reads _ _).1, State.conflicted_seizures (State.owned_isOwn line), State.owned_seizures]

section
variable (away : s.ctl.station ≠ .isolated)
include away

theorem State.ownEffective_away : (s.ownEffective c line).ctl.station ≠ .isolated := by simpa using away

/-- A HUNTING line seizes a trunk that is idle (R142, R153). -/
theorem State.ownEffective_settles_seized {l : Line} (owner : c.owner = .line l) (hunting : (s.call l).state = .hunting)
    (idle : (s.input c.trunk).busy = false) {t : State} (settled : t = (s.ownEffective c line).settle) :
    (t.entry c.trunk).holding = .own line ∧ t.sup.seize[c.trunk] = true ∧
      t.session c.trunk = some (s.newSession (.line l)) ∧
      t.call l = { s.call l with state := .seizing, trunk := some c.trunk, huntTimer := none } ∧ l ∉ t.hunt.queue := by
  subst settled
  have away' := State.ownEffective_away (c := c) (line := line) away
  have seizes := State.ownEffective_seizes line owner hunting idle
  have opened : (s.ownEffective c line).session c.trunk = some (s.newSession (.line l)) := by
    rw [seizes]
    have fresh := ((s.owned c line).unqueue l).seizeTrunk_session (v := c.trunk) (.line l) c.trunk
    rw [if_pos rfl] at fresh
    refine Eq.trans fresh ?_
    simp [State.newSession, State.after, State.scanTime, State.unqueue]
  have seized : (s.ownEffective c line).sup.seize[c.trunk] = true := by
    rw [seizes]
    simp [State.seizeForLine, State.seizeTrunk]
  have call : (s.ownEffective c line).call l =
      { s.call l with state := .seizing, trunk := some c.trunk, huntTimer := none } := by
    rw [seizes, State.seizeForLine_call, if_pos rfl]
    simp [State.call, State.unqueue]
  obtain ⟨view, queue⟩ := State.settle_view_away away'
  obtain ⟨session, seize⟩ := State.settle_trunk_away away' fun ses here => by
    rw [opened] at here
    cases here
    simp [State.newSession, Purpose.opensIn]
  refine ⟨?_, seize.trans seized, session.trans opened, ?_, ?_⟩
  · have entry : (s.ownEffective c line).settle.entry c.trunk = (s.owned c line).entry c.trunk := by
      rw [State.entry, view, ← State.entry, seizes, State.seizeForLine_entry, State.unqueue_entry]
    rw [entry, State.owned_entry]
  · rw [State.settle_call_away away' (by simp [call]), call]
  · rw [queue, seizes]
    simp [State.unqueue]

/-- A trunk given up, or found busy, is FREE now, and its RELEASE is to send (R126, R143, R154). -/
theorem State.ownEffective_settles_freed {cause : Cause} {t : State} (settled : t = (s.ownEffective c line).settle)
    (freed : ((s.ownEffective c line).entry c.trunk).holding = .free ∧
      ((s.ownEffective c line).entry c.trunk).freeSince = s.scanTime)
    (placed : (s.ownEffective c line).tx = s.tx.place { frame := .release c.trunk cause, age := s.now }) :
    (t.entry c.trunk).holding = .free ∧ (t.entry c.trunk).freeSince = s.scanTime ∧
      (t.entry c.trunk).busyMismatch = ((s.ownEffective c line).entry c.trunk).busyMismatch ∧
      t.tx.Holds (.release c.trunk cause) ∧ t.hunt.queue = (s.ownEffective c line).hunt.queue := by
  subst settled
  obtain ⟨view, queue⟩ := State.settle_view_away (State.ownEffective_away (c := c) (line := line) away)
  have entry : (s.ownEffective c line).settle.entry c.trunk = (s.ownEffective c line).entry c.trunk := by
    rw [State.entry, view]
    rfl
  have carried : (s.ownEffective c line).tx.Carries (.release c.trunk cause) := by
    rw [placed]
    exact TxQueue.carries_place (n := { frame := .release c.trunk cause, age := s.now }) (by simp [TxFrame.key])
  rw [entry]
  exact ⟨freed.1, freed.2, rfl, (State.carries_settle carried (by simp [TxFrame.key])).holds, queue⟩

/-- A HUNTING line whose trunk is busy goes back to the head of the hunt queue (R142, R154). -/
theorem State.ownEffective_settles_conflict {l : Line} (owner : c.owner = .line l)
    (hunting : (s.call l).state = .hunting) (busy : (s.input c.trunk).busy = true) {t : State}
    (settled : t = (s.ownEffective c line).settle) :
    (t.entry c.trunk).holding = .free ∧ (t.entry c.trunk).freeSince = s.scanTime ∧
      (t.entry c.trunk).busyMismatch = true ∧ t.tx.Holds (.release c.trunk .busyConflict) ∧
      t.hunt.queue = l :: s.hunt.queue.filter (· ≠ l) ∧ t.call l = s.call l := by
  have conflicts := State.ownEffective_conflicts line owner hunting busy
  have entry : (s.ownEffective c line).entry c.trunk =
      (((s.owned c line).unqueue l).conflicted c.trunk).entry c.trunk := by rw [conflicts, State.queueHead_entry]
  rw [State.conflicted_entry (by rw [State.unqueue_entry, State.owned_isOwn])] at entry
  have time : ((s.owned c line).unqueue l).scanTime = s.scanTime := by simp [State.scanTime, State.unqueue]
  have loud : (((s.owned c line).unqueue l).input c.trunk).busy = true := by
    simpa [State.input, State.unqueue] using busy
  obtain ⟨holding, since, mismatch, carried, queue⟩ := State.ownEffective_settles_freed (cause := .busyConflict) away
    settled (by rw [entry]; exact ⟨rfl, time⟩) (by simp [conflicts, State.queueHead, State.conflicted_tx, State.unqueue])
  have call : (s.ownEffective c line).call l = s.call l := by
    simp [conflicts, State.call, State.queueHead, State.unqueue]
  refine ⟨holding, since, ?_, carried, ?_, ?_⟩
  · rw [mismatch, entry]
    simp [loud]
  · rw [queue, conflicts]
    simp [State.queueHead, State.unqueue]
  · rw [settled, State.settle_call_away (State.ownEffective_away away) (by simp [call, hunting]), call]

/-- A trunk nobody wants any more is given up (R143). -/
theorem State.ownEffective_settles_givenUp
    (unwanted : c.owner = .lapsed ∨ ∃ l, c.owner = .line l ∧ (s.call l).state ≠ .hunting) {t : State}
    (settled : t = (s.ownEffective c line).settle) :
    (t.entry c.trunk).holding = .free ∧ (t.entry c.trunk).freeSince = s.scanTime ∧
      t.tx.Holds (.release c.trunk .lineClear) ∧ t.hunt.queue = s.hunt.queue := by
  have givesUp := State.ownEffective_givesUp line unwanted
  have entry : (s.ownEffective c line).entry c.trunk =
      ((s.owned c line).entry c.trunk).freed (s.owned c line).scanTime := by
    rw [givesUp, State.giveUp_entry (State.owned_isOwn line)]
  have time : (s.owned c line).scanTime = s.scanTime := by simp [State.scanTime]
  obtain ⟨holding, since, -, carried, queue⟩ := State.ownEffective_settles_freed (cause := .lineClear) away
    settled (by rw [entry]; exact ⟨rfl, time⟩) (by simp [givesUp, State.giveUp_tx])
  refine ⟨holding, since, carried, ?_⟩
  rw [queue, givesUp]
  simp

/-- A probe seizes a trunk that is idle (R146, R165). -/
theorem State.ownEffective_settles_probe (owner : c.owner = .probe) (idle : (s.input c.trunk).busy = false) {t : State}
    (settled : t = (s.ownEffective c line).settle) : (t.entry c.trunk).holding = .own line ∧
      t.sup.seize[c.trunk] = true ∧ t.session c.trunk = some (s.newSession .probe) := by
  subst settled
  have away' := State.ownEffective_away (c := c) (line := line) away
  have probes := State.ownEffective_probes line owner idle
  have opened : (s.ownEffective c line).session c.trunk = some (s.newSession .probe) := by
    rw [probes, State.seizeTrunk_session, if_pos rfl]
    simp [State.newSession, State.after, State.scanTime]
  have seized : (s.ownEffective c line).sup.seize[c.trunk] = true := by
    rw [probes]
    simp [State.seizeTrunk]
  obtain ⟨view, -⟩ := State.settle_view_away away'
  obtain ⟨session, seize⟩ := State.settle_trunk_away away' fun ses here => by
    rw [opened] at here
    cases here
    simp [State.newSession, Purpose.opensIn]
  refine ⟨?_, seize.trans seized, session.trans opened⟩
  have entry : (s.ownEffective c line).settle.entry c.trunk = (s.owned c line).entry c.trunk := by
    rw [State.entry, view, ← State.entry, probes, State.seizeTrunk_entry]
  rw [entry, State.owned_entry]

/-- A probe whose trunk is busy is not made, and its interval starts again (R146, R154, R164). -/
theorem State.ownEffective_settles_unprobed (owner : c.owner = .probe) (busy : (s.input c.trunk).busy = true) {t : State}
    (settled : t = (s.ownEffective c line).settle) :
    (t.entry c.trunk).holding = .free ∧ (t.entry c.trunk).freeSince = s.scanTime ∧
      (t.entry c.trunk).busyMismatch = true ∧ t.tx.Holds (.release c.trunk .busyConflict) ∧
      (s.session c.trunk = none → t.session c.trunk = none) ∧
      ((s.entry c.trunk).retiredBy = some s.slot → t.sup.probeIntervals[c.trunk] = s.after probeTime) := by
  have unprobed := State.ownEffective_unprobed line owner busy
  have entry : (s.ownEffective c line).entry c.trunk = ((s.owned c line).conflicted c.trunk).entry c.trunk := by
    rw [unprobed, (State.probeAgain_reads _ _).1]
  rw [State.conflicted_entry (State.owned_isOwn line)] at entry
  have time : (s.owned c line).scanTime = s.scanTime := by simp [State.scanTime]
  have loud : ((s.owned c line).input c.trunk).busy = true := by simpa [State.input] using busy
  obtain ⟨holding, since, mismatch, carried, -⟩ := State.ownEffective_settles_freed (cause := .busyConflict) away
    settled (by rw [entry]; exact ⟨rfl, time⟩) (by simp [unprobed, State.conflicted_tx])
  refine ⟨holding, since, ?_, carried, fun shut => ?_, fun retired => ?_⟩
  · rw [mismatch, entry]
    simp [loud]
  · have before : (s.ownEffective c line).session c.trunk = none := by
      rw [unprobed, (State.probeAgain_reads _ _).2, ← shut]
      simp [State.session]
    rw [settled, (State.settle_trunk_away (State.ownEffective_away away) fun ses here => by
      rw [before] at here; cases here).1, before]
  · have still : ((s.owned c line).conflicted c.trunk).retiredBySelf c.trunk = true := by
      rw [State.retiredBySelf, State.conflicted_entry (State.owned_isOwn line), State.owned_entry, State.raiseCount_entry]
      simpa [TrunkEntry.freed, State.slot] using retired
    have starts : (s.ownEffective c line).ProbeStarts c.trunk := by
      rw [unprobed, State.probeAgain, if_pos still]
      simp [State.ProbeStarts, State.after, State.scanTime]
    rw [settled, starts.settle]
    simp [State.after, State.scanTime]
end
end

/-! ## The obligation -/

/-- From `s` to `a` the station has come to time `w`, and its CLAIM, which has reached its EOF, has left the queue (R106). -/
structure State.Sends (s a : State) (w : Nat) : Prop where
  rx : a.link.rx = .idle
  own : a.link.own = none
  now : a.now = max s.now w
  ctl : a.ctl = s.ctl
  calls : a.calls = s.calls
  view : a.view = s.view
  sup : a.sup = s.sup
  queue : a.hunt.queue = s.hunt.queue
  departs : ∀ f, s.tx.flight = some f → f.frame.key = .claim → s.tx.waiting = none →
    a.tx.Unclaimed ∧ a.tx.flight = none ∧ a.link.errorRun = 0

section
variable {s : State} {w : Nat} {c : Claim} {line : Option Line}

/-- This station's own CLAIM with no reply is sent, and handed over (R99, R106, R142). -/
theorem exec_own_effective (run : s.running = true)
    (marked : s.link.own = some (encodeFrame (.claim s.slot c.trunk line)))
    (holds : s.link.Holds (encodeFrame (.claim s.slot c.trunk line)) none (max s.now w))
    (pending : s.hunt.claim = some c) : ∃ a, s.Sends a w ∧
      exec (.claim w (headerSlot s.slot) (octalByte c.trunk) (line.elim 8 octalByte)
        (checkByte [header 2 (headerSlot s.slot), octalByte c.trunk, line.elim 8 octalByte]) none) s =
      .next (a.ownEffective c line).settle := by
  obtain ⟨k, ends, ran⟩ := exec_own_claim run marked holds nofun
  rw [judgeReply_none] at ends ran
  rw [State.ownClaim_effective (s := s.atClaimEof w k) line pending] at ran
  refine ⟨(s.atClaimEof w k).claimSent, ?_, ran⟩
  constructor
  case rx => simpa using ends.rx
  case own => simpa using ends.own
  case departs => exact fun f flight claims alone => State.claimSent_departs flight claims alone
  all_goals simp [State.atClaimEof]

variable {a : State} (h : s.Sends a w)
include h

theorem State.Sends.scanTime : a.scanTime = max s.now w / 64 := by
  rw [State.scanTime, h.now]
  rfl

theorem State.Sends.entry (v : Trunk) : a.entry v = s.entry v := by rw [State.entry, h.view]; rfl

theorem State.Sends.call (l : Line) : a.call l = s.call l := by rw [State.call, h.calls]; rfl

theorem State.Sends.input (v : Trunk) : a.input v = s.input v := by rw [State.input, h.sup]; rfl

theorem State.Sends.after (d : Nat) : a.after d = some (max s.now w / 64 + d) := by rw [State.after, h.scanTime]

/-- Once the CLAIM has left the queue, the one found there after the hand-over was placed at this moment (R136). -/
theorem State.Sends.claims {f : Flight} (flight : s.tx.flight = some f) (claims : f.frame.key = .claim)
    (alone : s.tx.waiting = none) : (a.ownEffective c line).settle.link.errorRun = 0 ∧
      (a.ownEffective c line).settle.tx.flight = none ∧
      ∀ q ∈ (a.ownEffective c line).settle.tx.frames, q.frame.key = .claim → q.age = max s.now w := by
  obtain ⟨unclaimed, grounded, errors⟩ := h.departs f flight claims alone
  have handed := a.ownEffective_handsOver c line
  have left : (a.ownEffective c line).tx.Unclaimed ∧ (a.ownEffective c line).tx.flight = none := by
    rcases handed.tx with same | ⟨cause, placed⟩
    · exact ⟨same ▸ unclaimed, same ▸ grounded⟩
    · rw [placed]
      exact ⟨unclaimed.place (by simp [TxFrame.key]), by simpa using grounded⟩
  refine ⟨by simpa using errors, by simpa using left.2, fun q hq hk => ?_⟩
  rw [State.settle_claimsNow handed.claim left.1 left.2 q hq hk]
  simpa using h.now
end

/-- Settles O45: the effective claim is handed over, the owner decides how, and settling leaves trunk and call alone. -/
theorem ownClaimSeizesOrGivesUpTheTrunk : Obligations.OwnClaimSeizesOrGivesUpTheTrunk := by
  unfold Obligations.OwnClaimSeizesOrGivesUpTheTrunk
  intro s w u line c run marked holds pending on away
  subst on
  obtain ⟨a, sends, ran⟩ := exec_own_effective run marked holds pending
  have away' : a.ctl.station ≠ .isolated := sends.ctl ▸ away
  have handed := a.ownEffective_handsOver c line
  obtain ⟨view, -⟩ := State.settle_view_away (State.ownEffective_away (c := c) (line := line) away')
  refine ⟨_, ran, by simpa using sends.rx, by simpa using sends.own, by simpa using sends.ctl,
    fun _ made => State.settle_queued handed.claim made, fun f flight claims alone => sends.claims flight claims alone, ?_,
    fun l owner hunting idle => ?_, fun l owner hunting busy => ?_, fun unwanted => ?_, fun owner idle => ?_,
    fun owner busy => ?_⟩
  · rw [State.entry, view, ← State.entry, handed.seizures, sends.entry]
  · rw [← sends.call] at hunting
    rw [← sends.input] at idle
    obtain ⟨holding, seize, session, call, queue⟩ := State.ownEffective_settles_seized (line := line) away' owner hunting
      idle rfl
    refine ⟨holding, seize, session.trans ?_, call.trans (by rw [sends.call]), queue⟩
    rw [State.newSession, sends.after, sends.scanTime]
    rfl
  · rw [← sends.call] at hunting
    rw [← sends.input] at busy
    obtain ⟨holding, since, mismatch, carried, queue, call⟩ := State.ownEffective_settles_conflict (line := line) away'
      owner hunting busy rfl
    exact ⟨holding, since.trans sends.scanTime, mismatch, carried, queue.trans (by rw [sends.queue]),
      call.trans (sends.call l)⟩
  · have left : c.owner = .lapsed ∨ ∃ l, c.owner = .line l ∧ (a.call l).state ≠ .hunting := by
      simpa only [sends.call] using unwanted
    obtain ⟨holding, since, carried, queue⟩ := State.ownEffective_settles_givenUp (line := line) away' left rfl
    exact ⟨holding, since.trans sends.scanTime, carried, queue.trans sends.queue⟩
  · rw [← sends.input] at idle
    obtain ⟨holding, seize, session⟩ := State.ownEffective_settles_probe (line := line) away' owner idle rfl
    exact ⟨holding, seize, _, session, rfl, rfl, sends.after _⟩
  · rw [← sends.input] at busy
    obtain ⟨holding, since, mismatch, carried, shut, again⟩ := State.ownEffective_settles_unprobed (line := line) away'
      owner busy rfl
    refine ⟨holding, since.trans sends.scanTime, mismatch, carried, fun none_ => shut ?_, fun retired => ?_⟩
    · rw [State.session, sends.sup]
      exact none_
    · refine (again ?_).trans (sends.after _)
      rw [sends.entry, retired, State.slot, State.slot, sends.ctl]

end Sys2Proof.Machine
end

section
/-! Seizures: a session stands exactly on the OWN trunks of a running station, none under a pending claim, and none is
pending in ISOLATED (R109, R140, R152). -/

namespace Sys2Proof.Machine
open Sys2Proof

/-- A session stands exactly on the OWN trunks of a running station (R109, R152); a pending claim's trunk has none, and no
claim is pending in ISOLATED (R140). -/
structure State.SessionsOwned (s : State) : Prop where
  owned : s.running = true → ∀ t, (s.entry t).isOwn = (s.session t).isSome
  claim : ∀ c, s.hunt.claim = some c → s.session c.trunk = none
  isolated : s.ctl.station = .isolated → s.hunt.claim = none

theorem State.SendsOn.open_ {s t : State} (h : s.SendsOn t) (v : Trunk) : (t.session v).isSome = (s.session v).isSome := by
  simpa using congrArg Option.isSome (h.purposes v)

section
variable {s t : State} {v : Trunk} (h : s.SessionsOwned)
include h

/-! ## What leaves sessions and entries to each other -/

/-- Sessions and OWN entries stand, and no claim is pending that was not. -/
theorem State.SessionsOwned.of_same (run : t.running = true → s.running = true)
    (isolates : t.ctl.station = .isolated → s.ctl.station = .isolated)
    (sessions : ∀ u, (t.session u).isSome = (s.session u).isSome) (entries : ∀ u, (t.entry u).isOwn = (s.entry u).isOwn)
    (claim : ∀ c, t.hunt.claim = some c → ∃ d, s.hunt.claim = some d ∧ c.trunk = d.trunk) : t.SessionsOwned where
  owned running u := by rw [entries, sessions]; exact h.owned (run running) u
  claim c hc := by
    obtain ⟨d, hd, trunk⟩ := claim c hc
    simpa [h.claim d hd, trunk] using sessions c.trunk
  isolated isolated := by
    cases hc : t.hunt.claim with
    | none => rfl
    | some c =>
      obtain ⟨d, hd, -⟩ := claim c hc
      rw [h.isolated (isolates isolated)] at hd
      cases hd

theorem State.SessionsOwned.agrees (same : s.Agrees t) : t.SessionsOwned :=
  h.of_same (same.running ▸ ·) (same.station ▸ ·) (fun u => by simpa using congrArg Option.isSome (same.sessions u))
    same.entries fun c hc => ⟨c, same.claim ▸ hc, rfl⟩

theorem State.SessionsOwned.sendsOn (sends : s.SendsOn t)
    (same : t.inReset = s.inReset ∧ t.ctl = s.ctl ∧ t.view = s.view ∧ t.hunt = s.hunt) : t.SessionsOwned := by
  obtain ⟨inReset, ctl, view, hunt⟩ := same
  exact h.of_same (by simp [State.running, inReset, ctl]) (ctl ▸ ·) sends.open_ (fun u => by simp [State.entry, view])
    fun c hc => ⟨c, hunt ▸ hc, rfl⟩

/-- What is not a session's nor an entry's, with no new claim. -/
theorem State.SessionsOwned.of_frame (same : t.inReset = s.inReset ∧ t.ctl = s.ctl ∧ t.sup.sessions = s.sup.sessions ∧
      t.view.entries = s.view.entries)
    (claim : ∀ c, t.hunt.claim = some c → ∃ d, s.hunt.claim = some d ∧ c.trunk = d.trunk) : t.SessionsOwned := by
  obtain ⟨inReset, ctl, sessions, entries⟩ := same
  exact h.of_same (by simp [State.running, inReset, ctl]) (ctl ▸ ·) (fun u => by simp [State.session, sessions])
    (fun u => by simp [State.entry, entries]) claim

/-- What is not a session's, an entry's nor a claim's. -/
theorem State.SessionsOwned.of_stands (same : t.inReset = s.inReset ∧ t.ctl = s.ctl ∧ t.sup.sessions = s.sup.sessions ∧
      t.view.entries = s.view.entries) (claim : t.hunt.claim = s.hunt.claim) : t.SessionsOwned :=
  h.of_frame same fun c hc => ⟨c, claim ▸ hc, rfl⟩

/-- Station Control enters a state in which the station runs on, with the pending claim kept or dropped. -/
theorem State.SessionsOwned.enters (run : s.running = true)
    (same : t.sup.sessions = s.sup.sessions ∧ t.view.entries = s.view.entries)
    (claim : t.hunt.claim = none ∨ (t.ctl.station ≠ .isolated ∧ t.hunt.claim = s.hunt.claim)) : t.SessionsOwned := by
  obtain ⟨sessions, entries⟩ := same
  refine ⟨fun _ u => ?_, fun c hc => ?_, fun isolated => ?_⟩
  · simpa [State.entry, State.session, entries, sessions] using h.owned run u
  · rcases claim with none_ | ⟨-, same⟩
    · rw [none_] at hc; cases hc
    · simpa [State.session, sessions] using h.claim c (same ▸ hc)
  · exact claim.elim id fun both => absurd isolated both.1

/-! ## Trunks let go and trunks taken -/

/-- Trunk `v` is let go: its session ends, and its entry is not OWN any more (R160, R162). -/
theorem State.SessionsOwned.lets_go (run : t.running = true → s.running = true)
    (isolates : t.ctl.station = .isolated → s.ctl.station = .isolated)
    (session : ∀ u, t.session u = if u = v then none else s.session u)
    (entries : ∀ u, (t.entry u).isOwn = ((s.entry u).isOwn && u ≠ v))
    (claim : ∀ c, t.hunt.claim = some c → ∃ d, s.hunt.claim = some d ∧ c.trunk = d.trunk) : t.SessionsOwned where
  owned running u := by
    rw [entries, session, h.owned (run running) u]
    by_cases hu : u = v <;> simp [hu]
  claim c hc := by
    obtain ⟨d, hd, trunk⟩ := claim c hc
    rw [trunk, session, h.claim d hd, ite_self]
  isolated isolated := by
    cases hc : t.hunt.claim with
    | none => rfl
    | some c =>
      obtain ⟨d, hd, -⟩ := claim c hc
      rw [h.isolated (isolates isolated)] at hd
      cases hd

/-- Trunk `v` becomes OWN as a session opens on it, with no claim pending (R109, R153). -/
theorem State.SessionsOwned.opens (run : s.running = true) {x : Session}
    (session : ∀ u, t.session u = if u = v then some x else s.session u)
    (entries : ∀ u, (t.entry u).isOwn = ((s.entry u).isOwn || u = v)) (claim : t.hunt.claim = none) :
    t.SessionsOwned where
  owned _ u := by
    rw [entries, session, h.owned run u]
    by_cases hu : u = v <;> simp [hu]
  claim c hc := by rw [claim] at hc; cases hc
  isolated _ := claim

theorem State.SessionsOwned.unowned (run : s.running = true) (free : (s.entry v).isOwn = false) : s.session v = none := by
  simpa [h.owned run v] using free
end

/-- A trunk released is not OWN, and no other entry changes hands (R160). -/
theorem State.Releases.isOwn {s r : State} {v : Trunk} (h : s.Releases r v) (u : Trunk) :
    (r.entry u).isOwn = ((s.entry u).isOwn && u ≠ v) := by
  have holding := h.holding u
  by_cases hu : u = v
  · subst hu
    cases own : (s.entry u).isOwn with
    | true =>
      rw [if_pos ⟨rfl, own⟩] at holding
      simp [TrunkEntry.isOwn_of_free holding]
    | false =>
      rw [own, if_neg (by simp)] at holding
      rw [TrunkEntry.isOwn, holding]
      exact own.trans (by simp)
  · rw [if_neg fun both => hu both.1] at holding
    rw [TrunkEntry.isOwn, holding]
    simp [hu, TrunkEntry.isOwn]

section
variable {s t : State} {v : Trunk} (h : s.SessionsOwned)
include h

/-- What is released, and then touched in its calls and frames alone (R160). -/
theorem State.SessionsOwned.releases {r : State} (released : s.Releases r v)
    (same : t.inReset = s.inReset ∧ t.ctl = s.ctl ∧ t.sup.sessions = r.sup.sessions)
    (entries : ∀ u, (t.entry u).isOwn = (r.entry u).isOwn)
    (claim : ∀ c, t.hunt.claim = some c → ∃ d, s.hunt.claim = some d ∧ c.trunk = d.trunk) : t.SessionsOwned := by
  obtain ⟨inReset, ctl, sessions⟩ := same
  refine h.lets_go (v := v) (by simp [State.running, inReset, ctl]) (ctl ▸ ·) (fun u => ?_) (fun u => ?_) claim
  · rw [State.session, sessions]
    exact released.session u
  · rw [entries]
    exact released.isOwn u

theorem State.SessionsOwned.endSession (cause : Cause) : (s.endSession v cause).SessionsOwned :=
  h.releases (s.releases_endSession v cause) (by simp) (fun _ => rfl) fun c hc => ⟨c, by simpa using hc, rfl⟩

theorem State.SessionsOwned.huntDrop (l : Line) : (s.huntDrop l).SessionsOwned :=
  h.of_frame (by simp) fun _ hc => State.huntDrop_claim hc

theorem State.SessionsOwned.lockout (l : Line) : (s.lockout l).SessionsOwned :=
  h.of_frame (by simp) fun c hc => State.huntDrop_claim (by rwa [(s.lockout_hunt l).1] at hc)

/-- At its clear a call leaves its trunk, if it is on one (R61). -/
theorem State.SessionsOwned.clearCall (l : Line) : (s.clearCall l).SessionsOwned := by
  have dropped : (s.dropTrunk l).SessionsOwned := by
    unfold State.dropTrunk
    split
    · exact h.endSession .lineClear
    · exact h
  rw [State.clearCall_eq]
  exact (dropped.huntDrop l).of_stands (by simp) (by simp)

/-- A trunk given up to a peer is the peer's, and its session ends (R120, R162). -/
theorem State.SessionsOwned.yieldTo (p : Slot) (own : (s.entry v).isOwn = true) (run : s.running = true) :
    (s.yieldTo v p).SessionsOwned := by
  have some_ : (s.session v).isSome = true := by rw [← h.owned run v, own]
  have yielded : (s.yielded v p).SessionsOwned := by
    refine h.lets_go (v := v) (by simp [State.yielded, State.running]) (by simp [State.yielded]) (fun u => ?_) (fun u => ?_)
      fun c hc => ⟨c, by simpa [State.yielded] using hc, rfl⟩
    · exact ((s.makeHeld v p none).releases_endSession v .yield).session u
    · obtain ⟨-, -, holding, others⟩ := s.yielded_view v p
      by_cases hu : u = v
      · subst hu; simp [TrunkEntry.isOwn, holding]
      · simp [others u hu, hu]
  rcases s.yieldTo_cases v p with ⟨none_, -⟩ | ⟨ses, -, ⟨l, -, ended⟩ | ⟨-, ended⟩⟩
  · simp [none_] at some_
  · rw [ended]; exact yielded.lockout l
  · rw [ended]; exact yielded.agrees (State.agrees_probeAgain v)

/-! ## The Hunt Unit and the arbiter -/

theorem State.SessionsOwned.withdrawClaim : s.withdrawClaim.SessionsOwned := by
  refine h.of_frame (by simp) fun c hc => ?_
  rw [State.withdrawClaim_claim] at hc
  cases hc

/-- A claim is made for a trunk that is not OWN in the view of an active station (R133, R136). -/
theorem State.SessionsOwned.newClaim (run : s.running = true) (active : s.ctl.station = .active) {f : TxFrame} {x : HuntUnit}
    {c : Claim} (made : x.claim = some c) (free : (s.entry c.trunk).isOwn = false) :
    ((s.place f).setHunt x).SessionsOwned where
  owned := h.owned
  claim d hd := by
    rw [State.setHunt_hunt, made] at hd
    cases hd
    exact h.unowned run free
  isolated isolated := absurd (active.symm.trans isolated) (by simp)

theorem State.SessionsOwned.makeChoice (run : s.running = true) (active : s.ctl.station = .active) :
    s.makeChoice.SessionsOwned := by
  unfold State.makeChoice
  split
  · split
    · have candidate := State.candidate_of_choice ‹s.choice = some _›
      simp only [State.candidate, Bool.and_eq_true] at candidate
      exact h.newClaim run active rfl (State.isOwn_of_huntable candidate.1)
    · exact h
  · exact h

theorem State.SessionsOwned.judgeActive (run : s.running = true) (active : s.ctl.station = .active) :
    s.judgeActive.SessionsOwned := by
  unfold State.judgeActive
  split
  · exact h.makeChoice run active
  · split
    · exact h
    · split
      · exact h
      · exact h.withdrawClaim.makeChoice (by simpa [State.running] using run) (by simpa using active)

theorem State.SessionsOwned.judge (run : s.running = true) : s.judge.SessionsOwned := by
  rcases s.judge_takesHome with ⟨m, taken⟩ | ⟨-, -, view, sessions, -⟩
  · have claim : s.judge.hunt.claim = none := by
      obtain ⟨isolated, -⟩ := taken
      rw [State.judge, isolated]
      exact s.judgeIsolated_claim.trans (h.isolated isolated)
    refine h.opens run taken.session (fun u => ?_) claim
    obtain ⟨-, -, -, holding⟩ := taken.entry u
    rw [TrunkEntry.isOwn, holding]
    by_cases hu : u = s.slot <;> simp [hu, TrunkEntry.isOwn]
  · unfold State.judge
    split
    · exact h.judgeActive run ‹_›
    · rename_i isolated
      have judged : s.judge = s.judgeIsolated := by rw [State.judge, isolated]
      rw [judged] at view sessions
      exact h.of_stands (by simp [view, sessions]) s.judgeIsolated_claim
    · exact h

theorem State.SessionsOwned.settleSenders : s.settleSenders.SessionsOwned :=
  h.sendsOn State.sendsOn_settleSenders (by simp)

theorem State.SessionsOwned.settle (run : s.running = true) : s.settle.SessionsOwned := (h.judge run).settleSenders

/-! ## Claims -/

/-- This station's effective claim makes the trunk OWN, with a session, or gives it back (R114, R142, R143, R146). -/
theorem State.SessionsOwned.ownEffective (run : s.running = true) {c : Claim} (pending : s.hunt.claim = some c)
    (line : Option Line) : (s.ownEffective c line).SessionsOwned := by
  have shut := h.claim c pending
  obtain ⟨r, made⟩ : ∃ r, r = ((s.raiseCount c.trunk).makeOwn c.trunk line).setHunt { s.hunt with claim := none } := ⟨_, rfl⟩
  have takes : s.Takes r c.trunk := by
    refine ⟨by simp [made], by simp [made], by simp [made], by simp [made], by simp [made], fun w => ?_, by simp [made]⟩
    have entry : r.entry w = ((s.raiseCount c.trunk).makeOwn c.trunk line).entry w := by rw [made]; rfl
    rw [entry, State.makeOwn_isOwn, State.raiseCount_isOwn]
  have session (w : Trunk) : r.session w = s.session w := by simp [State.session, takes.sup]
  have seizes (p : Purpose) {t : State} (same : t.session = (r.seizeTrunk c.trunk p).session) (entry : t.entry = r.entry)
      (claim : t.hunt.claim = none) : t.SessionsOwned :=
    h.opens run (fun w => by rw [same, State.seizeTrunk_session, session]) (fun w => by rw [entry, takes.entries]) claim
  have givesBack {t : State} (same : t.inReset = s.inReset ∧ t.ctl = s.ctl ∧ t.sup.sessions = r.sup.sessions)
      (entries : ∀ w, (t.entry w).isOwn = ((r.entry w).isOwn && w ≠ c.trunk)) (claim : t.hunt.claim = none) :
      t.SessionsOwned := by
    obtain ⟨inReset, ctl, sessions⟩ := same
    refine h.of_same (by simp [State.running, inReset, ctl]) (ctl ▸ ·) (fun w => by simp [State.session, sessions, takes.sup])
      (fun w => ?_) (by simp [claim])
    rw [entries, takes.entries]
    by_cases hw : w = c.trunk
    · subst hw; simp [h.owned run, shut]
    · simp [hw]
  have givesUp : (r.giveUp c.trunk).SessionsOwned :=
    givesBack (by simp [takes.inReset, takes.ctl]) (fun w => State.freeOwn_isOwn w) (by simpa using takes.claim)
  unfold State.ownEffective
  dsimp only
  rw [← made]
  split
  · split
    · unfold State.handLine
      dsimp only
      split
      · exact givesBack (by simp [takes.inReset, takes.ctl]) (fun w => State.conflictOwn_isOwn (s := r.unqueue _) w)
          (by simpa using takes.claim)
      · exact seizes (.line _) rfl rfl (by simpa using takes.claim)
    · exact givesUp
  · unfold State.handProbe
    split
    · exact givesBack (by simp [takes.inReset, takes.ctl])
        (fun w => (State.probeAgain_entry _ _).trans (State.conflictOwn_isOwn w)) (by simpa using takes.claim)
    · exact seizes .probe rfl rfl (by simpa using takes.claim)
  · exact givesUp

theorem State.SessionsOwned.ownWithoutEffect (c : Claim) : (s.ownWithoutEffect c).SessionsOwned := by
  have removed : (s.setHunt { s.hunt with claim := none }).SessionsOwned := h.of_frame (by simp) nofun
  unfold State.ownWithoutEffect
  dsimp only
  split
  · exact removed.agrees (State.agrees_probeAgain _)
  · exact removed
end

theorem ownedLearn : Learns State.SessionsOwned where
  agreesWithin h same := h.agrees same
  yieldTo run own h := h.yieldTo _ own run

section
variable {s : State} {v : Trunk} (h : s.SessionsOwned)
include h

theorem State.SessionsOwned.ownClaim (run : s.running = true) (line : Option Line) (outcome : ClaimOutcome) :
    (s.ownClaim v line outcome).SessionsOwned := by
  have sent : s.claimSent.SessionsOwned := h.of_stands (by simp) (by simp)
  have running : s.claimSent.running = true := by simpa [State.running] using run
  unfold State.ownClaim
  dsimp only
  split
  · exact sent
  · rename_i c pending
    split
    · split
      · exact (sent.ownEffective running pending line).settle (by simpa [State.running] using run)
      · rename_i code o
        have refreshed := sent.agrees (State.agrees_refresh o)
        have learnt := ownedLearn.applyObjection (by simpa [State.running] using run) refreshed v code o
        exact (learnt.ownWithoutEffect c).settle (by simpa [State.running] using run)
      · exact (sent.ownWithoutEffect c).settle (by simpa [State.running] using run)
    · exact sent

theorem State.SessionsOwned.startFrame (joining : Bool) : (s.startFrame joining).SessionsOwned := by
  unfold State.startFrame
  split
  · split
    · exact h
    · dsimp only
      split
      · rename_i c _ hc
        refine h.of_frame (by simp) fun d hd => ⟨c, by simpa using hc, ?_⟩
        cases hd
        rfl
      · exact h.of_stands (by simp) rfl
  · exact h

theorem State.SessionsOwned.flightEnds : s.flightEnds.SessionsOwned := by
  have unsent : (s.setTx s.tx.unsent).SessionsOwned := h.of_stands (by simp) rfl
  unfold State.flightEnds
  dsimp only
  split
  · split
    · rename_i c hc
      split
      · exact unsent.withdrawClaim
      · refine unsent.of_frame (by simp) fun d hd => ⟨c, hc, ?_⟩
        cases hd
        rfl
    · exact unsent
  · exact unsent

/-! ## Session events -/

theorem State.SessionsOwned.seizureFails (run : s.running = true) (l : Line) : (s.seizureFails v l).SessionsOwned := by
  have failed : (s.trunkFails v).SessionsOwned :=
    h.releases (s.releases_trunkFails v) (by simp) (fun _ => rfl) fun c hc => ⟨c, by simpa using hc, rfl⟩
  have called : ((s.trunkFails v).callFailed l).SessionsOwned := by
    unfold State.callFailed
    dsimp only
    split
    · split
      · exact failed.of_stands (by simp) (by simp)
      · exact failed.lockout l
    · exact failed
  rw [State.seizureFails_eq]
  exact called.settle (by simpa [State.running] using run)

/-- A session that goes into another state is open as before. -/
theorem State.SessionsOwned.turns {ses x : Session} (opened : s.session v = some ses) :
    (s.setSession v (some x)).SessionsOwned :=
  h.of_same id id (fun u => by by_cases hu : u = v <;> simp [hu, opened]) (fun _ => rfl) fun c hc => ⟨c, hc, rfl⟩

theorem State.SessionsOwned.establish {ses : Session} (opened : s.session v = some ses) (l : Line) :
    (s.establish v ses l).SessionsOwned := by
  have established := h.turns (x := { ses with state := .established, answer := none }) opened
  have counted := established.agrees (State.agrees_setEntry (u := v) (x := {
    (s.setSession v (some { ses with state := .established, answer := none })).entry v with failures := 0 }) rfl)
  unfold State.establish
  dsimp only
  refine State.SessionsOwned.settleSenders ?_
  split
  · exact counted.of_stands (by simp) rfl
  · exact counted

theorem State.SessionsOwned.breakEnds {ses : Session} (opened : s.session v = some ses) :
    (((s.setSession v (some { ses with state := .established, breakTimer := none })).setSeize v true).breakOver
      v).SessionsOwned :=
  (h.turns (x := { ses with state := .established, breakTimer := none }) opened).of_stands (by simp) (by simp)

theorem State.SessionsOwned.codeBoundary (i : Fin 2) : (s.codeBoundary i).SessionsOwned :=
  h.sendsOn (State.sendsOn_codeBoundary i) (by simp)

/-! ## Resets and halts -/

theorem State.SessionsOwned.beginReset : s.beginReset.SessionsOwned where
  owned run := by simp [State.running, State.beginReset] at run
  claim := h.claim
  isolated := h.isolated
end

theorem State.halt_sessionsOwned (s : State) {st : StationState} (stops : st.halted = true) :
    (s.halt st).SessionsOwned where
  owned run := by simp [State.running, State.halt, Control.enter, stops] at run
  claim c hc := by simp [State.halt] at hc
  isolated _ := by simp [State.halt]

theorem State.endReset_sessionsOwned (s : State) (pins : BitVec 15) : (s.endReset pins).SessionsOwned := by
  unfold State.endReset
  dsimp only
  split
  · exact State.halt_sessionsOwned _ rfl
  · refine ⟨fun _ v => ?_, nofun, nofun⟩
    have entry : (s.cleared (readStraps pins)).entry v = TrunkEntry.reset := State.reset_entry v
    have session : (s.cleared (readStraps pins)).session v = none := State.reset_session v
    rw [entry, session]
    rfl

theorem ownedKept : Kept State.SessionsOwned State.SessionsOwned fun _ => True where
  toLearns := ownedLearn
  within := id
  agrees h same := h.agrees same
  served _ _ := trivial
  serving := ⟨trivial, trivial⟩
  settle run h := h.settle run
  settleSenders _ h := h.settleSenders
  beginReset h := h.beginReset
  endReset := State.endReset_sessionsOwned
  halt _ stops _ := State.halt_sessionsOwned _ stops
  enterListen run _ h := h.enters run (by simp) (.inr ⟨by simp [State.enterListen, Control.enter], by simp⟩)
  activating run _ h := h.enters run (by simp [State.activating]) (.inr ⟨by simp [State.activating], by simp [State.activating]⟩)
  isolating run h := h.enters run (by simp [State.isolating]) (.inl (by simp [State.isolating]))
  enterRejoin run _ h := h.enters run (by simp) (.inr ⟨by simp [State.enterRejoin, Control.enter], by simp⟩)
  startCall _ _ _ h := h.of_stands (by simp) (by simp)
  clearCall _ _ _ h := h.clearCall _
  lockout _ _ h := h.lockout _
  enterHunting _ _ h := h.of_stands (by simp) (by simp [State.enterHunting])
  collects _ _ h := h.of_stands (by simp) rfl
  requeues _ h := h.of_stands (by simp) rfl
  blockedEdge _ _ h := h.of_stands (by simp) rfl
  blockLine _ _ h := h.of_stands (by simp) (by simp)
  unblockLine _ _ h := h.of_stands (by simp) (by simp)
  place _ _ _ h := h.of_stands (by simp) rfl
  placeWithin _ _ _ h := h.of_stands (by simp) rfl
  startFrame _ h := h.startFrame _
  flightEnds _ _ h := h.flightEnds
  sent _ h := h.of_stands (by simp) rfl
  replies _ _ _ h := h.of_stands (by simp) rfl
  ownClaim {s k _ _ _} run _ _ _ h := State.SessionsOwned.ownClaim (s := s.setLink k) (h.of_stands (by simp) rfl) run _ _
  holdsProbe _ _ h := h.of_stands (by simp) rfl
  claimsProbe run active _ candidate h := by
    simp only [State.probeCandidate, Bool.and_eq_true] at candidate
    exact h.newClaim run active rfl (State.isOwn_of_huntable candidate.1)
  establish _ opened _ _ h := h.establish opened _
  seizureFails run _ _ _ h := h.seizureFails run _
  switchCleared _ _ _ h := (h.endSession _).lockout _
  probeEnds _ _ _ h := h.endSession _
  breakEnds _ opened _ h := h.breakEnds opened
  codeBoundary _ _ h := h.codeBoundary _
  silenceEnds {s _ l} _ _ _ h :=
    State.SessionsOwned.codeBoundary (s := s.removeHead l) (h.of_stands (by simp) (by simp)) _

end Sys2Proof.Machine
end

section
/-! Seizures: seize is asserted exactly in the session states that assert it, kept by what touches trunks, calls and claims
(R152, TABLE 8-2). -/

namespace Sys2Proof.Machine
open Sys2Proof

/-- Outside a reset seize is asserted exactly in the session states that assert it (R152, TABLE 8-2, R207). -/
def State.SeizesFollow (s : State) : Prop :=
  s.inReset = false → ∀ t : Trunk, s.sup.seize[t] = (s.session t).elim false Session.seizes

section
variable {s t : State} {v : Trunk}

/-- In a reset seize follows nothing. -/
theorem State.seizesFollow_of_reset (resets : s.inReset = true) : s.SeizesFollow :=
  fun live => absurd (resets.symm.trans live) (by simp)

/-- Where no session is open and no seize asserted, seize follows. -/
theorem State.seizesFollow_of_released (off : ∀ u : Trunk, s.sup.seize[u] = false) (shut : ∀ u, s.session u = none) :
    s.SeizesFollow := fun _ u => by rw [off, shut]; rfl

section
variable (h : s.SeizesFollow)
include h

theorem State.SeizesFollow.of_same (same : t.inReset = s.inReset ∧ t.sup.seize = s.sup.seize ∧
    t.sup.sessions = s.sup.sessions) : t.SeizesFollow := by
  obtain ⟨inReset, seize, sessions⟩ := same
  intro live u
  rw [seize, State.session, sessions]
  exact h (inReset ▸ live) u

/-- Seize and session of trunk `v` change together, and no others. -/
theorem State.SeizesFollow.of_trunk (inReset : t.inReset = s.inReset)
    (others : ∀ u : Trunk, u ≠ v → t.session u = s.session u ∧ t.sup.seize[u] = s.sup.seize[u])
    (here : t.sup.seize[v] = (t.session v).elim false Session.seizes) : t.SeizesFollow := by
  intro live u
  by_cases hu : u = v
  · subst hu; exact here
  · obtain ⟨session, seize⟩ := others u hu
    rw [session, seize, h (inReset ▸ live) u]

/-! ## Trunks taken, let go and in recall breaks -/

theorem State.SeizesFollow.seizeTrunk (p : Purpose) : (s.seizeTrunk v p).SeizesFollow := by
  refine h.of_trunk (v := v) (by simp) (fun u hu => ⟨?_, ?_⟩) ?_
  · rw [State.seizeTrunk_session, if_neg hu]
  · simp [State.seizeTrunk, hu]
  · rw [State.seizeTrunk_session, if_pos rfl]
    cases p <;> simp [State.seizeTrunk, State.newSession, Purpose.opensIn, Session.seizes]

theorem State.SeizesFollow.seizeForLine (l : Line) : (s.seizeForLine v l).SeizesFollow :=
  (h.seizeTrunk (v := v) (.line l)).of_same (by simp [State.seizeForLine])

/-- What is released, and what then touches neither seize nor sessions (R160). -/
theorem State.SeizesFollow.releases {r : State} (released : s.Releases r v)
    (same : t.inReset = s.inReset ∧ t.sup.seize = r.sup.seize ∧ t.sup.sessions = r.sup.sessions) : t.SeizesFollow := by
  obtain ⟨inReset, seize, sessions⟩ := same
  have session (u : Trunk) : t.session u = r.session u := by rw [State.session, sessions]; rfl
  refine h.of_trunk (v := v) inReset (fun u hu => ⟨?_, ?_⟩) ?_
  · rw [session, released.session, if_neg hu]
  · rw [seize, released.seize, if_neg hu]
  · rw [seize, session, released.seize, released.session, if_pos rfl, if_pos rfl]
    rfl

theorem State.SeizesFollow.endSession (cause : Cause) : (s.endSession v cause).SeizesFollow :=
  h.releases (s.releases_endSession v cause) (by simp)

/-- A session goes into another state that asserts seize as its own did. -/
theorem State.SeizesFollow.setSession {ses x : Session} (opened : s.session v = some ses) (alike : x.seizes = ses.seizes) :
    (s.setSession v (some x)).SeizesFollow := by
  intro live u
  have follows := h live u
  by_cases hu : u = v
  · subst hu; simpa [opened, alike] using follows
  · simpa [hu] using follows

/-- A session that goes into another state takes its seize with it (R159). -/
theorem State.SeizesFollow.turns {x : Session} (on : Bool) (asserts : x.seizes = on) :
    ((s.setSession v (some x)).setSeize v on).SeizesFollow := by
  refine h.of_trunk (v := v) rfl (fun u hu => ⟨(State.setSession_session s v _ u).trans (if_neg hu), by simp [hu]⟩) ?_
  have opened : ((s.setSession v (some x)).setSeize v on).session v = some x :=
    (State.setSession_session s v _ v).trans (if_pos rfl)
  simp [opened, asserts]

theorem State.SeizesFollow.askBreak (i : Fin 2) : (s.askBreak i v).SeizesFollow := by
  unfold State.askBreak
  split
  · split
    · exact (h.turns (x := { ‹Session› with state := .recallBreak, breakTimer := s.after breakTime }) false
        (by simp [Session.seizes])).of_same ⟨rfl, rfl, rfl⟩
    · exact h.of_same (by simp)
  · exact h.of_same (by simp)

/-! ## The arbiter and the Hunt Unit -/

theorem State.SeizesFollow.nextCode (i : Fin 2) (l : Line) : (s.nextCode i l v).SeizesFollow := by
  unfold State.nextCode
  dsimp only
  split
  · exact h.of_same (by simp)
  · split
    · split
      · exact h.of_same (by simp)
      · split
        · exact h.of_same (by simp)
        · exact h.askBreak i
        · exact h.of_same (by simp)
    · exact h.of_same (by simp)

theorem State.SeizesFollow.codeBoundary (i : Fin 2) : (s.codeBoundary i).SeizesFollow := by
  unfold State.codeBoundary
  split
  · rename_i l v _ _
    dsimp only
    refine State.SeizesFollow.nextCode (h.of_same ?_) i l
    split <;> split <;> simp
  · exact h

theorem State.SeizesFollow.settleSenders : s.settleSenders.SeizesFollow := by
  refine State.settleSenders_keeps (fun _ hu => hu.of_same (by simp)) (fun {u i l} hu _ wants => ?_) h
  obtain ⟨-, v, -, on, -⟩ := State.wantsSender_iff.1 wants
  rw [State.grant_attached on]
  exact State.SeizesFollow.nextCode (s := u.attachedTo i l v) (hu.of_same ⟨rfl, rfl, rfl⟩) i l

theorem State.SeizesFollow.judge : s.judge.SeizesFollow := by
  rcases s.judge_takesHome with ⟨m, taken⟩ | ⟨-, -, -, sessions, seize, -⟩
  · obtain ⟨-, -, -, -, takes⟩ := taken
    rw [takes]
    exact State.SeizesFollow.seizeForLine (h.of_same (by simp)) m
  · exact h.of_same ⟨by simp, seize, sessions⟩

theorem State.SeizesFollow.settle : s.settle.SeizesFollow := h.judge.settleSenders

/-! ## Calls -/

theorem State.SeizesFollow.lockout (l : Line) : (s.lockout l).SeizesFollow := h.of_same (by simp)

theorem State.SeizesFollow.clearCall (l : Line) : (s.clearCall l).SeizesFollow := by
  have dropped : (s.dropTrunk l).SeizesFollow := by
    unfold State.dropTrunk
    split
    · exact h.endSession .lineClear
    · exact h
  rw [State.clearCall_eq]
  exact dropped.of_same (by simp)

theorem State.SeizesFollow.handEntry (l : Line) (e : Entry) : (s.handEntry l e).SeizesFollow := by
  unfold State.handEntry
  dsimp only
  split
  · split
    · split
      · exact State.SeizesFollow.settle (h.of_same (by simp))
      · exact h.of_same (by simp)
    · exact h.lockout l
    · exact h
  iterate 3
    split
    · exact h
    · split
      · exact State.SeizesFollow.settleSenders (h.of_same (by simp))
      · exact h.of_same (by simp)
  · exact h

theorem State.SeizesFollow.takeDecoded (l : Line) (r : Decoded) : (s.takeDecoded l r).SeizesFollow := by
  have told : (if r.notice then (s.setDec l r.dec).toneOff l else s.setDec l r.dec).SeizesFollow :=
    h.of_same (by split <;> simp)
  unfold State.takeDecoded
  dsimp only
  split
  · exact told.handEntry l _
  · exact told

theorem State.SeizesFollow.handEdge (l : Line) (edge : Loop) : (s.handEdge l edge).SeizesFollow := by
  unfold State.handEdge
  split
  · exact h.of_same (by simp)
  · exact h.of_same (by simp)
  · exact h
  · split
    · exact h.takeDecoded l _
    · exact h.of_same (by simp)

theorem State.SeizesFollow.applySample (l : Line) (present : Bool) : (s.applySample l present).SeizesFollow := by
  unfold State.applySample
  dsimp only
  split
  · exact h.of_same (by simp)
  · exact State.SeizesFollow.handEdge (h.of_same (by simp)) l _

theorem State.SeizesFollow.offHookMark (l : Line) : (s.offHookMark l).SeizesFollow := by
  unfold State.offHookMark
  dsimp only
  split
  · split
    · split
      · exact State.SeizesFollow.settle (h.of_same (by simp))
      · exact h.of_same (by simp)
    · exact h
  · exact h

theorem State.SeizesFollow.clearMark (l : Line) : (s.clearMark l).SeizesFollow := by
  unfold State.clearMark
  split
  · exact (h.clearCall l).settle
  · exact h

theorem State.SeizesFollow.thresholdMark (l : Line) : (s.thresholdMark l).SeizesFollow := by
  unfold State.thresholdMark
  split
  · exact h.takeDecoded l _
  · exact h

/-! ## What the view learns -/

theorem State.SeizesFollow.yieldTo (p : Slot) : (s.yieldTo v p).SeizesFollow := by
  have held : (s.makeHeld v p none).SeizesFollow := h.of_same (by simp)
  have yielded : (s.yielded v p).SeizesFollow := held.endSession .yield
  rcases s.yieldTo_cases v p with ⟨-, ended⟩ | ⟨ses, -, ⟨l, -, ended⟩ | ⟨-, ended⟩⟩
  · rw [ended]; exact held
  · rw [ended]; exact yielded.lockout l
  · rw [ended]; exact yielded.of_same (by simp)

theorem State.SeizesFollow.learnHeld (p : Slot) : (s.learnHeld v p).SeizesFollow := by
  have counted : s.countDual.SeizesFollow := h.of_same ⟨rfl, rfl, rfl⟩
  cases own : (s.entry v).isOwn with
  | false =>
    rw [State.learnHeld_of_other s p v own]
    split
    · exact h
    · exact h.of_same (by simp)
  | true =>
    rw [State.learnHeld_of_own s p v own]
    split
    · exact counted
    · exact counted.yieldTo p

theorem State.SeizesFollow.applyPlace (p : Slot) (held retired : Bool) : (s.applyPlace p held retired v).SeizesFollow := by
  have placed : (if held then s.learnHeld v p
      else if (s.entry v).isHeldBy p then s.setEntry v ((s.entry v).freed s.scanTime) else s).SeizesFollow := by
    split
    · exact h.learnHeld p
    · exact h.of_same (by split <;> simp)
  unfold State.applyPlace
  dsimp only
  split <;> exact placed.of_same (by simp)

theorem State.SeizesFollow.applyReport (p : Slot) (count : Nat) (held retired : Byte) (mismatch : Bool) :
    (s.applyReport p count held retired mismatch).SeizesFollow := by
  have mapped (trunks : List Trunk) {u : State} (hu : u.SeizesFollow) : (trunks.foldl (fun s t =>
      s.applyPlace p (mapHas held t) (mapHas retired t) t) u).SeizesFollow := by
    induction trunks generalizing u with
    | nil => exact hu
    | cons t rest ih => exact ih (hu.applyPlace p _ _)
  have learnt := mapped ((List.finRange 8).filter (s.refresh p).fitted) (h.of_same (t := s.refresh p) (by simp))
  exact learnt.of_same ⟨rfl, rfl, rfl⟩

theorem State.SeizesFollow.applyObjection (code : Nat) (o : Slot) : (s.applyObjection v code o).SeizesFollow := by
  unfold State.applyObjection
  split
  · exact h
  · split
    · exact h.learnHeld o
    · exact h.of_same (by simp)

theorem State.SeizesFollow.fromPeer (p : Slot) {apply : State → State}
    (applied : ∀ u : State, u.SeizesFollow → (apply u).SeizesFollow) : (s.fromPeer p v apply).SeizesFollow := by
  have refreshed : (s.refresh p).SeizesFollow := h.of_same (by simp)
  unfold State.fromPeer
  dsimp only
  split
  · exact applied _ refreshed
  · exact refreshed.of_same (by simp)

/-! ## Claims at their EOF -/

theorem State.SeizesFollow.ownEffective (c : Claim) (line : Option Line) : (s.ownEffective c line).SeizesFollow := by
  obtain ⟨r, made⟩ : ∃ r, r = ((s.raiseCount c.trunk).makeOwn c.trunk line).setHunt { s.hunt with claim := none } := ⟨_, rfl⟩
  have owned : r.SeizesFollow := by rw [made]; exact h.of_same (by simp)
  unfold State.ownEffective
  dsimp only
  rw [← made]
  split
  · split
    · unfold State.handLine
      dsimp only
      split
      · exact owned.of_same (by simp)
      · exact State.SeizesFollow.seizeForLine (owned.of_same (by simp)) _
    · exact owned.of_same (by simp)
  · unfold State.handProbe
    split
    · exact owned.of_same (by simp)
    · exact owned.seizeTrunk .probe
  · exact owned.of_same (by simp)

theorem State.SeizesFollow.ownClaim (line : Option Line) (outcome : ClaimOutcome) :
    (s.ownClaim v line outcome).SeizesFollow := by
  have sent : s.claimSent.SeizesFollow := h.of_same (by simp)
  have unmade {u : State} (hu : u.SeizesFollow) (c : Claim) : (u.ownWithoutEffect c).SeizesFollow := by
    unfold State.ownWithoutEffect
    exact hu.of_same (by dsimp only; split <;> simp)
  unfold State.ownClaim
  dsimp only
  split
  · exact sent
  · split
    · split
      · exact (sent.ownEffective _ line).settle
      · refine State.SeizesFollow.settle (unmade (State.SeizesFollow.applyObjection ?_ _ _) _)
        exact sent.of_same (by simp)
      · exact (unmade sent _).settle
    · exact sent
end
end
end Sys2Proof.Machine
end

section
/-! Seizures: seize is asserted exactly in the session states that assert it, kept by the link, Station Control and the
maintenance commands (R152, R160, R205, R207). -/

namespace Sys2Proof.Machine
open Sys2Proof

section
variable {s t : State}

/-! ## Resets, halts and the entries of Station Control -/

theorem State.beginReset_seizesFollow (s : State) : s.beginReset.SeizesFollow := State.seizesFollow_of_reset rfl

theorem State.halt_seizesFollow (s : State) (st : StationState) : (s.halt st).SeizesFollow :=
  State.seizesFollow_of_released (fun u => by simp [State.halt]) fun u => by simp [State.halt, State.session]

theorem State.endReset_seizesFollow (s : State) (pins : BitVec 15) : (s.endReset pins).SeizesFollow := by
  unfold State.endReset
  dsimp only
  split
  · exact State.halt_seizesFollow _ _
  · refine State.seizesFollow_of_released (fun u => ?_) fun u => State.reset_session u
    have seize : (s.cleared (readStraps pins)).sup.seize = Vector.replicate 8 false := rfl
    simp [seize]

section
variable (h : s.SeizesFollow)
include h

theorem State.SeizesFollow.enterActive : s.enterActive.SeizesFollow := by
  rw [State.enterActive_eq]
  exact State.SeizesFollow.settle (h.of_same (by simp [State.activating]))

theorem State.SeizesFollow.enterIsolated : s.enterIsolated.SeizesFollow := by
  rw [State.enterIsolated_eq]
  exact h.of_same (by split <;> simp [State.isolating])

/-! ## Errors of the link -/

theorem State.SeizesFollow.transmitFails (m : Nat) : (s.transmitFails m).SeizesFollow := by
  unfold State.transmitFails
  dsimp only
  split
  · exact State.SeizesFollow.enterIsolated (h.of_same (by simp))
  · exact State.SeizesFollow.settle (h.of_same (by simp))

theorem State.SeizesFollow.wireError (m : Nat) : (s.wireError m).SeizesFollow := by
  unfold State.wireError
  split
  · exact h.transmitFails m
  · unfold State.receiveFails
    dsimp only
    split
    · exact State.beginReset_seizesFollow _
    · exact h.of_same (by simp)

theorem State.SeizesFollow.signalFails (m : Nat) : (s.signalFails m).SeizesFollow := by
  unfold State.signalFails
  dsimp only
  split
  · exact h.wireError m
  · split
    · exact State.halt_seizesFollow _ _
    · exact h.of_same (by simp)
  · exact h

theorem State.SeizesFollow.setLink (k : Link) : (s.setLink k).SeizesFollow := h.of_same ⟨rfl, rfl, rfl⟩

theorem State.SeizesFollow.replyEod : s.replyEod.SeizesFollow :=
  State.replyEod_keeps (fun _ k h _ => h.setLink k) (fun _ m h => h.signalFails m) h

theorem State.SeizesFollow.readWire (level : Bool) : (s.readWire level).SeizesFollow :=
  State.readWire_keeps (fun _ k h _ => h.setLink k) (fun _ m h => h.signalFails m) level h

/-! ## Frames heard -/

theorem State.SeizesFollow.hear {bytes : List Byte} {handOn : LinkFrame → State → State}
    (handed : ∀ f, (handOn f s).SeizesFollow) : (s.hear bytes handOn).SeizesFollow := by
  unfold State.hear
  split
  · split
    · exact handed _
    · exact h.wireError _
  · exact h

theorem State.SeizesFollow.handToView (p : Slot) (bytes : List Byte) {peers : State → State}
    (applied : ∀ u : State, u.SeizesFollow → (peers u).SeizesFollow) : (s.handToView p bytes peers).SeizesFollow := by
  unfold State.handToView
  dsimp only
  split
  · split
    · exact h.setLink _
    · exact State.halt_seizesFollow _ _
  · exact (applied _ (h.setLink _)).settle

theorem State.SeizesFollow.peerClaim (p : Slot) (v : Trunk) (line : Option Line) (outcome : ClaimOutcome)
    (driven : Bool) : (s.peerClaim p v line outcome driven).SeizesFollow := by
  unfold State.peerClaim
  split
  · exact (h.fromPeer p fun u hu => hu.of_same (by simp)).settle
  · split
    · exact State.halt_seizesFollow _ _
    · exact (State.SeizesFollow.fromPeer (h.of_same (by simp)) p fun u hu => hu.applyObjection _ _).settle
  · exact h

theorem State.SeizesFollow.claimAtEof (p : Slot) (v : Trunk) (line : Option Line) (outcome : ClaimOutcome) :
    (s.claimAtEof p v line outcome).SeizesFollow := by
  obtain ⟨link, taken⟩ : ∃ link : Link,
      (if outcome = .refused then (s.setLink { s.link.afterEof s.now with rx := .waitEof }).countRx
        else s.setLink (s.link.afterEof s.now)) = s.setLink link := by
    split
    · exact ⟨{ s.link.afterEof s.now with rx := .waitEof, rxErrors := counted (s.link.afterEof s.now).rxErrors }, rfl⟩
    · exact ⟨_, rfl⟩
  unfold State.claimAtEof
  dsimp only
  rw [taken]
  split
  · split
    · exact (h.setLink link).ownClaim line outcome
    · split
      · exact h.setLink link
      · exact State.halt_seizesFollow _ _
  · exact (h.setLink link).peerClaim p v line outcome _

/-! ## Maintenance -/

theorem State.SeizesFollow.answer (target : Slot) (bytes reply : List Byte) (kind : ReplyKind) :
    (s.answer target bytes reply kind).SeizesFollow := by
  unfold State.answer
  split <;> exact h.setLink _

theorem State.SeizesFollow.commandHeard (slot : HeaderSlot) (target code arg check : Byte) :
    (s.commandHeard slot target code arg check).SeizesFollow := by
  unfold State.commandHeard
  refine h.hear fun f => ?_
  dsimp only
  split
  · exact h.answer _ _ _ _
  · exact h

theorem State.SeizesFollow.retireTrunk (v : Trunk) : (s.retireTrunk v).SeizesFollow := by
  unfold State.retireTrunk
  split
  · exact h
  · split
    · split
      · rename_i opened
        exact h.setSession opened rfl
      · exact h
    · exact State.SeizesFollow.settle (h.of_same (by simp))

theorem State.SeizesFollow.restoreTrunk (v : Trunk) : (s.restoreTrunk v).SeizesFollow := by
  unfold State.restoreTrunk
  split
  · exact State.SeizesFollow.settle (h.of_same (by simp))
  · split
    · rename_i opened
      exact h.setSession opened rfl
    · exact h

theorem State.SeizesFollow.clearAllCounts : s.clearAllCounts.SeizesFollow := by
  have counts (ls : List Line) {u : State} (hu : u.SeizesFollow) : (ls.foldl State.clearLineCounts u).SeizesFollow := by
    induction ls generalizing u with
    | nil => exact hu
    | cons l rest ih => exact ih (hu.of_same (by simp))
  exact (counts (List.finRange 8) h).of_same ⟨rfl, rfl, rfl⟩

theorem State.SeizesFollow.carryOut (code arg : Byte) : (s.carryOut code arg).SeizesFollow := by
  unfold State.carryOut
  split
  · exact h.of_same (by simp)
  · exact h.of_same (by simp)
  · exact h.retireTrunk _
  · exact h.restoreTrunk _
  · exact h.of_same (by simp)
  · exact h.of_same (by simp)
  · exact h.clearAllCounts
  · exact h.of_same (by simp)
  · exact h

theorem State.SeizesFollow.replyWasSent (r : Reply) : (s.replyWasSent r).SeizesFollow := by
  unfold State.replyWasSent
  dsimp only
  split
  · split
    · exact h.setLink _
    · exact (h.setLink _).carryOut _ _
  · exact h.setLink _

/-! ## Session events -/

section
variable {v : Trunk}

theorem State.SeizesFollow.seizureFails (l : Line) : (s.seizureFails v l).SeizesFollow := by
  rw [State.seizureFails_eq]
  exact State.SeizesFollow.settle (h.releases (s.releases_trunkFails v) (by simp))

theorem State.SeizesFollow.establish {ses : Session} (opened : s.session v = some ses) (waits : ses.state = .waitPts)
    (l : Line) : (s.establish v ses l).SeizesFollow := by
  have established := h.setSession (x := { ses with state := .established, answer := none }) opened
    (by simp [Session.seizes, waits])
  unfold State.establish
  dsimp only
  refine State.SeizesFollow.settleSenders (established.of_same ?_)
  split <;> simp

theorem State.SeizesFollow.probeFails : (s.probeFails v).SeizesFollow :=
  State.SeizesFollow.settle ((h.endSession (v := v) .ptsFail).of_same (by simp))

theorem State.SeizesFollow.probeAnswered : (s.probeAnswered v).SeizesFollow := by
  have ended := h.endSession (v := v) .probeDone
  unfold State.probeAnswered
  dsimp only
  split
  · exact State.SeizesFollow.settle (ended.of_same (by simp))
  · exact ended.settle

theorem State.SeizesFollow.switchClear {ses : Session} :
    (match ses.state, ses.purpose with
      | .waitPts, .line l => s.seizureFails v l
      | .established, .line l => ((s.endSession v .switchClear).lockout l).settle
      | .recallBreak, .line l => ((s.endSession v .switchClear).lockout l).settle
      | .probeWait, _ => s.probeFails v
      | _, _ => s).SeizesFollow := by
  split
  · exact h.seizureFails _
  · exact ((h.endSession _).lockout _).settle
  · exact ((h.endSession _).lockout _).settle
  · exact h.probeFails
  · exact h
end

/-! ## Every command -/

omit h in
/-- A command keeps it that seize follows where its effect does. -/
theorem State.SeizesFollow.act {w : Nat} {f : State → State} (h : s.SeizesFollow) (e : s.act w f = .next t)
    (effect : ∀ u : State, u.SeizesFollow → (f u).SeizesFollow) : t.SeizesFollow :=
  State.act_keeps e h fun _ => effect _ (h.of_same ⟨rfl, rfl, rfl⟩)

omit h in
theorem State.SeizesFollow.guarded (h : s.SeizesFollow) {p : Prop} [Decidable p] (effect : p → t.SeizesFollow) :
    (if p then t else s).SeizesFollow := by
  split
  · exact effect ‹_›
  · exact h

end
end
end Sys2Proof.Machine
end

section
/-! Seizures: seize is asserted exactly in the session states that assert it, kept by every command and every step (R152). -/

namespace Sys2Proof.Machine
open Sys2Proof

namespace State.SeizesFollow

section
variable {s t : State} {w : Nat} (h : s.SeizesFollow)
include h

/-! ## Start-up, lines and senders -/

theorem execTestFrameOutcome {outcome : TestOutcome} (e : execTestFrameOutcome w outcome s = .next t) :
    t.SeizesFollow := by
  refine h.act e fun u hu => ?_
  split
  · refine hu.guarded fun _ => ?_
    unfold State.testEnds
    split
    · split <;> exact hu.of_same (by simp [State.enterListen])
    · exact State.halt_seizesFollow _ _
  · exact hu

theorem execTestFrameTimeout (e : execTestFrameTimeout w s = .next t) : t.SeizesFollow := by
  refine h.act e fun u hu => ?_
  split
  · exact hu.guarded fun _ => State.halt_seizesFollow _ _
  · exact hu

theorem execLoopSample {l : Line} {present : Bool} (e : execLoopSample w l present s = .next t) : t.SeizesFollow :=
  h.act e fun _ hu => hu.guarded fun _ => (((hu.offHookMark l).clearMark l).thresholdMark l).applySample l present

theorem execEndOfDiallingTimer {l : Line} (e : execEndOfDiallingTimer w l s = .next t) : t.SeizesFollow := by
  refine h.act e fun u hu => hu.guarded fun _ => ?_
  split
  · exact State.SeizesFollow.settle (hu.of_same (by simp))
  iterate 3 exact State.SeizesFollow.settleSenders (hu.of_same (by simp))
  · exact hu

theorem execToneSample {i : Fin 2} (e : execToneSample w i s = .next t) : t.SeizesFollow := by
  refine h.act e fun u hu => ?_
  dsimp only
  split
  · exact hu.of_same (by simp)
  · exact hu

theorem execRecallSilenceEnd {i : Fin 2} (e : execRecallSilenceEnd w i s = .next t) : t.SeizesFollow := by
  refine h.act e fun u hu => hu.guarded fun _ => ?_
  split
  · exact (State.SeizesFollow.codeBoundary (hu.of_same (by simp)) i).settleSenders
  · exact hu

/-! ## The link -/

theorem execFrameStart {joining : Bool} (e : execFrameStart w joining s = .next t) : t.SeizesFollow := by
  refine h.act e fun u hu => ?_
  split
  · unfold State.startTestFrame
    exact hu.guarded fun _ => hu.of_same (by simp)
  · unfold State.startFrame
    refine hu.guarded fun _ => ?_
    split
    · exact hu
    · dsimp only
      split <;> exact hu.of_same (by simp)
  · exact hu

theorem execArbitrationLost {cell : Nat} (e : execArbitrationLost w cell s = .next t) : t.SeizesFollow := by
  refine h.act e fun u hu => hu.guarded fun _ => ?_
  have lost := hu.setLink { u.link with own := none, reply := none, arbLosses := counted u.link.arbLosses }
  exact lost.guarded fun _ => State.SeizesFollow.settle (lost.of_same (by simp))

theorem execFrameSent (e : execFrameSent w s = .next t) : t.SeizesFollow := by
  refine h.act e fun u hu => ?_
  have read := hu.replyEod
  dsimp only
  split
  · exact read
  · refine read.guarded fun _ => ?_
    split <;> exact read.of_same (by simp [State.enterRejoin])

theorem execReplySent (e : execReplySent w s = .next t) : t.SeizesFollow := by
  refine h.act e fun u hu => ?_
  split
  · exact hu
  · exact hu.guarded fun _ => hu.replyWasSent _

theorem execStuckDominantAbort (e : execStuckDominantAbort w s = .next t) : t.SeizesFollow := by
  refine h.act e fun u hu => hu.guarded fun _ => ?_
  have marked := hu.setLink { u.link.dominantAt u.now with stuckAbort := some u.now }
  dsimp only
  split
  · exact marked.wireError _
  · exact marked.setLink _

theorem execLinkFailure (e : execLinkFailure w s = .next t) : t.SeizesFollow :=
  h.act e fun _ hu => hu.guarded fun _ => (hu.setLink _).enterIsolated

theorem execFrameEof (e : execFrameEof w s = .next t) : t.SeizesFollow := by
  refine h.act e fun u hu => hu.replyEod.guarded fun _ => ?_
  dsimp only
  split
  · exact State.beginReset_seizesFollow _
  · exact hu.replyEod.setLink _

/-! ## Frames heard -/

theorem execRelease {slot : HeaderSlot} {trunk cause check : Byte} (e : execRelease w slot trunk cause check s = .next t) :
    t.SeizesFollow := by
  refine h.act e fun u hu => hu.hear fun f => ?_
  split
  · refine hu.handToView _ _ fun x hx => hx.fromPeer _ fun y hy => hy.of_same ?_
    unfold State.applyRelease
    split <;> simp
  · exact hu

theorem execRetire {slot : HeaderSlot} {trunk cause check : Byte} (e : execRetire w slot trunk cause check s = .next t) :
    t.SeizesFollow := by
  refine h.act e fun u hu => hu.hear fun f => ?_
  split
  · exact hu.handToView _ _ fun x hx => hx.fromPeer _ fun y hy => hy.of_same (by simp)
  · exact hu

theorem execRestore {slot : HeaderSlot} {trunk check : Byte} (e : execRestore w slot trunk check s = .next t) :
    t.SeizesFollow := by
  refine h.act e fun u hu => hu.hear fun f => ?_
  split
  · exact hu.handToView _ _ fun x hx => hx.fromPeer _ fun y hy => hy.of_same (by simp)
  · exact hu

theorem execReport {slot : HeaderSlot} {count held retired flags check : Byte}
    (e : execReport w slot count held retired flags check s = .next t) : t.SeizesFollow := by
  refine h.act e fun u hu => hu.hear fun f => ?_
  split
  · refine hu.handToView _ _ fun x hx => ?_
    split
    · exact hx.of_same ⟨rfl, rfl, rfl⟩
    · exact hx.applyReport _ _ _ _ _
  · exact hu

theorem execObjection {slot : HeaderSlot} {trunk line check : Byte} (e : execObjection w slot trunk line check s = .next t) :
    t.SeizesFollow := by
  refine h.act e fun u hu => hu.hear fun f => ?_
  split
  · dsimp only
    split <;> exact hu.setLink _
  · exact hu

theorem execClaim {slot : HeaderSlot} {trunk line check : Byte} {reply : Option (List Byte)}
    (e : execClaim w slot trunk line check reply s = .next t) : t.SeizesFollow := by
  refine h.act e fun u hu => hu.replyEod.guarded fun _ => ?_
  dsimp only
  split
  · split
    · exact hu.replyEod.wireError _
    · exact hu.replyEod.claimAtEof _ _ _ _
  · exact hu.replyEod.wireError _

theorem execStatusRequest {slot : HeaderSlot} {target page check : Byte}
    (e : execStatusRequest w slot target page check s = .next t) : t.SeizesFollow := by
  refine h.act e fun u hu => hu.hear fun f => ?_
  split
  · exact hu.answer _ _ _ _
  · exact hu

theorem execUnlistedCommand {slot : HeaderSlot} {target code arg check : Byte}
    (e : execUnlistedCommand w slot target code arg check s = .next t) : t.SeizesFollow := by
  refine h.act e fun u hu => ?_
  split
  · exact hu
  · exact hu.commandHeard slot target code arg check

/-! ## The pool view, the Hunt Unit and the trunks -/

theorem execProbeRequest (e : execProbeRequest w s = .next t) : t.SeizesFollow := by
  refine h.act e fun u hu => ?_
  split
  · exact hu
  · refine hu.guarded fun _ => ?_
    split <;> exact hu.of_same (by simp [State.probeNotMade])

theorem execTrunkInputSample {v : Trunk} {pts clr busy : Bool} (e : execTrunkInputSample w v pts clr busy s = .next t) :
    t.SeizesFollow := by
  refine h.act e fun u hu => hu.guarded fun _ => ?_
  dsimp only
  split
  · exact hu.of_same (by simp)
  · split
    · exact hu.of_same (by simp)
    · unfold State.busyChanged
      refine State.SeizesFollow.settle (hu.of_same ?_)
      dsimp only
      split <;> simp

theorem execProceedToSend {v : Trunk} (e : execProceedToSend w v s = .next t) : t.SeizesFollow := by
  refine h.act e fun u hu => ?_
  split
  · exact hu
  · refine hu.guarded fun _ => ?_
    split
    · exact hu.establish ‹_› ‹_› _
    · exact hu.probeAnswered
    · exact hu

theorem execSwitchClear {v : Trunk} (e : execSwitchClear w v s = .next t) : t.SeizesFollow := by
  refine h.act e fun u hu => ?_
  split
  · exact hu
  · exact hu.guarded fun _ => hu.switchClear

theorem execPtsTimer {v : Trunk} (e : execPtsTimer w v s = .next t) : t.SeizesFollow := by
  refine h.act e fun u hu => ?_
  split
  · exact hu
  · split
    · exact hu.guarded fun _ => hu.seizureFails _
    · exact hu

theorem execProbeTimer {v : Trunk} (e : execProbeTimer w v s = .next t) : t.SeizesFollow := by
  refine h.act e fun u hu => ?_
  split
  · exact hu
  · exact hu.guarded fun _ => hu.probeFails

theorem execBreakTimer {v : Trunk} (e : execBreakTimer w v s = .next t) : t.SeizesFollow := by
  refine h.act e fun u hu => ?_
  split
  · exact hu
  · rename_i ses _
    refine hu.guarded fun _ => ?_
    have ended := hu.turns (v := v) (x := { ses with state := .established, breakTimer := none }) true
      (by simp [Session.seizes])
    refine State.SeizesFollow.settleSenders (ended.of_same ?_)
    unfold State.breakOver
    split <;> simp [State.keepSilence]

theorem execProbeInterval {v : Trunk} (e : execProbeInterval w v s = .next t) : t.SeizesFollow := by
  refine h.act e fun u hu => hu.guarded fun _ => ?_
  split <;> exact hu.of_same (by simp)

theorem execCrosspointShiftEnd (e : execCrosspointShiftEnd w s = .next t) : t.SeizesFollow := by
  unfold Machine.execCrosspointShiftEnd at e
  dsimp only at e
  split at e
  · cases e; exact h
  · split at e
    · cases e; exact h
    · split at e
      · cases e
        exact h.of_same ⟨rfl, rfl, rfl⟩
      · cases e; exact h

/-! ## Every command and every step -/

theorem exec {c : Instr} (e : exec c s = .next t) : t.SeizesFollow := by
  unfold Machine.exec at e
  cases c with
  | resetBegin => cases e; exact State.beginReset_seizesFollow s
  | resetEnd pins => cases e; exact State.endReset_seizesFollow s pins
  | testFrameOutcome w o => exact h.execTestFrameOutcome e
  | testFrameTimeout w => exact h.execTestFrameTimeout e
  | listenTimer w => exact h.act e fun _ hu => hu.guarded fun _ => hu.enterActive
  | loopSample w l b => exact h.execLoopSample e
  | offHook w l => exact h.act e fun _ hu => hu.offHookMark l
  | clear w l => exact h.act e fun _ hu => hu.clearMark l
  | digitComplete w l => exact h.act e fun _ hu => hu.thresholdMark l
  | firstEntryTimer w l => exact h.act e fun _ hu => hu.guarded fun _ => hu.lockout l
  | endOfDiallingTimer w l => exact h.execEndOfDiallingTimer e
  | huntTimer w l => exact h.act e fun _ hu => hu.guarded fun _ => (hu.lockout l).settle
  | frameStart w b => exact h.execFrameStart e
  | arbitrationLost w cell => exact h.execArbitrationLost e
  | transmitError w f => exact h.act e fun _ hu => hu.guarded fun _ => hu.transmitFails _
  | frameSent w => exact h.execFrameSent e
  | replySent w => exact h.execReplySent e
  | receiveError w f => exact h.act e fun _ hu => hu.guarded fun _ => hu.wireError _
  | stuckDominantAbort w => exact h.execStuckDominantAbort e
  | linkFailure w => exact h.execLinkFailure e
  | linkRecovery w => exact h.act e fun _ hu => hu.guarded fun _ => hu.setLink _
  | release w slot v cause check => exact h.execRelease e
  | objection w slot v line check => exact h.execObjection e
  | claim w slot v line check reply => exact h.execClaim e
  | retire w slot v cause check => exact h.execRetire e
  | restore w slot v check => exact h.execRestore e
  | report w slot count held retired flags check => exact h.execReport e
  | statusRequest w slot target page check => exact h.execStatusRequest e
  | blockLine w slot g a c => exact h.act e fun _ hu => hu.commandHeard slot g 1 a c
  | unblockLine w slot g a c => exact h.act e fun _ hu => hu.commandHeard slot g 2 a c
  | retireTrunk w slot g a c => exact h.act e fun _ hu => hu.commandHeard slot g 3 a c
  | restoreTrunk w slot g a c => exact h.act e fun _ hu => hu.commandHeard slot g 4 a c
  | resetProfile w slot g a c => exact h.act e fun _ hu => hu.commandHeard slot g 5 a c
  | clearCounts w slot g a c => exact h.act e fun _ hu => hu.commandHeard slot g 6 a c
  | restart w slot g a c => exact h.act e fun _ hu => hu.commandHeard slot g 7 a c
  | frameEof w => exact h.execFrameEof e
  | absence w p => exact h.act e fun _ hu => hu.guarded fun _ => State.SeizesFollow.settle (hu.of_same ⟨rfl, rfl, rfl⟩)
  | reportInterval w => exact h.act e fun _ hu => hu.guarded fun _ => hu.of_same (by simp)
  | releaseGuardExpiry w v => exact h.act e fun _ hu => hu.guarded fun _ => hu.settle
  | probeRequest w => exact h.execProbeRequest e
  | graceTimer w => exact h.act e fun _ hu => hu.guarded fun _ => hu.of_same (by simp [State.placeIsolatedProbe])
  | isolatedProbeTimer w => exact h.act e fun _ hu => hu.guarded fun _ => hu.of_same (by simp [State.placeIsolatedProbe])
  | homeTrunkMark w => exact h.act e fun _ hu => hu.guarded fun _ => hu.settle
  | busyQuietMark w => exact h.act e fun _ hu => hu.guarded fun _ => hu.settle
  | rejoinTimer w => exact h.act e fun _ hu => hu.guarded fun _ => hu.enterActive
  | trunkInputSample w v pts clr busy => exact h.execTrunkInputSample e
  | proceedToSend w v => exact h.execProceedToSend e
  | switchClear w v => exact h.execSwitchClear e
  | ptsTimer w v => exact h.execPtsTimer e
  | probeTimer w v => exact h.execProbeTimer e
  | breakTimer w v => exact h.execBreakTimer e
  | probeInterval w v => exact h.execProbeInterval e
  | crosspointShiftEnd w => exact h.execCrosspointShiftEnd e
  | toneSample w i => exact h.execToneSample e
  | burstEnd w i => exact h.act e fun _ hu => hu.guarded fun _ => hu.of_same (by simp)
  | gapEnd w i => exact h.act e fun _ hu => hu.guarded fun _ => (hu.codeBoundary i).settleSenders
  | recallSilenceEnd w i => exact h.execRecallSilenceEnd e
  | receiverIdle w => exact h.act e fun _ hu => hu.guarded fun _ => hu.setLink _
  | unlistedCommand w slot g code a c => exact h.execUnlistedCommand e

/-- Every step keeps it that seize follows the sessions. -/
theorem step (e : step s = .next t) : t.SeizesFollow := by
  rcases step_cases e with ⟨_, _, rfl⟩ | ⟨x, rest, _, _, read⟩ | ⟨c, rest, _, taken⟩
  · exact h
  · have queued : State.SeizesFollow { s with wire := rest } := h.of_same ⟨rfl, rfl, rfl⟩
    exact queued.act read fun _ hu => hu.readWire x.dominant
  · exact State.SeizesFollow.exec (s := { s with pending := rest }) (h.of_same ⟨rfl, rfl, rfl⟩) taken

end
end State.SeizesFollow

/-- Settles O58: each step keeps that seize follows the sessions, and the laws of sessions, claim and station with it. -/
theorem everyStepKeepsSeizuresExact : Obligations.EveryStepKeepsSeizuresExact := by
  unfold Obligations.EveryStepKeepsSeizuresExact
  rintro s t ⟨follow, owned, claim, isolated⟩ e
  obtain ⟨owned', claim', isolated'⟩ := ownedKept.step ⟨owned, claim, isolated⟩ e
  exact ⟨State.SeizesFollow.step follow e, owned', claim', isolated'⟩

end Sys2Proof.Machine
end

section
/-! O50: a peer not heard for 6.5 s is absent (R111). -/

namespace Sys2Proof.Machine
open Sys2Proof

/-! ## What settling spares -/

section
variable {s : State}

/-- Settling touches no more of an entry than its count, but where it takes the home trunk in ISOLATED (R125, R147). -/
theorem State.settle_entry_but_seizures {v : Trunk} (spared : s.ctl.station ≠ .isolated ∨ v ≠ s.slot) :
    s.settle.entry v = { s.entry v with seizures := (s.settle.entry v).seizures } := by
  rcases s.settle_entries with same | ⟨isolated, -, m, taken⟩
  · rw [same]
  · have other : v ≠ s.slot := spared.resolve_left (not_not_intro isolated)
    rw [taken, State.raiseCount_other _ _ _ other]
    simp [State.makeOwn, other]

/-! ## Absence -/

theorem TrunkEntry.peerGone_holds (e : TrunkEntry) (p : Slot) (time : Nat) :
    (e.peerGone p time).holding = (if e.isHeldBy p then .free else e.holding) ∧
    (e.isHeldBy p = true → (e.peerGone p time).freeSince = time) ∧
    (e.peerGone p time).retiredBy = (if e.retiredBy = some p then none else e.retiredBy) := by
  unfold TrunkEntry.peerGone
  cases held : e.isHeldBy p <;> by_cases retired : e.retiredBy = some p <;> simp [TrunkEntry.freed, retired]

theorem State.makeAbsent_entry (p : Slot) {u : Trunk} (fitted : s.fitted u = true) :
    (s.makeAbsent p).entry u = (s.entry u).peerGone p s.scanTime := by
  simp [State.makeAbsent, State.entry, State.setView, State.setPeer, fitted]

theorem State.makeAbsent_peer (p q : Slot) : (s.makeAbsent p).peer q = if q = p then Presence.reset else s.peer q := by
  rw [State.makeAbsent, State.setPeer_peer]
  rfl

/-- An absence falls due 6.5 s after the peer was heard last (R111). -/
theorem exec_absence {w h : Nat} {p : Slot} (run : s.running = true) (peer : p ≠ s.slot)
    (heard : (s.peer p).heard = some h) (late : h + 6500 ≤ max s.now w / 64) :
    exec (.absence w p) s = .next ((s.advance w).makeAbsent p).settle := by
  have falls : due ((s.peer p).heard.map (· + absenceTime)) (s.advance w).scanTime = true := by
    exact heard ▸ decide_eq_true late
  refine (State.act_running w _ run).trans ?_
  exact congrArg _ (if_pos ⟨peer, falls⟩)
end

/-- Settles O50: the absence takes the peer's presence, holds and retirements, and settling spares what it left. -/
theorem absenceForgetsThePeer : Obligations.AbsenceForgetsThePeer := by
  unfold Obligations.AbsenceForgetsThePeer
  intro s w h p run peer heard late
  refine ⟨_, exec_absence run peer heard late, ?_, fun q other => ?_, fun u fitted spared => ?_, ?_⟩
  · rw [State.settle_peer, State.makeAbsent_peer, if_pos rfl]
    rfl
  · rw [State.settle_peer, State.makeAbsent_peer, if_neg other]
    rfl
  · have left : ((s.advance w).makeAbsent p).settle.entry u = { (s.entry u).peerGone p (max s.now w / 64) with
        seizures := (((s.advance w).makeAbsent p).settle.entry u).seizures } := by
      have gone := State.makeAbsent_entry (s := s.advance w) p (u := u) fitted
      rw [State.settle_entry_but_seizures (by simpa [State.slot] using spared), gone]
      rfl
    rw [left]
    exact (s.entry u).peerGone_holds p _
  · simp

end Sys2Proof.Machine
end

section
/-! Frames handed to the view at their EOD (R74, R97, R113, R198). -/

namespace Sys2Proof.Machine
open Sys2Proof

/-! ## What the marker decides -/

/-- A receiver that follows a frame to its EOD has not marked it as its own (R97). -/
theorem Link.Follows.unmarked {k : Link} {bytes : List Byte} {now : Nat} (h : k.Follows bytes now) : k.own = none := by
  obtain ⟨-, -, -, own, -⟩ := h
  exact own

section
variable {s : State} {p : Slot} {bytes : List Byte} {peers : State → State} (unmarked : s.link.own = none)
include unmarked

/-- The receiver in AFTER DATA leaves the marker as it was. -/
theorem Link.afterData_unmarked : { s.link.afterData bytes false s.now with own := none } =
    s.link.afterData bytes false s.now := by
  have own : (s.link.afterData bytes false s.now).own = none := by simpa [Link.afterData] using unmarked
  rw [← own]

/-- A peer's frame is applied whole, and the rest settled (R113, R118, R122). -/
theorem State.handToView_peer (peer : p ≠ s.slot) :
    s.handToView p bytes peers = (peers (s.setLink (s.link.afterData bytes false s.now))).settle := by
  rw [State.handToView, Link.afterData_unmarked unmarked]
  exact if_neg peer

/-- A frame with this station's slot that it did not send is a slot conflict (R198). -/
theorem State.handToView_conflict (own : p = s.slot) :
    s.handToView p bytes peers = (s.setLink (s.link.afterData bytes false s.now)).halt .slotConflict := by
  rw [State.handToView, Link.afterData_unmarked unmarked, unmarked]
  exact (if_pos own).trans (if_neg (by simp))
end

/-! ## The commands that hand a frame -/

section
variable {s : State} {w : Nat} {p : Slot} {u : Trunk} {x : Cause} (run : s.running = true)
include run

/-- A command that hears a valid frame which the receiver follows to its EOD hands it on. -/
theorem State.act_hear {f : LinkFrame} (valid : f.valid = true) (follows : s.link.Follows (encodeFrame f) (max s.now w))
    (handOn : LinkFrame → State → State) :
    s.act w (fun r => r.hear (encodeFrame f) handOn) = .next (handOn f (s.advance w)) :=
  (State.act_running w _ run).trans (congrArg _ (State.hear_of_follows valid follows handOn))

theorem exec_release_heard (valid : (LinkFrame.release p u x).valid = true)
    (follows : s.link.Follows (encodeFrame (.release p u x)) (max s.now w)) :
    exec (.release w (headerSlot p) (octalByte u) x.code
        (checkByte [header 1 (headerSlot p), octalByte u, x.code])) s =
      .next ((s.advance w).handToView p (encodeFrame (.release p u x))
        fun s => s.fromPeer p u fun s => s.applyRelease p u) :=
  State.act_hear run valid follows (fun _ _ => _)

theorem exec_retire_heard (valid : (LinkFrame.retire p u x).valid = true)
    (follows : s.link.Follows (encodeFrame (.retire p u x)) (max s.now w)) :
    exec (.retire w (headerSlot p) (octalByte u) x.code
        (checkByte [header 3 (headerSlot p), octalByte u, x.code])) s =
      .next ((s.advance w).handToView p (encodeFrame (.retire p u x))
        fun s => s.fromPeer p u fun s => s.applyRetire p u) :=
  State.act_hear run valid follows (fun _ _ => _)

theorem exec_restore_heard (follows : s.link.Follows (encodeFrame (.restore p u)) (max s.now w)) :
    exec (.restore w (headerSlot p) (octalByte u) (checkByte [header 4 (headerSlot p), octalByte u])) s =
      .next ((s.advance w).handToView p (encodeFrame (.restore p u))
        fun s => s.fromPeer p u fun s => s.applyRestore p u) :=
  State.act_hear run rfl follows (fun _ _ => _)

theorem exec_report_heard {n : Nat} {hm rm : Byte} {probe mm : Bool}
    (valid : (LinkFrame.report p n hm rm probe mm).valid = true)
    (follows : s.link.Follows (encodeFrame (.report p n hm rm probe mm)) (max s.now w)) :
    exec (.report w (headerSlot p) (BitVec.ofNat 8 n) hm rm (BitVec.ofNat 8 (bit probe + 2 * bit mm))
        (checkByte [header 5 (headerSlot p), BitVec.ofNat 8 n, hm, rm, BitVec.ofNat 8 (bit probe + 2 * bit mm)])) s =
      .next ((s.advance w).handToView p (encodeFrame (.report p n hm rm probe mm))
        fun s => if probe then s.countProbe else s.applyReport p n hm rm mm) :=
  State.act_hear run valid follows (fun _ _ => _)
end

end Sys2Proof.Machine
end

section
/-! O41: a peer's RELEASE, RETIRE and RESTORE (R113, R116, R117, R127). -/

namespace Sys2Proof.Machine
open Sys2Proof

/-! ## The three changes of an entry -/

section
variable (s : State) (p : Slot) (u : Trunk)

theorem State.applyRelease_entry : (s.applyRelease p u).entry u =
      (if (s.entry u).isHeldBy p then (s.entry u).freed s.scanTime else s.entry u) ∧
    (s.applyRelease p u).view.staleReleases =
      (if (s.entry u).isHeldBy p then s.view.staleReleases else counted s.view.staleReleases) := by
  unfold State.applyRelease
  split
  · exact ⟨by simp, rfl⟩
  · exact ⟨rfl, rfl⟩

theorem State.applyRelease_presence : (s.applyRelease p u).view.presence = s.view.presence := by
  unfold State.applyRelease
  split <;> rfl

theorem State.applyRetire_presence : (s.applyRetire p u).view.presence = s.view.presence := by
  unfold State.applyRetire
  split <;> rfl

theorem State.applyRestore_presence : (s.applyRestore p u).view.presence = s.view.presence := by
  unfold State.applyRestore
  split <;> rfl

theorem State.applyRestore_entry (v : Trunk) : (s.applyRestore p u).entry v = if v = u then { s.entry u with
    retiredBy := if (s.entry u).retiredBy = some p then none else (s.entry u).retiredBy } else s.entry v := by
  unfold State.applyRestore
  split
  · simp [State.setRetiredBy]
  · split
    · subst v; rfl
    · rfl
end

/-! ## What all three leave -/

/-- From `s` to `t` a peer's frame on trunk `u` changes the view alone; of the trunk's entry its failures and its
busy-mismatch stand. -/
structure State.Teaches (s t : State) (u : Trunk) : Prop where
  rest : t.ctl = s.ctl ∧ t.iso = s.iso ∧ t.scan = s.scan ∧ t.dec = s.dec ∧ t.lko = s.lko ∧ t.link = s.link
  entry : (t.entry u).failures = (s.entry u).failures ∧ (t.entry u).busyMismatch = (s.entry u).busyMismatch

section
variable {s : State} {p : Slot} {u : Trunk}

theorem State.teaches_applyRelease : s.Teaches (s.applyRelease p u) u where
  rest := by simp
  entry := by
    rw [(s.applyRelease_entry p u).1]
    split <;> exact ⟨rfl, rfl⟩

theorem State.teaches_applyRetire : s.Teaches (s.applyRetire p u) u where
  rest := by simp
  entry := by rw [State.applyRetire_entry, if_pos rfl]; exact ⟨rfl, rfl⟩

theorem State.teaches_applyRestore : s.Teaches (s.applyRestore p u) u where
  rest := by simp
  entry := by rw [State.applyRestore_entry, if_pos rfl]; exact ⟨rfl, rfl⟩

/-! ## A peer's frame on one trunk -/

section
variable {apply : State → State}

theorem State.refresh_stale (p : Slot) : (s.refresh p).view.staleReleases = s.view.staleReleases := by
  unfold State.refresh
  split <;> rfl

/-- What the frame says is applied to a fitted trunk's entry, the peer refreshed (R113). -/
theorem State.fromPeer_fitted (fitted : s.fitted u = true) : s.fromPeer p u apply = apply (s.refresh p) := by
  rw [State.fromPeer]
  exact if_pos ((State.refresh_fitted p).trans fitted)

/-- For a trunk that is not fitted the peer's mismatch is set instead (R127). -/
theorem State.fromPeer_unfitted (unfitted : s.fitted u = false) :
    s.fromPeer p u apply = (s.refresh p).setMismatch p true := by
  rw [State.fromPeer]
  exact if_neg (by rw [State.refresh_fitted, unfitted]; simp)

theorem State.fromPeer_view_unfitted (unfitted : s.fitted u = false) :
    (s.fromPeer p u apply).entry u = s.entry u ∧ (s.fromPeer p u apply).view.staleReleases = s.view.staleReleases := by
  rw [State.fromPeer_unfitted unfitted]
  exact ⟨congrFun (State.refresh_entry p) u, State.refresh_stale p⟩

/-- The peer is heard, and named for a mismatch where the trunk is not fitted (R113, R127). -/
theorem State.fromPeer_peer (silent : ∀ r : State, (apply r).view.presence = r.view.presence) (peer : p ≠ s.slot)
    (q : Slot) : (s.fromPeer p u apply).peer q = if q = p then { s.peer p with
      heard := some s.scanTime, mismatch := !s.fitted u || (s.peer p).mismatch } else s.peer q := by
  have refreshed := State.refresh_peer s p q
  cases fitted : s.fitted u with
  | true =>
    rw [State.fromPeer_fitted fitted, State.peer, silent]
    refine refreshed.trans ?_
    by_cases hq : q = p
    · subst hq; simp [peer]
    · simp [hq]
  | false =>
    rw [State.fromPeer_unfitted fitted, State.setMismatch, State.setPeer_peer]
    by_cases hq : q = p
    · subst hq; simp [peer, State.refresh_peer]
    · simp [hq, refreshed]

theorem State.fromPeer_teaches (teaches : ∀ r : State, r.Teaches (apply r) u) : s.Teaches (s.fromPeer p u apply) u := by
  cases fitted : s.fitted u with
  | true =>
    obtain ⟨rest, entry⟩ := teaches (s.refresh p)
    rw [State.fromPeer_fitted fitted]
    exact ⟨by simpa using rest, by simpa [State.refresh_entry] using entry⟩
  | false =>
    obtain ⟨entry, -⟩ := State.fromPeer_view_unfitted (p := p) (apply := apply) fitted
    refine ⟨?_, congrArg _ entry, congrArg _ entry⟩
    simp [State.fromPeer_unfitted fitted]
end

/-! ## What each of the three says -/

theorem State.fromPeer_applyRelease : (s.fromPeer p u fun r => r.applyRelease p u).entry u =
      (if s.fitted u = true ∧ (s.entry u).isHeldBy p = true then (s.entry u).freed s.scanTime else s.entry u) ∧
    (s.fromPeer p u fun r => r.applyRelease p u).view.staleReleases =
      (if s.fitted u = true ∧ (s.entry u).isHeldBy p = false then counted s.view.staleReleases
        else s.view.staleReleases) := by
  cases fitted : s.fitted u with
  | true =>
    obtain ⟨entry, stale⟩ := (s.refresh p).applyRelease_entry p u
    have time : (s.refresh p).scanTime = s.scanTime := by simp [State.scanTime]
    rw [State.refresh_entry, time] at entry
    rw [State.refresh_entry, State.refresh_stale] at stale
    rw [State.fromPeer_fitted fitted, entry, stale]
    cases (s.entry u).isHeldBy p <;> simp
  | false => simpa using State.fromPeer_view_unfitted fitted

theorem State.fromPeer_applyRetire : (s.fromPeer p u fun r => r.applyRetire p u).entry u = { s.entry u with
    retiredBy := if s.fitted u = false ∨ (s.entry u).retiredBy = some s.slot then (s.entry u).retiredBy
      else some p } := by
  cases fitted : s.fitted u with
  | true =>
    rw [State.fromPeer_fitted fitted, State.applyRetire_entry, if_pos rfl, State.refresh_entry, State.refresh_slot]
    by_cases retired : (s.entry u).retiredBy = some s.slot <;> simp [retired]
  | false => rw [(State.fromPeer_view_unfitted fitted).1, if_pos (.inl rfl)]

theorem State.fromPeer_applyRestore : (s.fromPeer p u fun r => r.applyRestore p u).entry u = { s.entry u with
    retiredBy := if s.fitted u = true ∧ (s.entry u).retiredBy = some p then none else (s.entry u).retiredBy } := by
  cases fitted : s.fitted u with
  | true =>
    rw [State.fromPeer_fitted fitted, State.applyRestore_entry, if_pos rfl, State.refresh_entry]
    simp
  | false => rw [(State.fromPeer_view_unfitted fitted).1, if_neg (by simp)]

/-! ## The frame heard, and the rest settled -/

/-- From `s` to `t` a peer's frame of these bytes on trunk `u` is heard at `n` (R74, R113, R127): the peer's presence
refreshed, with a mismatch where the trunk is not fitted, and the receiver in AFTER DATA. -/
def State.HeardFrom (s t : State) (p : Slot) (u : Trunk) (n : Nat) (bytes : List Byte) : Prop :=
  (t.peer p).heard = some (n / 64) ∧ (t.peer p).trunkCount = (s.peer p).trunkCount ∧
  (t.peer p).mismatch = (!s.fitted u || (s.peer p).mismatch) ∧ (∀ q, q ≠ p → t.peer q = s.peer q) ∧
  t.link = { s.link.recessive (n - 2 * 8) with
    rx := .afterData, mayReply := false, frameBuf := bytes, replyBuf := [], bits := [], replyDriven := false } ∧
  t.ctl = s.ctl ∧ t.iso = s.iso ∧ t.scan = s.scan ∧ t.dec = s.dec ∧ t.lko = s.lko ∧
  (t.entry u).failures = (s.entry u).failures ∧ (t.entry u).busyMismatch = (s.entry u).busyMismatch

/-- The state at `w` in which the view takes up a frame of these bytes, its receiver in AFTER DATA (R74). -/
def State.atEod (s : State) (w : Nat) (bytes : List Byte) : State :=
  (s.advance w).setLink (s.link.afterData bytes false (max s.now w))

section
variable {w : Nat} {bytes : List Byte} {apply : State → State}

/-- A peer's frame on one trunk is heard, and what it says of the entry stands when the rest is settled. -/
theorem State.fromPeer_settles (silent : ∀ r : State, (apply r).view.presence = r.view.presence)
    (teaches : ∀ r : State, r.Teaches (apply r) u) (peer : p ≠ s.slot)
    (spared : s.ctl.station ≠ .isolated ∨ u ≠ s.slot) :
    s.HeardFrom ((s.atEod w bytes).fromPeer p u apply).settle p u (max s.now w) bytes ∧
    (((s.atEod w bytes).fromPeer p u apply).settle.entry u).holding =
      (((s.atEod w bytes).fromPeer p u apply).entry u).holding ∧
    (((s.atEod w bytes).fromPeer p u apply).settle.entry u).freeSince =
      (((s.atEod w bytes).fromPeer p u apply).entry u).freeSince ∧
    (((s.atEod w bytes).fromPeer p u apply).settle.entry u).retiredBy =
      (((s.atEod w bytes).fromPeer p u apply).entry u).retiredBy := by
  have heard := State.fromPeer_peer (s := s.atEod w bytes) (p := p) (u := u) silent peer
  obtain ⟨⟨ctl, iso, scan, dec, lko, link⟩, failures, mismatch⟩ :=
    State.fromPeer_teaches (s := s.atEod w bytes) (p := p) teaches
  generalize (s.atEod w bytes).fromPeer p u apply = r at *
  have left : r.settle.entry u = { r.entry u with seizures := (r.settle.entry u).seizures } :=
    State.settle_entry_but_seizures (by rw [State.slot, ctl]; exact spared)
  obtain ⟨settledLink, settledCtl, settledIso, settledScan, settledDec, settledLko⟩ : r.settle.link = r.link ∧
      r.settle.ctl = r.ctl ∧ r.settle.iso = r.iso ∧ r.settle.scan = r.scan ∧ r.settle.dec = r.dec ∧
      r.settle.lko = r.lko := by simp
  rw [left]
  refine ⟨⟨?_, ?_, ?_, fun q other => ?_, settledLink.trans link, settledCtl.trans ctl, settledIso.trans iso,
    settledScan.trans scan, settledDec.trans dec, settledLko.trans lko, ?_, ?_⟩, rfl, rfl, rfl⟩
  · rw [State.settle_peer, heard, if_pos rfl]; rfl
  · rw [State.settle_peer, heard, if_pos rfl]; rfl
  · rw [State.settle_peer, heard, if_pos rfl]; rfl
  · rw [State.settle_peer, heard, if_neg other]; rfl
  · rw [left]; exact failures
  · rw [left]; exact mismatch
end
end

/-- Settles O41: the peer is refreshed, the entry changed as the frame says, and settling spares what was learnt. -/
theorem releaseRetireAndRestoreTeachTheView : Obligations.ReleaseRetireAndRestoreTeachTheView := by
  unfold Obligations.ReleaseRetireAndRestoreTeachTheView
  intro s w p u x run peer spared heard
  refine ⟨fun cause follows => ?_, fun cause follows => ?_, fun follows => ?_⟩
  · have valid : (LinkFrame.release p u x).valid = true := by simpa [LinkFrame.valid] using cause
    obtain ⟨told, holding, since, retired⟩ := State.fromPeer_settles (w := w) (bytes := encodeFrame (.release p u x))
      (fun r => r.applyRelease_presence p u) (fun _ => State.teaches_applyRelease) peer spared
    obtain ⟨entry, stale⟩ := State.fromPeer_applyRelease (s := s.atEod w (encodeFrame (.release p u x))) (p := p) (u := u)
    rw [entry] at holding since retired
    obtain ⟨-, -, stands, -⟩ := State.settle_inner ((s.atEod w (encodeFrame (.release p u x))).fromPeer p u
      fun r => r.applyRelease p u)
    have settled := stands.trans stale
    refine ⟨_, (exec_release_heard run valid follows).trans (congrArg _ (State.handToView_peer follows.unmarked peer)),
      told, retired.trans ?_, fun fitted held => ?_, fun fitted other => ?_, fun unfitted => ?_⟩
    · split <;> rfl
    · rw [if_pos ⟨fitted, held⟩] at holding since
      exact ⟨holding, since, settled.trans (if_neg fun ⟨_, unheld⟩ => Bool.noConfusion (held.symm.trans unheld))⟩
    · rw [if_neg fun ⟨_, held⟩ => Bool.noConfusion (held.symm.trans other)] at holding
      exact ⟨holding, settled.trans (if_pos ⟨fitted, other⟩)⟩
    · rw [if_neg fun ⟨fitted, _⟩ => Bool.noConfusion (fitted.symm.trans unfitted)] at holding
      exact ⟨holding, settled.trans (if_neg fun ⟨fitted, _⟩ => Bool.noConfusion (fitted.symm.trans unfitted))⟩
  · have valid : (LinkFrame.retire p u x).valid = true := by simpa [LinkFrame.valid] using cause
    obtain ⟨told, holding, -, retired⟩ := State.fromPeer_settles (w := w) (bytes := encodeFrame (.retire p u x))
      (fun r => r.applyRetire_presence p u) (fun _ => State.teaches_applyRetire) peer spared
    rw [State.fromPeer_applyRetire] at holding retired
    exact ⟨_, (exec_retire_heard run valid follows).trans (congrArg _ (State.handToView_peer follows.unmarked peer)),
      told, holding, retired⟩
  · obtain ⟨told, holding, -, retired⟩ := State.fromPeer_settles (w := w) (bytes := encodeFrame (.restore p u))
      (fun r => r.applyRestore_presence p u) (fun _ => State.teaches_applyRestore) peer spared
    rw [State.fromPeer_applyRestore] at holding retired
    exact ⟨_, (exec_restore_heard run follows).trans (congrArg _ (State.handToView_peer follows.unmarked peer)),
      told, holding, retired⟩

end Sys2Proof.Machine
end

section
/-! O49: a frame or objection with this station's slot that it did not send is a slot conflict (R198, R205). -/

namespace Sys2Proof.Machine
open Sys2Proof

/-! ## The halt -/

/-- From `s` to `t` the station halts in SLOT CONFLICT (R205): ALARM on and READY off, the link OFF, every queue, session,
seize and connect state cleared, the senders freed; records, counters and the hunt queue stand. -/
def State.HaltsInConflict (s t : State) : Prop :=
  t.ctl = { s.ctl with station := .slotConflict, ready := false, alarm := true, restartDue := false } ∧
  t.link.mode = .off ∧ t.link.own = none ∧ t.link.reply = none ∧
  t.tx = { frames := [], flight := none, waiting := none } ∧ t.hunt = { s.hunt with claim := none } ∧
  (∀ v, t.session v = none ∧ (∀ l, t.closed l v = false)) ∧ (∀ v : Trunk, t.sup.seize[v] = false) ∧
  (∀ i, (t.sender i).state = .free ∧ (t.sender i).trunk = none ∧ (t.sender i).output = 512 ∧
    (t.sender i).select = none) ∧ t.arb.requests = [] ∧
  (∀ l : Line, t.ldt[l] = false ∧ t.lko[l] = false) ∧ t.view = { s.view with reportInterval := none } ∧
  t.calls = s.calls ∧ t.dec = s.dec ∧
  t.scan = s.scan ∧ t.iso = s.iso ∧ t.sup.inputs = s.sup.inputs ∧ (∃ sh, t.sup.shift = some sh)

/-- The connect states that a halt clears are shifted out at once (R168, R171). -/
theorem State.halt_shifts (s : State) (st : StationState) : ∃ sh, (s.halt st).sup.shift = some sh := by
  have called (x : Supervisor) (n : Nat) : ∃ sh, (x.shiftCalled n).shift = some sh := by
    unfold Supervisor.shiftCalled
    split <;> exact ⟨_, rfl⟩
  exact called _ _

/-- A halt in SLOT CONFLICT is the same whatever the receiver has read. -/
theorem State.haltsInConflict (s : State) (w : Nat) (k : Link) :
    s.HaltsInConflict ((s.atClaimEof w k).halt .slotConflict) := by
  have shifts := (s.atClaimEof w k).halt_shifts .slotConflict
  have sender (i : Fin 2) : ((s.atClaimEof w k).halt .slotConflict).sender i = (s.sender i).freed := by
    simp [State.sender, State.halt, State.atClaimEof]
  refine ⟨?_, ?_, ?_, ?_, ?_, ?_, fun v => ⟨?_, fun l => ?_⟩, fun v => ?_, fun i => ?_, ?_, fun l => ⟨?_, ?_⟩, ?_, ?_, ?_,
    ?_, ?_, ?_, shifts⟩
  case refine_1 => rfl
  case refine_10 => rw [sender]; exact ⟨rfl, rfl, rfl, rfl⟩
  all_goals simp [State.halt, State.atClaimEof, State.session, State.closed, Control.enter, TxQueue.flushed]

/-! ## The frames that take no reply -/

section
variable {s : State} {w : Nat}

theorem State.handToView_halts {bytes : List Byte} {peers : State → State} (unmarked : s.link.own = none) :
    s.HaltsInConflict ((s.advance w).handToView s.slot bytes peers) := by
  rw [State.handToView_conflict (s := s.advance w) (p := s.slot) unmarked rfl]
  exact s.haltsInConflict w _

/-! ## The CLAIM -/

section
variable {p : Slot} {u : Trunk} {line : Option Line} {reply : Option (List Byte)}

/-- A CLAIM held at its EOF with a whole reply is judged by that reply (R76, R99). -/
theorem exec_claim_judged (run : s.running = true)
    (holds : s.link.Holds (encodeFrame (.claim p u line)) reply (max s.now w))
    (good : ∀ b, reply = some b → checkGood b = true) :
    ∃ x, exec (.claim w (headerSlot p) (octalByte u) (line.elim 8 octalByte)
        (checkByte [header 2 (headerSlot p), octalByte u, line.elim 8 octalByte]) reply) s =
      .next (((s.advance w).receiverIn x).claimAtEof p u line (judgeReply p reply)) := by
  obtain ⟨x, judged, held⟩ := State.replyEod_of_holds (s := s.advance w) holds good
  obtain ⟨sound, read⟩ := framesAndBytesAgree.1 (.claim p u line) rfl
  have parsed : (if checkGood (encodeFrame (.claim p u line)) = true then parseFrame (encodeFrame (.claim p u line))
      else none) = some (.claim p u line) := (if_pos sound).trans read
  have bytes : [header 2 (headerSlot p), octalByte u, line.elim 8 octalByte,
      checkByte [header 2 (headerSlot p), octalByte u, line.elim 8 octalByte]] = encodeFrame (.claim p u line) := rfl
  refine ⟨x, ?_⟩
  rw [exec, execClaim, State.act_running _ _ run]
  dsimp only
  rw [judged, bytes, parsed]
  refine congrArg _ ?_
  exact (if_pos (Link.holdsClaim_of_holds held)).trans (if_neg (judgeReply_ne_damaged good))

/-- A CLAIM with this station's slot, neither its own nor refused, is a slot conflict (R198). -/
theorem State.claimAtEof_conflict {outcome : ClaimOutcome} (unmarked : s.link.own = none)
    (unrefused : outcome ≠ .refused) :
    s.claimAtEof s.slot u line outcome = (s.setLink (s.link.afterEof s.now)).halt .slotConflict := by
  simp only [State.claimAtEof, if_neg unrefused, unmarked]
  exact (if_pos rfl).trans (if_neg (by simp))

/-- An objection in this station's slot that it did not drive is a slot conflict (R198). -/
theorem State.claimAtEof_undriven {code : Nat} (peer : p ≠ s.slot) (undriven : s.link.replyDriven = false) :
    s.claimAtEof p u line (.voided code s.slot) = (s.setLink (s.link.afterEof s.now)).halt .slotConflict := by
  simp only [State.claimAtEof, undriven]
  exact (if_neg peer).trans (if_pos ⟨rfl, rfl⟩)

/-- The replies to a CLAIM with this station's slot that leave it effective or voided (R99). -/
theorem judgeReply_ne_refused (answered : reply = none ∨ ∃ o code, o ≠ p ∧ (code = 1 ∨ code = 2) ∧
    reply = some (withCheck [header code (headerSlot o)])) : judgeReply p reply ≠ .refused := by
  rcases answered with rfl | ⟨o, code, other, listed, rfl⟩
  · simp [judgeReply_none]
  · simp [judgeReply_objection other listed]
end
end

/-- Settles O49: each of the frames is handed on with this station's slot and no marker, and each CLAIM judged so. -/
theorem ownSlotHeardFromAnotherHalts : Obligations.OwnSlotHeardFromAnotherHalts := by
  unfold Obligations.OwnSlotHeardFromAnotherHalts
  rintro s w u x run c (⟨f, valid, follows, frame⟩ | ⟨p, line, reply, unmarked, holds, rfl, conflict⟩)
  · have halts {bytes peers} : s.HaltsInConflict ((s.advance w).handToView s.slot bytes peers) :=
      State.handToView_halts follows.unmarked
    rcases frame with ⟨rfl, rfl⟩ | ⟨rfl, rfl⟩ | ⟨rfl, rfl⟩ | ⟨n, hm, rm, probe, mm, rfl, rfl⟩
    · exact ⟨_, exec_release_heard run valid follows, halts⟩
    · exact ⟨_, exec_retire_heard run valid follows, halts⟩
    · exact ⟨_, exec_restore_heard run follows, halts⟩
    · exact ⟨_, exec_report_heard run valid follows, halts⟩
  · rcases conflict with ⟨rfl, answered⟩ | ⟨peer, undriven, code, listed, rfl⟩
    · have good (b : List Byte) (whole : reply = some b) : checkGood b = true := by
        rcases answered with rfl | ⟨o, code, -, -, rfl⟩
        · cases whole
        · cases whole; exact checkGood_withCheck _
      obtain ⟨y, judged⟩ := exec_claim_judged run holds good
      refine ⟨_, judged.trans (congrArg _ (State.claimAtEof_conflict unmarked (judgeReply_ne_refused answered))), ?_⟩
      exact s.haltsInConflict w _
    · obtain ⟨y, judged⟩ := exec_claim_judged run holds fun b whole => by
        cases whole; exact checkGood_withCheck _
      rw [judgeReply_objection peer.symm listed] at judged
      refine ⟨_, judged.trans (congrArg _ (State.claimAtEof_undriven peer undriven)), ?_⟩
      exact s.haltsInConflict w _

end Sys2Proof.Machine
end

section
/-! One place of a REPORT's maps: what it leaves of the other trunks and of the station (R118 to R120, R162). -/

namespace Sys2Proof.Machine
open Sys2Proof

/-! ## What leaves a trunk alone -/

/-- From `s` to `r` trunk `u` is left alone: its entry, its session and its seize stand, a RELEASE it has to send after a
yield is kept, and a call in LOCKOUT stays there. -/
structure State.PassesBy (s r : State) (u : Trunk) : Prop where
  entry : r.entry u = s.entry u
  session : r.session u = s.session u
  seize : r.sup.seize[u] = s.sup.seize[u]
  release : s.tx.Carries (.release u .yield) → r.tx.Carries (.release u .yield)
  lockout : ∀ l : Line, (s.call l).state = .lockout ∧ s.lko[l] = true → (r.call l).state = .lockout ∧ r.lko[l] = true

/-- From `s` to `r` the view has read a map: the frame of the station stands, the presence and the count of probe reports
with it, and no dual hold is uncounted. -/
structure State.ReadsMap (s r : State) : Prop where
  frame : r.now = s.now ∧ r.ctl = s.ctl ∧ r.iso = s.iso ∧ r.scan = s.scan ∧ r.link = s.link
  presence : r.view.presence = s.view.presence
  probes : r.view.probeReports = s.view.probeReports
  dual : s.view.dualHolds ≤ r.view.dualHolds

section
variable {s r t : State} {u v : Trunk} {p : Slot}

theorem State.PassesBy.refl : s.PassesBy s u := ⟨rfl, rfl, rfl, id, fun _ => id⟩

theorem State.PassesBy.trans (h : s.PassesBy r u) (g : r.PassesBy t u) : s.PassesBy t u :=
  ⟨g.entry.trans h.entry, g.session.trans h.session, g.seize.trans h.seize, fun c => g.release (h.release c),
    fun l out => g.lockout l (h.lockout l out)⟩

/-- What changes no more than the entries of other trunks and the records that tell nothing of trunks leaves `u` alone. -/
theorem State.PassesBy.of_same (entry : r.entry u = s.entry u) (same : r.sup.sessions = s.sup.sessions ∧
    r.sup.seize = s.sup.seize ∧ r.tx = s.tx ∧ r.calls = s.calls ∧ r.lko = s.lko) : s.PassesBy r u := by
  obtain ⟨sessions, seize, tx, calls, lko⟩ := same
  exact ⟨entry, by simp [State.session, sessions], by rw [seize], tx ▸ id, fun l => by simp [State.call, calls, lko]⟩

theorem State.ReadsMap.refl : s.ReadsMap s := ⟨⟨rfl, rfl, rfl, rfl, rfl⟩, rfl, rfl, BitVec.le_refl _⟩

theorem State.ReadsMap.trans (h : s.ReadsMap r) (g : r.ReadsMap t) : s.ReadsMap t := by
  obtain ⟨now, ctl, iso, scan, link⟩ := h.frame
  obtain ⟨now', ctl', iso', scan', link'⟩ := g.frame
  exact ⟨⟨now'.trans now, ctl'.trans ctl, iso'.trans iso, scan'.trans scan, link'.trans link⟩,
    g.presence.trans h.presence, g.probes.trans h.probes, BitVec.le_trans h.dual g.dual⟩

theorem State.ReadsMap.slot (h : s.ReadsMap r) : r.slot = s.slot := by
  obtain ⟨-, ctl, -⟩ := h.frame
  rw [State.slot, ctl]
  rfl

theorem State.ReadsMap.scanTime (h : s.ReadsMap r) : r.scanTime = s.scanTime := by
  obtain ⟨now, -⟩ := h.frame
  rw [State.scanTime, now]
  rfl

/-! ## A hold learnt -/

theorem le_counted (x : Byte) : x ≤ counted x := by
  unfold counted
  split
  · exact BitVec.le_refl _
  · bv_omega

theorem State.Carries.placed {f g : TxFrame} (h : s.tx.Carries f) (other : f.key ≠ g.key) :
    (s.place g).tx.Carries f := TxQueue.Carries.place h other

theorem State.Carries.releaseTrunk {f : TxFrame} {cause : Cause} (h : s.tx.Carries f) (other : f.key ≠ .release v) :
    (s.releaseTrunk v cause).tx.Carries f := by
  have before : (((((s.setSeize v false).openTrunk v).abortSenders v).setSession v none).freeOwn v).tx = s.tx := by simp
  rw [State.releaseTrunk]
  refine State.Carries.placed ?_ other
  rw [before]
  exact h

/-- The end of a session leaves every other trunk alone (R160, R163). -/
theorem State.passesBy_endSession (other : u ≠ v) (cause : Cause) : s.PassesBy (s.endSession v cause) u := by
  have released := s.releases_endSession v cause
  have kept (h : s.tx.Carries (.release u .yield)) : (s.releaseTrunk v cause).tx.Carries (.release u .yield) :=
    State.Carries.releaseTrunk h (by simpa [TxFrame.key] using other)
  refine ⟨s.endSession_other cause other, by rw [released.session, if_neg other], by rw [released.seize, if_neg other],
    fun h => ?_, fun l => by simp [State.call]⟩
  unfold State.endSession
  split
  · exact State.Carries.retireSelf v .maintenance (kept h) (by simp [TxFrame.key])
  · exact kept h

/-- A line's entry to LOCKOUT leaves every trunk alone. -/
theorem State.passesBy_lockout (l : Line) : s.PassesBy (s.lockout l) u := by
  refine ⟨by simp [State.entry], by simp [State.session], by simp, fun h => ?_, fun m ⟨state, lko⟩ => ⟨?_, ?_⟩⟩
  · rw [(s.lockout_hunt l).2]
    exact State.carries_huntDrop h (by simp [TxFrame.key]) l
  · rw [State.lockout_call]
    split
    · rfl
    · exact state
  · refine (s.lockout_lko l m).trans ?_
    split
    · rfl
    · exact lko

theorem State.passesBy_makeHeld (other : u ≠ v) (line : Option Line) : s.PassesBy (s.makeHeld v p line) u :=
  .of_same (by rw [State.makeHeld_entry, if_neg other]) (by simp)

theorem State.passesBy_yieldTo (other : u ≠ v) : s.PassesBy (s.yieldTo v p) u := by
  have held : s.PassesBy (s.makeHeld v p none) u := State.passesBy_makeHeld other none
  have yielded : s.PassesBy (s.yielded v p) u := held.trans (State.passesBy_endSession other .yield)
  rcases s.yieldTo_cases v p with ⟨-, ended⟩ | ⟨ses, -, ⟨l, -, ended⟩ | ⟨-, ended⟩⟩ <;> rw [ended]
  · exact held
  · exact yielded.trans (State.passesBy_lockout l)
  · exact yielded.trans (.of_same (by simp [State.entry]) (by simp))

theorem State.passesBy_learnHeld (other : u ≠ v) : s.PassesBy (s.learnHeld v p) u := by
  have counted : s.PassesBy s.countDual u := .of_same rfl ⟨rfl, rfl, rfl, rfl, rfl⟩
  cases own : (s.entry v).isOwn with
  | false =>
    rw [State.learnHeld_of_other s p v own]
    split
    · exact .refl
    · exact State.passesBy_makeHeld other none
  | true =>
    rw [State.learnHeld_of_own s p v own]
    split
    · exact counted
    · exact counted.trans (State.passesBy_yieldTo other)

theorem State.readsMap_learnHeld : s.ReadsMap (s.learnHeld v p) := by
  obtain ⟨presence, -, -⟩ := s.learnHeld_keeps v p
  have probes (r : State) : (r.yieldTo v p).view.probeReports = r.view.probeReports := by
    rcases r.yieldTo_cases v p with ⟨-, ended⟩ | ⟨ses, -, ⟨l, -, ended⟩ | ⟨-, ended⟩⟩ <;> simp [ended, State.yielded]
  cases own : (s.entry v).isOwn with
  | false =>
    rw [State.learnHeld_of_other s p v own] at presence ⊢
    split
    · exact .refl
    · exact ⟨by simp, by simp, by simp, by simp⟩
  | true =>
    refine ⟨by simp, presence, ?_, ?_⟩ <;> rw [State.learnHeld_of_own s p v own] <;> split
    · rfl
    · rw [probes]; rfl
    · exact le_counted _
    · obtain ⟨-, dual, -⟩ := s.countDual.yieldTo_view v p
      rw [dual]
      exact le_counted _

/-! ## One place of the maps -/

/-- What a place of the map of holds makes of trunk `v`, before that of the retirements is read (R118). -/
def State.placeHeld (s : State) (p : Slot) (held : Bool) (v : Trunk) : State :=
  if held then s.learnHeld v p
  else if (s.entry v).isHeldBy p then s.setEntry v ((s.entry v).freed s.scanTime) else s

theorem State.applyPlace_eq (held retired : Bool) : s.applyPlace p held retired v =
    if retired then (s.placeHeld p held v).applyRetire p v else (s.placeHeld p held v).applyRestore p v := rfl

theorem State.readsMap_setEntry (x : TrunkEntry) : s.ReadsMap (s.setEntry v x) :=
  ⟨⟨rfl, rfl, rfl, rfl, rfl⟩, rfl, rfl, BitVec.le_refl _⟩

theorem State.passesBy_setEntry (other : u ≠ v) (x : TrunkEntry) : s.PassesBy (s.setEntry v x) u :=
  .of_same (by simp [other]) ⟨rfl, rfl, rfl, rfl, rfl⟩

/-- The place of a retirement writes the trunk's entry alone (R117, R119). -/
theorem State.applyRetire_or_restore (retired : Bool) :
    ∃ x, (if retired then s.applyRetire p v else s.applyRestore p v) = s.setEntry v x := by
  have same : s.setEntry v (s.entry v) = s := by simp [State.setEntry, State.entry, State.setView]
  unfold State.applyRetire State.applyRestore State.setRetiredBy
  split <;> split
  · exact ⟨_, same.symm⟩
  · exact ⟨_, rfl⟩
  · exact ⟨_, rfl⟩
  · exact ⟨_, same.symm⟩

theorem State.readsMap_placeHeld (held : Bool) : s.ReadsMap (s.placeHeld p held v) := by
  unfold State.placeHeld
  split
  · exact State.readsMap_learnHeld
  · split
    · exact State.readsMap_setEntry _
    · exact .refl

theorem State.readsMap_applyPlace (held retired : Bool) : s.ReadsMap (s.applyPlace p held retired v) := by
  obtain ⟨x, written⟩ := (s.placeHeld p held v).applyRetire_or_restore (v := v) (p := p) retired
  rw [State.applyPlace_eq, written]
  exact (State.readsMap_placeHeld held).trans (State.readsMap_setEntry x)

theorem State.passesBy_applyPlace (other : u ≠ v) (held retired : Bool) :
    s.PassesBy (s.applyPlace p held retired v) u := by
  have learnt : s.PassesBy (s.placeHeld p held v) u := by
    unfold State.placeHeld
    split
    · exact State.passesBy_learnHeld other
    · split
      · exact State.passesBy_setEntry other _
      · exact .refl
  obtain ⟨x, written⟩ := (s.placeHeld p held v).applyRetire_or_restore (v := v) (p := p) retired
  rw [State.applyPlace_eq, written]
  exact learnt.trans (State.passesBy_setEntry other x)
end

end Sys2Proof.Machine
end

section
/-! What a REPORT's maps say of one trunk (R118 to R120, R162, R163). -/

namespace Sys2Proof.Machine
open Sys2Proof

/-! ## What a place says of its trunk -/

/-- The holder of entry `e` once peer `p` is said to hold the trunk, or not to (R118, R120). -/
def TrunkEntry.heldAfter (e : TrunkEntry) (slot p : Slot) (held : Bool) : Holding :=
  if held then
    if e.isHeldBy p = true ∨ (e.isOwn = true ∧ slot < p) then e.holding else .held p none
  else if e.isHeldBy p then .free else e.holding

/-- The retirer of entry `e` once peer `p` is said to retire the trunk, or not to, over what a yield's release retires
(R117, R119, R163). -/
def TrunkEntry.retiredAfter (e : TrunkEntry) (slot p : Slot) (yieldRetires retired : Bool) : Option Slot :=
  if yieldRetires then some slot
  else if retired then (if e.retiredBy = some slot then some slot else some p)
  else if e.retiredBy = some p then none else e.retiredBy

/-- Trunk `u` is yielded to peer `p`, which is said to hold it, and its retirement waited for its release (R120, R163). -/
def State.yieldRetires (s : State) (p : Slot) (held : Bool) (u : Trunk) : Bool :=
  held && (s.entry u).isOwn && decide (p < s.slot) && s.retireWaits u

/-- What the yield of trunk `u` leaves of its session, if it had one (R160, R162). -/
def State.Yielded (s r : State) (u : Trunk) : Prop :=
  ∀ ses, s.session u = some ses → r.session u = none ∧ r.sup.seize[u] = false ∧ r.tx.Carries (.release u .yield) ∧
    ∀ l : Line, ses.purpose = .line l → (r.call l).state = .lockout ∧ r.lko[l] = true

/-- From `s` to `r` a place of peer `p`'s maps is read for trunk `u`. -/
structure State.Placed (s r : State) (p : Slot) (held retired : Bool) (u : Trunk) : Prop where
  holding : (r.entry u).holding = (s.entry u).heldAfter s.slot p held
  freeSince : held = false → (s.entry u).isHeldBy p = true → (r.entry u).freeSince = s.scanTime
  retiredBy : (r.entry u).retiredBy = (s.entry u).retiredAfter s.slot p (s.yieldRetires p held u) retired
  dual : held = true → (s.entry u).isOwn = true → r.view.dualHolds = s.view.dualHolds → s.view.dualHolds = 255
  yielded : held = true → (s.entry u).isOwn = true → p < s.slot → s.Yielded r u

section
variable {s r t : State} {u : Trunk} {p : Slot} {held retired : Bool}

/-! ## The place of the trunk itself -/

theorem full_of_counted_eq {x : Byte} (same : counted x = x) : x = 255 := by
  unfold counted at same
  split at same
  · assumption
  · bv_omega

theorem TrunkEntry.not_isHeldBy_of_own {e : TrunkEntry} (own : e.isOwn = true) : e.isHeldBy p = false := by
  by_contra held
  simp [TrunkEntry.isOwn_of_held (by simpa using held)] at own

theorem State.yieldTo_retiredBy : ((s.yieldTo u p).entry u).retiredBy =
    if s.retireWaits u then some s.slot else (s.entry u).retiredBy := by
  have held : ((s.makeHeld u p none).entry u).retiredBy = (s.entry u).retiredBy := by
    rw [State.makeHeld_entry, if_pos rfl]
  have yielded : ((s.yielded u p).entry u).retiredBy = if s.retireWaits u then some s.slot else (s.entry u).retiredBy := by
    obtain ⟨retiredBy, -⟩ := (s.makeHeld u p none).endSession_entry u .yield
    rw [held] at retiredBy
    have waits : (s.makeHeld u p none).retireWaits u = s.retireWaits u := by simp [State.retireWaits, State.session]
    have slot : (s.makeHeld u p none).slot = s.slot := by simp [State.slot]
    rwa [waits, slot] at retiredBy
  rcases s.yieldTo_cases u p with ⟨shut, ended⟩ | ⟨ses, -, ⟨l, -, ended⟩ | ⟨-, ended⟩⟩
  · rw [ended, held]
    simp [State.retireWaits, shut]
  · rw [← yielded, ended]
    simp [State.entry]
  · rw [← yielded, ended]
    simp [State.entry]

/-- The hold is learnt, and what a yield's release retires (R118, R120, R162, R163). -/
theorem State.learnHeld_here (peer : p ≠ s.slot) :
    ((s.learnHeld u p).entry u).holding = (s.entry u).heldAfter s.slot p true ∧
    ((s.learnHeld u p).entry u).retiredBy =
      (if s.yieldRetires p true u then some s.slot else (s.entry u).retiredBy) ∧
    ((s.entry u).isOwn = true → (s.learnHeld u p).view.dualHolds = counted s.view.dualHolds) ∧
    ((s.entry u).isOwn = true → p < s.slot → s.Yielded (s.learnHeld u p) u) := by
  cases own : (s.entry u).isOwn with
  | false =>
    rw [State.learnHeld_of_other s p u own]
    refine ⟨?_, ?_, nofun, nofun⟩ <;> cases held : (s.entry u).isHeldBy p
    · simp [TrunkEntry.heldAfter, held, own, State.makeHeld]
    · simp [TrunkEntry.heldAfter, held]
    · simp [State.yieldRetires, own, State.makeHeld]
    · simp [State.yieldRetires, own]
  | true =>
    have unheld : (s.entry u).isHeldBy p = false := TrunkEntry.not_isHeldBy_of_own own
    rw [State.learnHeld_of_own s p u own]
    by_cases lower : s.slot < p
    · rw [if_pos lower]
      have stays : ¬ p < s.slot := not_lt_of_gt lower
      have entry : s.countDual.entry u = s.entry u := rfl
      refine ⟨?_, ?_, fun _ => rfl, fun _ higher => absurd higher stays⟩
      · simp [TrunkEntry.heldAfter, own, lower, entry]
      · simp [State.yieldRetires, stays, entry]
    · rw [if_neg lower]
      have higher : p < s.slot := lt_of_le_of_ne (not_lt.1 lower) peer
      obtain ⟨-, dual, holding, -⟩ := s.countDual.yieldTo_view u p
      refine ⟨?_, ?_, fun _ => dual, fun _ _ ses opened => ?_⟩
      · simp [TrunkEntry.heldAfter, own, lower, unheld, holding]
      · rw [State.yieldTo_retiredBy]
        simp only [State.yieldRetires, own, higher, decide_true, Bool.true_and]
        rfl
      · obtain ⟨shut, off, carried, locks⟩ := State.yieldTo_ends (s := s.countDual) p opened
        exact ⟨shut, off, carried, fun l owner => ⟨by rw [(locks l owner).call]; rfl, (locks l owner).lko⟩⟩

/-- What the map of holds says of the trunk (R118, R120). -/
theorem State.placeHeld_here (peer : p ≠ s.slot) (held : Bool) :
    ((s.placeHeld p held u).entry u).holding = (s.entry u).heldAfter s.slot p held ∧
    (held = false → (s.entry u).isHeldBy p = true → ((s.placeHeld p held u).entry u).freeSince = s.scanTime) ∧
    ((s.placeHeld p held u).entry u).retiredBy =
      (if s.yieldRetires p held u then some s.slot else (s.entry u).retiredBy) ∧
    (held = true → (s.entry u).isOwn = true → (s.placeHeld p held u).view.dualHolds = counted s.view.dualHolds) ∧
    (held = true → (s.entry u).isOwn = true → p < s.slot → s.Yielded (s.placeHeld p held u) u) := by
  cases held with
  | true =>
    obtain ⟨holding, retiredBy, dual, yielded⟩ := s.learnHeld_here (u := u) peer
    exact ⟨holding, nofun, retiredBy, fun _ => dual, fun _ => yielded⟩
  | false =>
    refine ⟨?_, fun _ holds => ?_, ?_, nofun, nofun⟩
    · cases holds : (s.entry u).isHeldBy p <;> simp [State.placeHeld, TrunkEntry.heldAfter, TrunkEntry.freed, holds]
    · simp [State.placeHeld, TrunkEntry.freed, holds]
    · cases holds : (s.entry u).isHeldBy p <;> simp [State.placeHeld, State.yieldRetires, TrunkEntry.freed, holds]

/-- The place of the map of retirements, read after that of the holds (R117, R119). -/
theorem State.applyPlace_retiredBy (held retired : Bool) : (s.applyPlace p held retired u).entry u =
    { (s.placeHeld p held u).entry u with
      retiredBy := ((s.placeHeld p held u).entry u).retiredAfter s.slot p false retired } := by
  have slot : (s.placeHeld p held u).slot = s.slot := (State.readsMap_placeHeld held).slot
  rw [State.applyPlace_eq]
  cases retired with
  | true =>
    rw [if_pos rfl, State.applyRetire_entry, if_pos rfl, slot]
    simp [TrunkEntry.retiredAfter]
  | false =>
    rw [if_neg (by simp), State.applyRestore_entry, if_pos rfl]
    simp [TrunkEntry.retiredAfter]

theorem State.placed_applyPlace (peer : p ≠ s.slot) (held retired : Bool) :
    s.Placed (s.applyPlace p held retired u) p held retired u := by
  obtain ⟨holding, freeSince, retiredBy, dual, yielded⟩ := State.placeHeld_here (s := s) (u := u) peer held
  obtain ⟨x, written⟩ := (s.placeHeld p held u).applyRetire_or_restore (v := u) (p := p) retired
  have entry := State.applyPlace_retiredBy (s := s) (p := p) (u := u) held retired
  have rest : s.applyPlace p held retired u = (s.placeHeld p held u).setEntry u x := written
  refine ⟨by rw [entry]; exact holding, fun unheld holds => ?_, ?_, fun heldNow own same => ?_,
    fun heldNow own higher => ?_⟩
  · rw [entry]
    exact freeSince unheld holds
  · rw [entry]
    dsimp only
    cases retires : s.yieldRetires p held u with
    | true =>
      rw [retires, if_pos rfl] at retiredBy
      cases retired <;> simp [TrunkEntry.retiredAfter, retiredBy, peer.symm]
    | false =>
      rw [retires, if_neg (by simp)] at retiredBy
      simp [TrunkEntry.retiredAfter, retiredBy]
  · rw [rest, State.setEntry_view_dualHolds, dual heldNow own] at same
    exact full_of_counted_eq same
  · rw [rest]
    exact yielded heldNow own higher

/-! ## A place among the others -/

/-- What a place says of its trunk stands where all that comes before and after leaves the trunk alone. -/
theorem State.Placed.among {s' r' : State} (h : s.Placed r p held retired u) (placed : s.ReadsMap r)
    (before : s'.PassesBy s u) (slot : s.slot = s'.slot) (time : s.scanTime = s'.scanTime)
    (dual : s'.view.dualHolds ≤ s.view.dualHolds) (after : r.PassesBy r' u)
    (goesOn : r.view.dualHolds ≤ r'.view.dualHolds) : s'.Placed r' p held retired u := by
  have retires : s.yieldRetires p held u = s'.yieldRetires p held u := by
    rw [State.yieldRetires, State.yieldRetires, State.retireWaits, State.retireWaits, before.session, before.entry, slot]
  refine ⟨?_, fun unheld holds => ?_, ?_, fun heldNow own same => ?_, fun heldNow own higher ses opened => ?_⟩
  · rw [after.entry, h.holding, before.entry, slot]
  · rw [after.entry, h.freeSince unheld (before.entry ▸ holds), time]
  · rw [after.entry, h.retiredBy, before.entry, slot, retires]
  · have back : r.view.dualHolds ≤ s'.view.dualHolds := same ▸ goesOn
    have stood : s.view.dualHolds = s'.view.dualHolds :=
      BitVec.le_antisymm (BitVec.le_trans placed.dual back) dual
    have stands : r.view.dualHolds = s.view.dualHolds := BitVec.le_antisymm (stood ▸ back) placed.dual
    exact stood ▸ h.dual heldNow (before.entry ▸ own) stands
  · obtain ⟨shut, off, carried, locks⟩ :=
      h.yielded heldNow (before.entry ▸ own) (slot ▸ higher) ses (before.session.trans opened)
    exact ⟨after.session.trans shut, after.seize.trans off, after.release carried,
      fun l owner => after.lockout l (locks l owner)⟩

/-- The places of these trunks in the maps of a REPORT are read one after another (R118, R119). -/
def State.applyPlaces (s : State) (p : Slot) (hm rm : Byte) (trunks : List Trunk) : State :=
  trunks.foldl (fun s v => s.applyPlace p (mapHas hm v) (mapHas rm v) v) s

section
variable {hm rm : Byte}

theorem State.readsMap_applyPlaces (trunks : List Trunk) : s.ReadsMap (s.applyPlaces p hm rm trunks) := by
  induction trunks generalizing s with
  | nil => exact .refl
  | cons v rest ih => exact (State.readsMap_applyPlace _ _).trans ih

theorem State.passesBy_applyPlaces {trunks : List Trunk} (absent : u ∉ trunks) :
    s.PassesBy (s.applyPlaces p hm rm trunks) u := by
  induction trunks generalizing s with
  | nil => exact .refl
  | cons v rest ih =>
    obtain ⟨other, notRest⟩ := not_or.1 (List.mem_cons.not.1 absent)
    exact (State.passesBy_applyPlace other _ _).trans (ih notRest)

theorem State.placed_applyPlaces (peer : p ≠ s.slot) {trunks : List Trunk} (once : trunks.Nodup) (read : u ∈ trunks) :
    s.Placed (s.applyPlaces p hm rm trunks) p (mapHas hm u) (mapHas rm u) u := by
  induction trunks generalizing s with
  | nil => cases read
  | cons v rest ih =>
    obtain ⟨fresh, onceRest⟩ := List.nodup_cons.1 once
    have reads : s.ReadsMap (s.applyPlace p (mapHas hm v) (mapHas rm v) v) := State.readsMap_applyPlace _ _
    rcases List.mem_cons.1 read with rfl | later
    · exact (State.placed_applyPlace peer _ _).among reads .refl rfl rfl (BitVec.le_refl _)
        (State.passesBy_applyPlaces fresh) (State.readsMap_applyPlaces rest).dual
    · have other : u ≠ v := fun same => fresh (same ▸ later)
      exact (ih (reads.slot ▸ peer) onceRest later).among (State.readsMap_applyPlaces rest)
        (State.passesBy_applyPlace other _ _) reads.slot reads.scanTime reads.dual .refl (BitVec.le_refl _)
end

/-! ## The rest settled -/

/-- What a place says stands when the rest is settled, but of a home trunk in ISOLATED (R125, R147). -/
theorem State.Placed.settle (h : s.Placed r p held retired u) (ctl : r.ctl = s.ctl)
    (spared : s.ctl.station ≠ .isolated ∨ u ≠ s.slot) : s.Placed r.settle p held retired u := by
  have left : r.settle.entry u = { r.entry u with seizures := (r.settle.entry u).seizures } :=
    State.settle_entry_but_seizures (by rw [State.slot, ctl]; exact spared)
  refine ⟨by rw [left]; exact h.holding, fun unheld holds => by rw [left]; exact h.freeSince unheld holds,
    by rw [left]; exact h.retiredBy, fun heldNow own same => ?_, fun heldNow own higher ses opened => ?_⟩
  · refine h.dual heldNow own (Eq.trans ?_ same)
    simp
  · obtain ⟨shut, off, carried, locks⟩ := h.yielded heldNow own higher ses opened
    have busy : (r.entry u).holding ≠ .free := by
      rw [h.holding, heldNow, TrunkEntry.heldAfter, if_pos rfl]
      split
      · exact TrunkEntry.holding_of_isOwn own
      · simp
    obtain ⟨session, seize, -, -⟩ := State.settle_rests shut busy
    refine ⟨session.trans shut, seize.trans off, State.carries_settle carried (by simp [TxFrame.key]), fun l owner => ?_⟩
    obtain ⟨state, lko⟩ := locks l owner
    obtain ⟨call, -⟩ := sameLine_settle r (m := l) (.inl (by simp [state])) (by simp [state])
    exact ⟨by rw [call]; exact state, by simpa using lko⟩
end

end Sys2Proof.Machine
end

section
/-! O42: a peer's REPORT (R118 to R120, R127, R162, R193). -/

namespace Sys2Proof.Machine
open Sys2Proof

section
variable {s : State} {p : Slot} {hm rm : Byte}

/-! ## The REPORT of a peer -/

/-- A REPORT refreshes its sender, reads its maps for the fitted trunks, and sets the trunk count and the mismatch (R118,
R127). -/
theorem State.applyReport_eq (n : Nat) (mm : Bool) : s.applyReport p n hm rm mm =
    ((s.refresh p).applyPlaces p hm rm ((List.finRange 8).filter s.fitted)).setPeer p
      { ((s.refresh p).applyPlaces p hm rm ((List.finRange 8).filter s.fitted)).peer p with
        trunkCount := some n
        mismatch := mm || n ≠ ((s.refresh p).applyPlaces p hm rm ((List.finRange 8).filter s.fitted)).n } := by
  have fitted : (s.refresh p).fitted = s.fitted := funext fun _ => State.refresh_fitted p
  rw [State.applyReport, fitted]
  rfl

theorem State.applyReport_peer (peer : p ≠ s.slot) (n : Nat) (mm : Bool) (q : Slot) :
    (s.applyReport p n hm rm mm).peer q = if q = p then
      { heard := some s.scanTime, trunkCount := some n, mismatch := mm || decide (n ≠ s.n) } else s.peer q := by
  have reads : (s.refresh p).ReadsMap ((s.refresh p).applyPlaces p hm rm ((List.finRange 8).filter s.fitted)) :=
    State.readsMap_applyPlaces _
  have heard (x : Slot) : ((s.refresh p).applyPlaces p hm rm ((List.finRange 8).filter s.fitted)).peer x =
      (s.refresh p).peer x := by
    rw [State.peer, reads.presence]
    rfl
  have trunks : ((s.refresh p).applyPlaces p hm rm ((List.finRange 8).filter s.fitted)).n = s.n := by
    obtain ⟨-, ctl, -⟩ := reads.frame
    rw [State.n, ctl]
    simp [State.n]
  rw [State.applyReport_eq, State.setPeer_peer]
  by_cases hq : q = p
  · subst hq
    simp [heard, trunks, State.refresh_peer, peer]
  · rw [if_neg hq, if_neg hq, heard, State.refresh_peer, if_neg fun both => hq both.1]

/-- What a REPORT says of a fitted trunk (R118 to R120). -/
theorem State.placed_applyReport (peer : p ≠ s.slot) (n : Nat) (mm : Bool) {u : Trunk} (fitted : s.fitted u = true) :
    s.Placed (s.applyReport p n hm rm mm) p (mapHas hm u) (mapHas rm u) u := by
  have read : u ∈ (List.finRange 8).filter s.fitted := List.mem_filter.2 ⟨List.mem_finRange u, fitted⟩
  have once : ((List.finRange 8).filter s.fitted).Nodup := (List.nodup_finRange 8).filter _
  have placed : (s.refresh p).Placed ((s.refresh p).applyPlaces p hm rm ((List.finRange 8).filter s.fitted)) p
      (mapHas hm u) (mapHas rm u) u := State.placed_applyPlaces (by rwa [State.refresh_slot]) once read
  have refreshed : s.PassesBy (s.refresh p) u := .of_same (congrFun (State.refresh_entry p) u) (by simp)
  have dual : s.view.dualHolds ≤ (s.refresh p).view.dualHolds := by
    rw [(s.refresh_view p).2]
    exact BitVec.le_refl _
  rw [State.applyReport_eq]
  exact placed.among (State.readsMap_applyPlaces _) refreshed (State.refresh_slot p) (by simp [State.scanTime]) dual
    (.of_same rfl ⟨rfl, rfl, rfl, rfl, rfl⟩) (BitVec.le_refl _)

theorem State.applyReport_rest (n : Nat) (mm : Bool) : (s.applyReport p n hm rm mm).ctl = s.ctl ∧
    (s.applyReport p n hm rm mm).iso = s.iso ∧ (s.applyReport p n hm rm mm).scan = s.scan ∧
    (s.applyReport p n hm rm mm).link = s.link ∧
    (s.applyReport p n hm rm mm).view.probeReports = s.view.probeReports := by
  have reads : (s.refresh p).ReadsMap ((s.refresh p).applyPlaces p hm rm ((List.finRange 8).filter s.fitted)) :=
    State.readsMap_applyPlaces _
  obtain ⟨-, ctl, iso, scan, link⟩ := reads.frame
  have probes : (s.refresh p).view.probeReports = s.view.probeReports := by
    unfold State.refresh
    split <;> rfl
  rw [State.applyReport_eq]
  exact ⟨ctl.trans (by simp), iso.trans (by simp), scan.trans (by simp), link.trans (by simp), reads.probes.trans probes⟩

/-- A REPORT read and settled: the peer is heard with its trunk count and its mismatch, and each fitted trunk is as the
maps say (R118, R127). -/
theorem State.applyReport_settles (peer : p ≠ s.slot) (n : Nat) (mm : Bool) {r : State}
    (settled : r = (s.applyReport p n hm rm mm).settle) : r.ctl = s.ctl ∧ r.iso = s.iso ∧ r.scan = s.scan ∧
    r.link = s.link ∧ r.view.probeReports = s.view.probeReports ∧
    (∀ q, r.peer q = if q = p then
      { heard := some s.scanTime, trunkCount := some n, mismatch := mm || decide (n ≠ s.n) } else s.peer q) ∧
    ∀ u, s.fitted u = true → s.ctl.station ≠ .isolated ∨ u ≠ s.slot →
      s.Placed r p (mapHas hm u) (mapHas rm u) u := by
  subst settled
  obtain ⟨ctl, iso, scan, link, probes⟩ := State.applyReport_rest (s := s) (p := p) (hm := hm) (rm := rm) n mm
  refine ⟨by simpa using ctl, by simpa using iso, by simpa using scan, by simpa using link, by simpa using probes,
    fun q => ?_, fun u fitted spared => (State.placed_applyReport peer n mm fitted).settle ctl spared⟩
  rw [State.settle_peer, State.applyReport_peer peer]
end

/-! ## What the maps say, as the obligation says it -/

section
variable {s t : State} {p : Slot} {held retired : Bool} {u : Trunk}

/-- What the maps of peer `p` say of trunk `u`, from `s` to `t` at scan time `time` (R118 to R120, R162, R163). -/
def State.MapsTeach (s t : State) (p : Slot) (held retired : Bool) (u : Trunk) (time : Nat) : Prop :=
  (held = true → (s.entry u).isHeldBy p = false → (s.entry u).isOwn = false → (t.entry u).holding = .held p none) ∧
  (held = true → (s.entry u).isOwn = true → s.slot < p → (t.entry u).holding = (s.entry u).holding ∧
    (t.view.dualHolds = s.view.dualHolds → s.view.dualHolds = 255)) ∧
  (held = true → (s.entry u).isOwn = true → p < s.slot → (t.entry u).holding = .held p none ∧
    ∀ ses, s.session u = some ses → t.session u = none ∧ t.sup.seize[u] = false ∧ t.tx.Holds (.release u .yield) ∧
      ∀ l, ses.purpose = .line l → (t.call l).state = .lockout ∧ t.lko[l] = true) ∧
  (held = true → (s.entry u).isHeldBy p = true → (t.entry u).holding = (s.entry u).holding) ∧
  (held = false → (s.entry u).isHeldBy p = true → (t.entry u).holding = .free ∧ (t.entry u).freeSince = time) ∧
  (held = false → (s.entry u).isHeldBy p = false → (t.entry u).holding = (s.entry u).holding) ∧
  (if held = true ∧ (s.entry u).isOwn = true ∧ p < s.slot ∧ s.retireWaits u = true then
    (t.entry u).retiredBy = some s.slot
  else (t.entry u).retiredBy =
    (if retired then (if (s.entry u).retiredBy = some s.slot then some s.slot else some p)
    else if (s.entry u).retiredBy = some p then none else (s.entry u).retiredBy))

theorem State.Placed.mapsTeach (h : s.Placed t p held retired u) : s.MapsTeach t p held retired u s.scanTime := by
  refine ⟨fun now unheld other => ?_, fun now own lower => ⟨?_, h.dual now own⟩, fun now own higher => ⟨?_, ?_⟩,
    fun now holds => ?_, fun now holds => ⟨?_, h.freeSince now holds⟩, fun now unheld => ?_, ?_⟩
  · simp [h.holding, TrunkEntry.heldAfter, now, unheld, other]
  · simp [h.holding, TrunkEntry.heldAfter, now, own, lower]
  · simp [h.holding, TrunkEntry.heldAfter, now, TrunkEntry.not_isHeldBy_of_own own, not_lt_of_gt higher]
  · intro ses opened
    obtain ⟨shut, off, carried, locks⟩ := h.yielded now own higher ses opened
    exact ⟨shut, off, carried.holds, locks⟩
  · simp [h.holding, TrunkEntry.heldAfter, now, holds]
  · simp [h.holding, TrunkEntry.heldAfter, now, holds]
  · simp [h.holding, TrunkEntry.heldAfter, now, unheld]
  · have retires : s.yieldRetires p held u = true ↔
        held = true ∧ (s.entry u).isOwn = true ∧ p < s.slot ∧ s.retireWaits u = true := by
      simp [State.yieldRetires, and_assoc]
    rw [h.retiredBy, TrunkEntry.retiredAfter]
    by_cases yields : s.yieldRetires p held u = true
    · rw [if_pos yields, if_pos (retires.1 yields)]
    · rw [if_neg yields, if_neg fun all => yields (retires.2 all)]
end

/-! ## The obligation -/

/-- An isolated probe heard and settled only counts, but for a take of the home trunk in ISOLATED (R125, R147, R193). -/
theorem State.countProbe_settles (s : State) : s.countProbe.settle.view.probeReports = counted s.view.probeReports ∧
    s.countProbe.settle.view.presence = s.view.presence ∧ s.countProbe.settle.view.dualHolds = s.view.dualHolds ∧
    ∀ u, s.ctl.station ≠ .isolated ∨ (u ≠ s.slot ∧ (s.entry s.slot).seizures ≠ 65535) →
      s.countProbe.settle.entry u = s.entry u := by
  refine ⟨by simp [State.countProbe], by simp [State.countProbe], by simp [State.countProbe], fun u spared => ?_⟩
  exact State.settle_entry_of_spared (s := s.countProbe) (spared.imp id .inr)

theorem Link.afterData_read (k : Link) (bytes : List Byte) (mayReply : Bool) (n : Nat) :
    (k.afterData bytes mayReply n).rx = .afterData ∧ (k.afterData bytes mayReply n).rxErrors = k.rxErrors := by
  simp [Link.afterData, Link.recessive_eq]

/-- Settles O42: the places of the maps are read one by one, each for its own trunk, and settling spares what they say. -/
theorem reportTeachesTheViewAndResolvesDualHolds : Obligations.ReportTeachesTheViewAndResolvesDualHolds := by
  unfold Obligations.ReportTeachesTheViewAndResolvesDualHolds
  intro s w p n hm rm probe mm run peer low high follows
  have valid : (LinkFrame.report p n hm rm probe mm).valid = true := by simp [LinkFrame.valid, low, high]
  have read := (exec_report_heard run valid follows).trans (congrArg _ (State.handToView_peer follows.unmarked peer))
  obtain ⟨rx, errors⟩ := s.link.afterData_read (encodeFrame (.report p n hm rm probe mm)) false (max s.now w)
  cases probe with
  | true =>
    exact ⟨_, read, by simp, by simp, by simp, by simpa using rx, by simpa using errors,
      fun _ => State.countProbe_settles (s.atEod w (encodeFrame (.report p n hm rm true mm))), nofun⟩
  | false =>
    obtain ⟨ctl, iso, scan, link, probes, heard, maps⟩ := State.applyReport_settles (p := p) (hm := hm) (rm := rm)
      (s := s.atEod w (encodeFrame (.report p n hm rm false mm))) peer n mm rfl
    exact ⟨_, read, ctl, iso, scan, (congrArg Link.rx link).trans rx, (congrArg Link.rxErrors link).trans errors, nofun,
      fun _ => ⟨(heard p).trans (if_pos rfl), fun q other => (heard q).trans (if_neg other), probes,
        fun u fitted spared => (maps u fitted spared).mapsTeach⟩⟩

end Sys2Proof.Machine
end
